-- ==== Sys2Proof/Word.lean ====
section
/-! DEFINITION. The bit widths of the spec (20_memory.md rule R122): byte, word, doubleword, quadword and the
80-bit extended real, as plain abbreviations of `BitVec`. -/

namespace Sys2Proof

/-- A byte is eight bits (R122). -/
abbrev Byte := BitVec 8

/-- A word is 2 bytes (R122). -/
abbrev Word := BitVec 16

/-- A doubleword is 4 bytes (R122). -/
abbrev DWord := BitVec 32

/-- A quadword is 8 bytes (R122). -/
abbrev QWord := BitVec 64

/-- A floating-point data register: 80 bits in extended-real format (10_state.md R100). -/
abbrev Ext := BitVec 80

end Sys2Proof
end

