-- ==== Sys2Proof/Config.lean ====
section
/-! DEFINITION. What an implementation or the platform fixes (the parameters of 92_eei_decisions.md, at the defaults
that table gives), and the FREE VALUES: opaque constants without a body, which stand for every value the spec calls
undefined, unstated or supplied by the host. Nothing can evaluate them, so a theorem holds for every choice. -/

namespace Sys2Proof.Config

/-- Parameter `UndefBits` (93_implementation_defined.md Part 1): the `n`-th draw of `w` undefined bits.
DESIGN CHOICE, log 4; safe: no theorem can know a draw. -/
opaque freeBits (w n : Nat) : BitVec w

/-- Parameter `TSC` (10_state.md R98; 60_exceptions.md R885): how far beyond the least possible advance of 1 the
time-stamp counter moves at the `n`-th draw. Log 6. -/
opaque tscAdvance (n : Nat) : Nat

/-- Parameter `HOST_MEMORY` (00_scope.md R12): what a physical address that holds nothing answers to the `n`-th draw.
Log 56. -/
opaque holeByte (a n : Nat) : Byte

/-- 10_state.md R97: the value a performance counter shows at the `n`-th draw. Log 6. -/
opaque pmcValue (n : Nat) : BitVec 40

/-- Parameter `FPREM_N` (48_fpu_arithmetic_1.md R656): the reduction step of FPREM and FPREM1 for a dividend and a
modulus is `32` plus this, so a number from 32 to 63. Log 28. -/
opaque fpremStep (dividend modulus : BitVec 80) : BitVec 5

/-- The functions of the parameter `Transcend` (00_scope.md R12); FSINCOS computes its sine and its cosine in its own way. -/
inductive Transcend where
  | f2xm1 | fpatan | fyl2x | fyl2xp1 | fsin | fcos | fptan | sincosSin | sincosCos
deriving DecidableEq, Repr

/-- Parameter `Transcend` (46_fpu_numerics.md R560, 92_eei_decisions.md D30): the result that an implementation computes for
RC and the operands ST(1) and ST(0), as the 63 bits below the leading one of its magnitude. It counts where
`Machine.admissible` says that the implementation keeps to R560. Log 27. -/
opaque transcendFrac (op : Transcend) (rc : BitVec 2) (y x : BitVec 80) : BitVec 63

/-- The exponent of that leading one. -/
opaque transcendExp (op : Transcend) (rc : BitVec 2) (y x : BitVec 80) : Int

/-- Whether the last rounding of that result, to nearest, increased the magnitude (C1); also the bits that the pages leave
open where the result itself is given. Log 27. -/
opaque transcendBit (op : Transcend) (rc : BitVec 2) (y x : BitVec 80) : Bool

/-- The argument of a trigonometric function is reduced to the nearest multiple of 2 pi as FPREM1 does it, not toward zero as
FPREM does it (46_fpu_numerics.md R561 names both). Log 27. -/
opaque reduceNearest : Bool

/-- Parameter `CPUID_STEPPING`, default 0 (92_eei_decisions.md Part 2). -/
def cpuidStepping : BitVec 4 := 0

/-- Parameter `CPUID_SIGNATURE`: family 6, model 1, the stepping (R116, R488). -/
def cpuidSignature : DWord := 0x00000610#32 ||| cpuidStepping.setWidth 32

/-- Parameter `APIC_ENABLED`, default false: bit 9 of the CPUID feature flags (92_eei_decisions.md D27). -/
def apicEnabled : Bool := false

/-- Parameter `CPUID_CACHE_DESCRIPTORS`: EAX, EBX, ECX, EDX of CPUID(2), the page's example (R489). -/
def cpuidCache : DWord × DWord × DWord × DWord := (0x03020101#32, 0#32, 0#32, 0x06040A42#32)

/-- Parameter `GATE_TYPES_AS_PRINTED`, default false (20_memory.md R144, 92_eei_decisions.md D67). -/
def gateTypesAsPrinted : Bool := false

/-- Parameter `A20M`, default false: no masking of address bit 20 in real-address mode (92_eei_decisions.md Part 2). -/
def a20Masked : Bool := false

/-- Parameter `EXPAND_DOWN`: expand-down data segments are accepted. PRESUMED, log 17: the table suggests false, which
refuses a load of one. -/
def expandDown : Bool := true

/-- The address of the time-stamp counter as a model-specific register (49_system_1.md R773: from general knowledge). -/
def msrTsc : DWord := 0x10#32

/-- Parameter `MSR_SET` (10_state.md R96): the model-specific registers that exist, each with its address, its value after
RESET and the mask of the bits that may be written. The default is the time-stamp counter alone. -/
def msrSet : List (DWord × QWord × QWord) := [(msrTsc, 0#64, 0xFFFFFFFFFFFFFFFF#64)]

end Sys2Proof.Config
end

