-- ==== Sys2Proof/Syntax.lean ====
section
/-! DEFINITION. The whole instruction syntax: one constructor of `Instr` for every row of spec/opcode_table.json
(30_encoding.md rules R220 to R224), the eleven prefix bytes and the composite 9B forms among them. Operands keep the
shape of the encoding (30_encoding.md rules R181 to R185, R190 to R193, R216), so that every instruction has exactly
one encoding in a given operand-size and address-size context. -/

namespace Sys2Proof

/-- A register code of 30_encoding.md R183 (Reg8, Reg16 or Reg32 by the form), or the `i` of ST(i) (R185). -/
abbrev Reg := BitVec 3

/-- The six segment registers, in encoding order ES=0 to GS=5 (R184). -/
inductive SegReg where
  | es | cs | ss | ds | fs | gs
deriving DecidableEq, Repr

/-- The displacement of a 16-bit addressing form with a register part (R190): mod 00, 01 and 10. -/
inductive Disp16 where
  | none
  | d8 (d : BitVec 8)
  | d16 (d : BitVec 16)
deriving DecidableEq, Repr

/-- The displacement of a 32-bit addressing form with a base register (R191): mod 00, 01 and 10. -/
inductive Disp32 where
  | none
  | d8 (d : BitVec 8)
  | d32 (d : BitVec 32)
deriving DecidableEq, Repr

/-- A ModR/M memory operand, as it is encoded (R190 for AS = 16, R191 for AS = 32). -/
inductive Ea where
  /-- AS = 16, a row of Table 11-1 with registers; `rm` is the r/m field. -/
  | a16 (rm : Reg) (d : Disp16)
  /-- AS = 16, mod 00 and r/m 110: disp16 alone. -/
  | abs16 (d : BitVec 16)
  /-- AS = 32, a base register and no SIB byte. -/
  | a32 (base : Reg) (d : Disp32)
  /-- AS = 32, mod 00 and r/m 101: disp32 alone. -/
  | abs32 (d : BitVec 32)
  /-- AS = 32, a SIB byte with a base register; index 100 means no index. -/
  | sib (scale : BitVec 2) (index base : Reg) (d : Disp32)
  /-- AS = 32, a SIB byte with base 101 and mod 00: disp32 and no base register. -/
  | sibNoBase (scale : BitVec 2) (index : Reg) (d : BitVec 32)
deriving DecidableEq, Repr

/-- An r/m operand (R193): a register (mod 11) or memory. -/
inductive RM where
  | reg (r : Reg)
  | mem (e : Ea)
deriving DecidableEq, Repr

/-- The offset field of the moffs forms: AS/8 bytes (R216). -/
inductive Moffs where
  | o16 (o : BitVec 16)
  | o32 (o : BitVec 32)
deriving DecidableEq, Repr

/-- The instructions: one constructor for each row of spec/opcode_table.json, in the table's order. A constructor's
docstring is its row: mnemonic, operand column, opcode column and the rule that gives its behaviour. -/
inductive Instr where
  /-- LOCK : `F0` (R200). -/
  | lock
  /-- REPNE : `F2` (R448). -/
  | repne
  /-- REP : `F3` (R448). -/
  | rep
  /-- CS: : `2E` (R176). -/
  | segCs
  /-- SS: : `36` (R176). -/
  | segSs
  /-- DS: : `3E` (R176). -/
  | segDs
  /-- ES: : `26` (R176). -/
  | segEs
  /-- FS: : `64` (R176). -/
  | segFs
  /-- GS: : `65` (R176). -/
  | segGs
  /-- OPSIZE : `66` (R174). -/
  | opSize
  /-- ADDRSIZE : `67` (R175). -/
  | addrSize
  /-- BSWAP r32 : `0F C8+rd` (R250). -/
  | bswapR32 (r : Reg)
  /-- CBW : `98` with OS=16 (R251). -/
  | cbw
  /-- CWDE : `98` with OS=32 (R251). -/
  | cwde
  /-- CMOVO r16,r/m16 : `0F 40 /r` with OS=16 (R252). -/
  | cmovoR16Rm16 (r : Reg) (rm : RM)
  /-- CMOVNO r16,r/m16 : `0F 41 /r` with OS=16 (R252). -/
  | cmovnoR16Rm16 (r : Reg) (rm : RM)
  /-- CMOVB r16,r/m16 : `0F 42 /r` with OS=16 (R252). -/
  | cmovbR16Rm16 (r : Reg) (rm : RM)
  /-- CMOVAE r16,r/m16 : `0F 43 /r` with OS=16 (R252). -/
  | cmovaeR16Rm16 (r : Reg) (rm : RM)
  /-- CMOVE r16,r/m16 : `0F 44 /r` with OS=16 (R252). -/
  | cmoveR16Rm16 (r : Reg) (rm : RM)
  /-- CMOVNE r16,r/m16 : `0F 45 /r` with OS=16 (R252). -/
  | cmovneR16Rm16 (r : Reg) (rm : RM)
  /-- CMOVBE r16,r/m16 : `0F 46 /r` with OS=16 (R252). -/
  | cmovbeR16Rm16 (r : Reg) (rm : RM)
  /-- CMOVA r16,r/m16 : `0F 47 /r` with OS=16 (R252). -/
  | cmovaR16Rm16 (r : Reg) (rm : RM)
  /-- CMOVS r16,r/m16 : `0F 48 /r` with OS=16 (R252). -/
  | cmovsR16Rm16 (r : Reg) (rm : RM)
  /-- CMOVNS r16,r/m16 : `0F 49 /r` with OS=16 (R252). -/
  | cmovnsR16Rm16 (r : Reg) (rm : RM)
  /-- CMOVP r16,r/m16 : `0F 4A /r` with OS=16 (R252). -/
  | cmovpR16Rm16 (r : Reg) (rm : RM)
  /-- CMOVNP r16,r/m16 : `0F 4B /r` with OS=16 (R252). -/
  | cmovnpR16Rm16 (r : Reg) (rm : RM)
  /-- CMOVL r16,r/m16 : `0F 4C /r` with OS=16 (R252). -/
  | cmovlR16Rm16 (r : Reg) (rm : RM)
  /-- CMOVGE r16,r/m16 : `0F 4D /r` with OS=16 (R252). -/
  | cmovgeR16Rm16 (r : Reg) (rm : RM)
  /-- CMOVLE r16,r/m16 : `0F 4E /r` with OS=16 (R252). -/
  | cmovleR16Rm16 (r : Reg) (rm : RM)
  /-- CMOVG r16,r/m16 : `0F 4F /r` with OS=16 (R252). -/
  | cmovgR16Rm16 (r : Reg) (rm : RM)
  /-- CMOVO r32,r/m32 : `0F 40 /r` with OS=32 (R252). -/
  | cmovoR32Rm32 (r : Reg) (rm : RM)
  /-- CMOVNO r32,r/m32 : `0F 41 /r` with OS=32 (R252). -/
  | cmovnoR32Rm32 (r : Reg) (rm : RM)
  /-- CMOVB r32,r/m32 : `0F 42 /r` with OS=32 (R252). -/
  | cmovbR32Rm32 (r : Reg) (rm : RM)
  /-- CMOVAE r32,r/m32 : `0F 43 /r` with OS=32 (R252). -/
  | cmovaeR32Rm32 (r : Reg) (rm : RM)
  /-- CMOVE r32,r/m32 : `0F 44 /r` with OS=32 (R252). -/
  | cmoveR32Rm32 (r : Reg) (rm : RM)
  /-- CMOVNE r32,r/m32 : `0F 45 /r` with OS=32 (R252). -/
  | cmovneR32Rm32 (r : Reg) (rm : RM)
  /-- CMOVBE r32,r/m32 : `0F 46 /r` with OS=32 (R252). -/
  | cmovbeR32Rm32 (r : Reg) (rm : RM)
  /-- CMOVA r32,r/m32 : `0F 47 /r` with OS=32 (R252). -/
  | cmovaR32Rm32 (r : Reg) (rm : RM)
  /-- CMOVS r32,r/m32 : `0F 48 /r` with OS=32 (R252). -/
  | cmovsR32Rm32 (r : Reg) (rm : RM)
  /-- CMOVNS r32,r/m32 : `0F 49 /r` with OS=32 (R252). -/
  | cmovnsR32Rm32 (r : Reg) (rm : RM)
  /-- CMOVP r32,r/m32 : `0F 4A /r` with OS=32 (R252). -/
  | cmovpR32Rm32 (r : Reg) (rm : RM)
  /-- CMOVNP r32,r/m32 : `0F 4B /r` with OS=32 (R252). -/
  | cmovnpR32Rm32 (r : Reg) (rm : RM)
  /-- CMOVL r32,r/m32 : `0F 4C /r` with OS=32 (R252). -/
  | cmovlR32Rm32 (r : Reg) (rm : RM)
  /-- CMOVGE r32,r/m32 : `0F 4D /r` with OS=32 (R252). -/
  | cmovgeR32Rm32 (r : Reg) (rm : RM)
  /-- CMOVLE r32,r/m32 : `0F 4E /r` with OS=32 (R252). -/
  | cmovleR32Rm32 (r : Reg) (rm : RM)
  /-- CMOVG r32,r/m32 : `0F 4F /r` with OS=32 (R252). -/
  | cmovgR32Rm32 (r : Reg) (rm : RM)
  /-- CMPXCHG r/m8,r8 : `0F B0 /r` (R253). -/
  | cmpxchgRm8R8 (rm : RM) (r : Reg)
  /-- CMPXCHG r/m16,r16 : `0F B1 /r` with OS=16 (R253). -/
  | cmpxchgRm16R16 (rm : RM) (r : Reg)
  /-- CMPXCHG r/m32,r32 : `0F B1 /r` with OS=32 (R253). -/
  | cmpxchgRm32R32 (rm : RM) (r : Reg)
  /-- CMPXCHG8B m64 : `0F C7 /1` (R254). -/
  | cmpxchg8bM64 (ea : Ea)
  /-- CWD : `99` with OS=16 (R255). -/
  | cwd
  /-- CDQ : `99` with OS=32 (R255). -/
  | cdq
  /-- MOV r/m8,r8 : `88 /r` (R256). -/
  | movRm8R8 (rm : RM) (r : Reg)
  /-- MOV r/m16,r16 : `89 /r` with OS=16 (R256). -/
  | movRm16R16 (rm : RM) (r : Reg)
  /-- MOV r/m32,r32 : `89 /r` with OS=32 (R256). -/
  | movRm32R32 (rm : RM) (r : Reg)
  /-- MOV r8,r/m8 : `8A /r` (R256). -/
  | movR8Rm8 (r : Reg) (rm : RM)
  /-- MOV r16,r/m16 : `8B /r` with OS=16 (R256). -/
  | movR16Rm16 (r : Reg) (rm : RM)
  /-- MOV r32,r/m32 : `8B /r` with OS=32 (R256). -/
  | movR32Rm32 (r : Reg) (rm : RM)
  /-- MOV r/m16,Sreg : `8C /r` (R256). -/
  | movRm16Sreg (rm : RM) (sr : SegReg)
  /-- MOV Sreg,r/m16 : `8E /r` (R256). -/
  | movSregRm16 (sr : SegReg) (rm : RM)
  /-- MOV AL,moffs8 : `A0` (R256). -/
  | movAlMoffs8 (mo : Moffs)
  /-- MOV AX,moffs16 : `A1` with OS=16 (R256). -/
  | movAxMoffs16 (mo : Moffs)
  /-- MOV EAX,moffs32 : `A1` with OS=32 (R256). -/
  | movEaxMoffs32 (mo : Moffs)
  /-- MOV moffs8,AL : `A2` (R256). -/
  | movMoffs8Al (mo : Moffs)
  /-- MOV moffs16,AX : `A3` with OS=16 (R256). -/
  | movMoffs16Ax (mo : Moffs)
  /-- MOV moffs32,EAX : `A3` with OS=32 (R256). -/
  | movMoffs32Eax (mo : Moffs)
  /-- MOV r8,imm8 : `B0+rb ib` (R256). -/
  | movR8Imm8 (r : Reg) (imm : BitVec 8)
  /-- MOV r16,imm16 : `B8+rw iw` with OS=16 (R256). -/
  | movR16Imm16 (r : Reg) (imm : BitVec 16)
  /-- MOV r32,imm32 : `B8+rd id` with OS=32 (R256). -/
  | movR32Imm32 (r : Reg) (imm : BitVec 32)
  /-- MOV r/m8,imm8 : `C6 /0 ib` (R256). -/
  | movRm8Imm8 (rm : RM) (imm : BitVec 8)
  /-- MOV r/m16,imm16 : `C7 /0 iw` with OS=16 (R256). -/
  | movRm16Imm16 (rm : RM) (imm : BitVec 16)
  /-- MOV r/m32,imm32 : `C7 /0 id` with OS=32 (R256). -/
  | movRm32Imm32 (rm : RM) (imm : BitVec 32)
  /-- MOVSX r16,r/m8 : `0F BE /r` with OS=16 (R257). -/
  | movsxR16Rm8 (r : Reg) (rm : RM)
  /-- MOVSX r32,r/m8 : `0F BE /r` with OS=32 (R257). -/
  | movsxR32Rm8 (r : Reg) (rm : RM)
  /-- MOVSX r32,r/m16 : `0F BF /r` with OS=32 (R257). -/
  | movsxR32Rm16 (r : Reg) (rm : RM)
  /-- MOVZX r16,r/m8 : `0F B6 /r` with OS=16 (R258). -/
  | movzxR16Rm8 (r : Reg) (rm : RM)
  /-- MOVZX r32,r/m8 : `0F B6 /r` with OS=32 (R258). -/
  | movzxR32Rm8 (r : Reg) (rm : RM)
  /-- MOVZX r32,r/m16 : `0F B7 /r` with OS=32 (R258). -/
  | movzxR32Rm16 (r : Reg) (rm : RM)
  /-- POP m16 : `8F /0` with OS=16 (R259). -/
  | popM16 (rm : RM)
  /-- POP m32 : `8F /0` with OS=32 (R259). -/
  | popM32 (rm : RM)
  /-- POP r16 : `58+rw` with OS=16 (R259). -/
  | popR16 (r : Reg)
  /-- POP r32 : `58+rd` with OS=32 (R259). -/
  | popR32 (r : Reg)
  /-- POP DS : `1F` (R259). -/
  | popDs
  /-- POP ES : `07` (R259). -/
  | popEs
  /-- POP SS : `17` (R259). -/
  | popSs
  /-- POP FS : `0F A1` (R259). -/
  | popFs
  /-- POP GS : `0F A9` (R259). -/
  | popGs
  /-- POPA : `61` with OS=16 (R260). -/
  | popa
  /-- POPAD : `61` with OS=32 (R260). -/
  | popad
  /-- PUSH r/m16 : `FF /6` with OS=16 (R261). -/
  | pushRm16 (rm : RM)
  /-- PUSH r/m32 : `FF /6` with OS=32 (R261). -/
  | pushRm32 (rm : RM)
  /-- PUSH r16 : `50+rw` with OS=16 (R261). -/
  | pushR16 (r : Reg)
  /-- PUSH r32 : `50+rd` with OS=32 (R261). -/
  | pushR32 (r : Reg)
  /-- PUSH imm8 : `6A ib` (R261). -/
  | pushImm8 (imm : BitVec 8)
  /-- PUSH imm16 : `68 iw` with OS=16 (R261). -/
  | pushImm16 (imm : BitVec 16)
  /-- PUSH imm32 : `68 id` with OS=32 (R261). -/
  | pushImm32 (imm : BitVec 32)
  /-- PUSH CS : `0E` (R261). -/
  | pushCs
  /-- PUSH SS : `16` (R261). -/
  | pushSs
  /-- PUSH DS : `1E` (R261). -/
  | pushDs
  /-- PUSH ES : `06` (R261). -/
  | pushEs
  /-- PUSH FS : `0F A0` (R261). -/
  | pushFs
  /-- PUSH GS : `0F A8` (R261). -/
  | pushGs
  /-- PUSHA : `60` with OS=16 (R263). -/
  | pusha
  /-- PUSHAD : `60` with OS=32 (R263). -/
  | pushad
  /-- XADD r/m8,r8 : `0F C0 /r` (R264). -/
  | xaddRm8R8 (rm : RM) (r : Reg)
  /-- XADD r/m16,r16 : `0F C1 /r` with OS=16 (R264). -/
  | xaddRm16R16 (rm : RM) (r : Reg)
  /-- XADD r/m32,r32 : `0F C1 /r` with OS=32 (R264). -/
  | xaddRm32R32 (rm : RM) (r : Reg)
  /-- XCHG AX,r16 : `90+rw` with OS=16 (R265). -/
  | xchgAxR16 (r : Reg)
  /-- XCHG EAX,r32 : `90+rd` with OS=32 (R265). -/
  | xchgEaxR32 (r : Reg)
  /-- XCHG r/m8,r8 : `86 /r` (R265). -/
  | xchgRm8R8 (rm : RM) (r : Reg)
  /-- XCHG r/m16,r16 : `87 /r` with OS=16 (R265). -/
  | xchgRm16R16 (rm : RM) (r : Reg)
  /-- XCHG r/m32,r32 : `87 /r` with OS=32 (R265). -/
  | xchgRm32R32 (rm : RM) (r : Reg)
  /-- XLAT m8 : `D7` (R266). -/
  | xlat
  /-- AAA : `37` (R300). -/
  | aaa
  /-- AAD imm8 : `D5 ib` (R301). -/
  | aadImm8 (imm : BitVec 8)
  /-- AAM imm8 : `D4 ib` (R302). -/
  | aamImm8 (imm : BitVec 8)
  /-- AAS : `3F` (R303). -/
  | aas
  /-- ADC AL,imm8 : `14 ib` (R304). -/
  | adcAlImm8 (imm : BitVec 8)
  /-- ADC AX,imm16 : `15 iw` with OS=16 (R304). -/
  | adcAxImm16 (imm : BitVec 16)
  /-- ADC EAX,imm32 : `15 id` with OS=32 (R304). -/
  | adcEaxImm32 (imm : BitVec 32)
  /-- ADC r/m8,imm8 : `80 /2 ib` (R304). -/
  | adcRm8Imm8 (rm : RM) (imm : BitVec 8)
  /-- ADC r/m16,imm16 : `81 /2 iw` with OS=16 (R304). -/
  | adcRm16Imm16 (rm : RM) (imm : BitVec 16)
  /-- ADC r/m32,imm32 : `81 /2 id` with OS=32 (R304). -/
  | adcRm32Imm32 (rm : RM) (imm : BitVec 32)
  /-- ADC r/m16,imm8 : `83 /2 ib` with OS=16 (R304). -/
  | adcRm16Imm8 (rm : RM) (imm : BitVec 8)
  /-- ADC r/m32,imm8 : `83 /2 ib` with OS=32 (R304). -/
  | adcRm32Imm8 (rm : RM) (imm : BitVec 8)
  /-- ADC r/m8,r8 : `10 /r` (R304). -/
  | adcRm8R8 (rm : RM) (r : Reg)
  /-- ADC r/m16,r16 : `11 /r` with OS=16 (R304). -/
  | adcRm16R16 (rm : RM) (r : Reg)
  /-- ADC r/m32,r32 : `11 /r` with OS=32 (R304). -/
  | adcRm32R32 (rm : RM) (r : Reg)
  /-- ADC r8,r/m8 : `12 /r` (R304). -/
  | adcR8Rm8 (r : Reg) (rm : RM)
  /-- ADC r16,r/m16 : `13 /r` with OS=16 (R304). -/
  | adcR16Rm16 (r : Reg) (rm : RM)
  /-- ADC r32,r/m32 : `13 /r` with OS=32 (R304). -/
  | adcR32Rm32 (r : Reg) (rm : RM)
  /-- ADD AL,imm8 : `04 ib` (R305). -/
  | addAlImm8 (imm : BitVec 8)
  /-- ADD AX,imm16 : `05 iw` with OS=16 (R305). -/
  | addAxImm16 (imm : BitVec 16)
  /-- ADD EAX,imm32 : `05 id` with OS=32 (R305). -/
  | addEaxImm32 (imm : BitVec 32)
  /-- ADD r/m8,imm8 : `80 /0 ib` (R305). -/
  | addRm8Imm8 (rm : RM) (imm : BitVec 8)
  /-- ADD r/m16,imm16 : `81 /0 iw` with OS=16 (R305). -/
  | addRm16Imm16 (rm : RM) (imm : BitVec 16)
  /-- ADD r/m32,imm32 : `81 /0 id` with OS=32 (R305). -/
  | addRm32Imm32 (rm : RM) (imm : BitVec 32)
  /-- ADD r/m16,imm8 : `83 /0 ib` with OS=16 (R305). -/
  | addRm16Imm8 (rm : RM) (imm : BitVec 8)
  /-- ADD r/m32,imm8 : `83 /0 ib` with OS=32 (R305). -/
  | addRm32Imm8 (rm : RM) (imm : BitVec 8)
  /-- ADD r/m8,r8 : `00 /r` (R305). -/
  | addRm8R8 (rm : RM) (r : Reg)
  /-- ADD r/m16,r16 : `01 /r` with OS=16 (R305). -/
  | addRm16R16 (rm : RM) (r : Reg)
  /-- ADD r/m32,r32 : `01 /r` with OS=32 (R305). -/
  | addRm32R32 (rm : RM) (r : Reg)
  /-- ADD r8,r/m8 : `02 /r` (R305). -/
  | addR8Rm8 (r : Reg) (rm : RM)
  /-- ADD r16,r/m16 : `03 /r` with OS=16 (R305). -/
  | addR16Rm16 (r : Reg) (rm : RM)
  /-- ADD r32,r/m32 : `03 /r` with OS=32 (R305). -/
  | addR32Rm32 (r : Reg) (rm : RM)
  /-- CMP AL,imm8 : `3C ib` (R306). -/
  | cmpAlImm8 (imm : BitVec 8)
  /-- CMP AX,imm16 : `3D iw` with OS=16 (R306). -/
  | cmpAxImm16 (imm : BitVec 16)
  /-- CMP EAX,imm32 : `3D id` with OS=32 (R306). -/
  | cmpEaxImm32 (imm : BitVec 32)
  /-- CMP r/m8,imm8 : `80 /7 ib` (R306). -/
  | cmpRm8Imm8 (rm : RM) (imm : BitVec 8)
  /-- CMP r/m16,imm16 : `81 /7 iw` with OS=16 (R306). -/
  | cmpRm16Imm16 (rm : RM) (imm : BitVec 16)
  /-- CMP r/m32,imm32 : `81 /7 id` with OS=32 (R306). -/
  | cmpRm32Imm32 (rm : RM) (imm : BitVec 32)
  /-- CMP r/m16,imm8 : `83 /7 ib` with OS=16 (R306). -/
  | cmpRm16Imm8 (rm : RM) (imm : BitVec 8)
  /-- CMP r/m32,imm8 : `83 /7 ib` with OS=32 (R306). -/
  | cmpRm32Imm8 (rm : RM) (imm : BitVec 8)
  /-- CMP r/m8,r8 : `38 /r` (R306). -/
  | cmpRm8R8 (rm : RM) (r : Reg)
  /-- CMP r/m16,r16 : `39 /r` with OS=16 (R306). -/
  | cmpRm16R16 (rm : RM) (r : Reg)
  /-- CMP r/m32,r32 : `39 /r` with OS=32 (R306). -/
  | cmpRm32R32 (rm : RM) (r : Reg)
  /-- CMP r8,r/m8 : `3A /r` (R306). -/
  | cmpR8Rm8 (r : Reg) (rm : RM)
  /-- CMP r16,r/m16 : `3B /r` with OS=16 (R306). -/
  | cmpR16Rm16 (r : Reg) (rm : RM)
  /-- CMP r32,r/m32 : `3B /r` with OS=32 (R306). -/
  | cmpR32Rm32 (r : Reg) (rm : RM)
  /-- DAA : `27` (R307). -/
  | daa
  /-- DAS : `2F` (R308). -/
  | das
  /-- DEC r/m8 : `FE /1` (R309). -/
  | decRm8 (rm : RM)
  /-- DEC r/m16 : `FF /1` with OS=16 (R309). -/
  | decRm16 (rm : RM)
  /-- DEC r/m32 : `FF /1` with OS=32 (R309). -/
  | decRm32 (rm : RM)
  /-- DEC r16 : `48+rw` with OS=16 (R309). -/
  | decR16 (r : Reg)
  /-- DEC r32 : `48+rd` with OS=32 (R309). -/
  | decR32 (r : Reg)
  /-- DIV r/m8 : `F6 /6` (R310). -/
  | divRm8 (rm : RM)
  /-- DIV r/m16 : `F7 /6` with OS=16 (R310). -/
  | divRm16 (rm : RM)
  /-- DIV r/m32 : `F7 /6` with OS=32 (R310). -/
  | divRm32 (rm : RM)
  /-- IDIV r/m8 : `F6 /7` (R311). -/
  | idivRm8 (rm : RM)
  /-- IDIV r/m16 : `F7 /7` with OS=16 (R311). -/
  | idivRm16 (rm : RM)
  /-- IDIV r/m32 : `F7 /7` with OS=32 (R311). -/
  | idivRm32 (rm : RM)
  /-- IMUL r/m8 : `F6 /5` (R312). -/
  | imulRm8 (rm : RM)
  /-- IMUL r/m16 : `F7 /5` with OS=16 (R312). -/
  | imulRm16 (rm : RM)
  /-- IMUL r/m32 : `F7 /5` with OS=32 (R312). -/
  | imulRm32 (rm : RM)
  /-- IMUL r16,r/m16 : `0F AF /r` with OS=16 (R312). -/
  | imulR16Rm16 (r : Reg) (rm : RM)
  /-- IMUL r32,r/m32 : `0F AF /r` with OS=32 (R312). -/
  | imulR32Rm32 (r : Reg) (rm : RM)
  /-- IMUL r16,r/m16,imm8 : `6B /r ib` with OS=16 (R312). -/
  | imulR16Rm16Imm8 (r : Reg) (rm : RM) (imm : BitVec 8)
  /-- IMUL r32,r/m32,imm8 : `6B /r ib` with OS=32 (R312). -/
  | imulR32Rm32Imm8 (r : Reg) (rm : RM) (imm : BitVec 8)
  /-- IMUL r16,r/m16,imm16 : `69 /r iw` with OS=16 (R312). -/
  | imulR16Rm16Imm16 (r : Reg) (rm : RM) (imm : BitVec 16)
  /-- IMUL r32,r/m32,imm32 : `69 /r id` with OS=32 (R312). -/
  | imulR32Rm32Imm32 (r : Reg) (rm : RM) (imm : BitVec 32)
  /-- INC r/m8 : `FE /0` (R313). -/
  | incRm8 (rm : RM)
  /-- INC r/m16 : `FF /0` with OS=16 (R313). -/
  | incRm16 (rm : RM)
  /-- INC r/m32 : `FF /0` with OS=32 (R313). -/
  | incRm32 (rm : RM)
  /-- INC r16 : `40+rw` with OS=16 (R313). -/
  | incR16 (r : Reg)
  /-- INC r32 : `40+rd` with OS=32 (R313). -/
  | incR32 (r : Reg)
  /-- MUL r/m8 : `F6 /4` (R314). -/
  | mulRm8 (rm : RM)
  /-- MUL r/m16 : `F7 /4` with OS=16 (R314). -/
  | mulRm16 (rm : RM)
  /-- MUL r/m32 : `F7 /4` with OS=32 (R314). -/
  | mulRm32 (rm : RM)
  /-- NEG r/m8 : `F6 /3` (R315). -/
  | negRm8 (rm : RM)
  /-- NEG r/m16 : `F7 /3` with OS=16 (R315). -/
  | negRm16 (rm : RM)
  /-- NEG r/m32 : `F7 /3` with OS=32 (R315). -/
  | negRm32 (rm : RM)
  /-- SBB AL,imm8 : `1C ib` (R316). -/
  | sbbAlImm8 (imm : BitVec 8)
  /-- SBB AX,imm16 : `1D iw` with OS=16 (R316). -/
  | sbbAxImm16 (imm : BitVec 16)
  /-- SBB EAX,imm32 : `1D id` with OS=32 (R316). -/
  | sbbEaxImm32 (imm : BitVec 32)
  /-- SBB r/m8,imm8 : `80 /3 ib` (R316). -/
  | sbbRm8Imm8 (rm : RM) (imm : BitVec 8)
  /-- SBB r/m16,imm16 : `81 /3 iw` with OS=16 (R316). -/
  | sbbRm16Imm16 (rm : RM) (imm : BitVec 16)
  /-- SBB r/m32,imm32 : `81 /3 id` with OS=32 (R316). -/
  | sbbRm32Imm32 (rm : RM) (imm : BitVec 32)
  /-- SBB r/m16,imm8 : `83 /3 ib` with OS=16 (R316). -/
  | sbbRm16Imm8 (rm : RM) (imm : BitVec 8)
  /-- SBB r/m32,imm8 : `83 /3 ib` with OS=32 (R316). -/
  | sbbRm32Imm8 (rm : RM) (imm : BitVec 8)
  /-- SBB r/m8,r8 : `18 /r` (R316). -/
  | sbbRm8R8 (rm : RM) (r : Reg)
  /-- SBB r/m16,r16 : `19 /r` with OS=16 (R316). -/
  | sbbRm16R16 (rm : RM) (r : Reg)
  /-- SBB r/m32,r32 : `19 /r` with OS=32 (R316). -/
  | sbbRm32R32 (rm : RM) (r : Reg)
  /-- SBB r8,r/m8 : `1A /r` (R316). -/
  | sbbR8Rm8 (r : Reg) (rm : RM)
  /-- SBB r16,r/m16 : `1B /r` with OS=16 (R316). -/
  | sbbR16Rm16 (r : Reg) (rm : RM)
  /-- SBB r32,r/m32 : `1B /r` with OS=32 (R316). -/
  | sbbR32Rm32 (r : Reg) (rm : RM)
  /-- SUB AL,imm8 : `2C ib` (R317). -/
  | subAlImm8 (imm : BitVec 8)
  /-- SUB AX,imm16 : `2D iw` with OS=16 (R317). -/
  | subAxImm16 (imm : BitVec 16)
  /-- SUB EAX,imm32 : `2D id` with OS=32 (R317). -/
  | subEaxImm32 (imm : BitVec 32)
  /-- SUB r/m8,imm8 : `80 /5 ib` (R317). -/
  | subRm8Imm8 (rm : RM) (imm : BitVec 8)
  /-- SUB r/m16,imm16 : `81 /5 iw` with OS=16 (R317). -/
  | subRm16Imm16 (rm : RM) (imm : BitVec 16)
  /-- SUB r/m32,imm32 : `81 /5 id` with OS=32 (R317). -/
  | subRm32Imm32 (rm : RM) (imm : BitVec 32)
  /-- SUB r/m16,imm8 : `83 /5 ib` with OS=16 (R317). -/
  | subRm16Imm8 (rm : RM) (imm : BitVec 8)
  /-- SUB r/m32,imm8 : `83 /5 ib` with OS=32 (R317). -/
  | subRm32Imm8 (rm : RM) (imm : BitVec 8)
  /-- SUB r/m8,r8 : `28 /r` (R317). -/
  | subRm8R8 (rm : RM) (r : Reg)
  /-- SUB r/m16,r16 : `29 /r` with OS=16 (R317). -/
  | subRm16R16 (rm : RM) (r : Reg)
  /-- SUB r/m32,r32 : `29 /r` with OS=32 (R317). -/
  | subRm32R32 (rm : RM) (r : Reg)
  /-- SUB r8,r/m8 : `2A /r` (R317). -/
  | subR8Rm8 (r : Reg) (rm : RM)
  /-- SUB r16,r/m16 : `2B /r` with OS=16 (R317). -/
  | subR16Rm16 (r : Reg) (rm : RM)
  /-- SUB r32,r/m32 : `2B /r` with OS=32 (R317). -/
  | subR32Rm32 (r : Reg) (rm : RM)
  /-- AND AL,imm8 : `24 ib` (R340). -/
  | andAlImm8 (imm : BitVec 8)
  /-- AND AX,imm16 : `25 iw` with OS=16 (R340). -/
  | andAxImm16 (imm : BitVec 16)
  /-- AND EAX,imm32 : `25 id` with OS=32 (R340). -/
  | andEaxImm32 (imm : BitVec 32)
  /-- AND r/m8,imm8 : `80 /4 ib` (R340). -/
  | andRm8Imm8 (rm : RM) (imm : BitVec 8)
  /-- AND r/m16,imm16 : `81 /4 iw` with OS=16 (R340). -/
  | andRm16Imm16 (rm : RM) (imm : BitVec 16)
  /-- AND r/m32,imm32 : `81 /4 id` with OS=32 (R340). -/
  | andRm32Imm32 (rm : RM) (imm : BitVec 32)
  /-- AND r/m16,imm8 : `83 /4 ib` with OS=16 (R340). -/
  | andRm16Imm8 (rm : RM) (imm : BitVec 8)
  /-- AND r/m32,imm8 : `83 /4 ib` with OS=32 (R340). -/
  | andRm32Imm8 (rm : RM) (imm : BitVec 8)
  /-- AND r/m8,r8 : `20 /r` (R340). -/
  | andRm8R8 (rm : RM) (r : Reg)
  /-- AND r/m16,r16 : `21 /r` with OS=16 (R340). -/
  | andRm16R16 (rm : RM) (r : Reg)
  /-- AND r/m32,r32 : `21 /r` with OS=32 (R340). -/
  | andRm32R32 (rm : RM) (r : Reg)
  /-- AND r8,r/m8 : `22 /r` (R340). -/
  | andR8Rm8 (r : Reg) (rm : RM)
  /-- AND r16,r/m16 : `23 /r` with OS=16 (R340). -/
  | andR16Rm16 (r : Reg) (rm : RM)
  /-- AND r32,r/m32 : `23 /r` with OS=32 (R340). -/
  | andR32Rm32 (r : Reg) (rm : RM)
  /-- BSF r16,r/m16 : `0F BC /r` with OS=16 (R341). -/
  | bsfR16Rm16 (r : Reg) (rm : RM)
  /-- BSF r32,r/m32 : `0F BC /r` with OS=32 (R341). -/
  | bsfR32Rm32 (r : Reg) (rm : RM)
  /-- BSR r16,r/m16 : `0F BD /r` with OS=16 (R342). -/
  | bsrR16Rm16 (r : Reg) (rm : RM)
  /-- BSR r32,r/m32 : `0F BD /r` with OS=32 (R342). -/
  | bsrR32Rm32 (r : Reg) (rm : RM)
  /-- BT r/m16,r16 : `0F A3 /r` with OS=16 (R344). -/
  | btRm16R16 (rm : RM) (r : Reg)
  /-- BT r/m32,r32 : `0F A3 /r` with OS=32 (R344). -/
  | btRm32R32 (rm : RM) (r : Reg)
  /-- BT r/m16,imm8 : `0F BA /4 ib` with OS=16 (R344). -/
  | btRm16Imm8 (rm : RM) (imm : BitVec 8)
  /-- BT r/m32,imm8 : `0F BA /4 ib` with OS=32 (R344). -/
  | btRm32Imm8 (rm : RM) (imm : BitVec 8)
  /-- BTC r/m16,r16 : `0F BB /r` with OS=16 (R345). -/
  | btcRm16R16 (rm : RM) (r : Reg)
  /-- BTC r/m32,r32 : `0F BB /r` with OS=32 (R345). -/
  | btcRm32R32 (rm : RM) (r : Reg)
  /-- BTC r/m16,imm8 : `0F BA /7 ib` with OS=16 (R345). -/
  | btcRm16Imm8 (rm : RM) (imm : BitVec 8)
  /-- BTC r/m32,imm8 : `0F BA /7 ib` with OS=32 (R345). -/
  | btcRm32Imm8 (rm : RM) (imm : BitVec 8)
  /-- BTR r/m16,r16 : `0F B3 /r` with OS=16 (R346). -/
  | btrRm16R16 (rm : RM) (r : Reg)
  /-- BTR r/m32,r32 : `0F B3 /r` with OS=32 (R346). -/
  | btrRm32R32 (rm : RM) (r : Reg)
  /-- BTR r/m16,imm8 : `0F BA /6 ib` with OS=16 (R346). -/
  | btrRm16Imm8 (rm : RM) (imm : BitVec 8)
  /-- BTR r/m32,imm8 : `0F BA /6 ib` with OS=32 (R346). -/
  | btrRm32Imm8 (rm : RM) (imm : BitVec 8)
  /-- BTS r/m16,r16 : `0F AB /r` with OS=16 (R347). -/
  | btsRm16R16 (rm : RM) (r : Reg)
  /-- BTS r/m32,r32 : `0F AB /r` with OS=32 (R347). -/
  | btsRm32R32 (rm : RM) (r : Reg)
  /-- BTS r/m16,imm8 : `0F BA /5 ib` with OS=16 (R347). -/
  | btsRm16Imm8 (rm : RM) (imm : BitVec 8)
  /-- BTS r/m32,imm8 : `0F BA /5 ib` with OS=32 (R347). -/
  | btsRm32Imm8 (rm : RM) (imm : BitVec 8)
  /-- NOT r/m8 : `F6 /2` (R348). -/
  | notRm8 (rm : RM)
  /-- NOT r/m16 : `F7 /2` with OS=16 (R348). -/
  | notRm16 (rm : RM)
  /-- NOT r/m32 : `F7 /2` with OS=32 (R348). -/
  | notRm32 (rm : RM)
  /-- OR AL,imm8 : `0C ib` (R349). -/
  | orAlImm8 (imm : BitVec 8)
  /-- OR AX,imm16 : `0D iw` with OS=16 (R349). -/
  | orAxImm16 (imm : BitVec 16)
  /-- OR EAX,imm32 : `0D id` with OS=32 (R349). -/
  | orEaxImm32 (imm : BitVec 32)
  /-- OR r/m8,imm8 : `80 /1 ib` (R349). -/
  | orRm8Imm8 (rm : RM) (imm : BitVec 8)
  /-- OR r/m16,imm16 : `81 /1 iw` with OS=16 (R349). -/
  | orRm16Imm16 (rm : RM) (imm : BitVec 16)
  /-- OR r/m32,imm32 : `81 /1 id` with OS=32 (R349). -/
  | orRm32Imm32 (rm : RM) (imm : BitVec 32)
  /-- OR r/m16,imm8 : `83 /1 ib` with OS=16 (R349). -/
  | orRm16Imm8 (rm : RM) (imm : BitVec 8)
  /-- OR r/m32,imm8 : `83 /1 ib` with OS=32 (R349). -/
  | orRm32Imm8 (rm : RM) (imm : BitVec 8)
  /-- OR r/m8,r8 : `08 /r` (R349). -/
  | orRm8R8 (rm : RM) (r : Reg)
  /-- OR r/m16,r16 : `09 /r` with OS=16 (R349). -/
  | orRm16R16 (rm : RM) (r : Reg)
  /-- OR r/m32,r32 : `09 /r` with OS=32 (R349). -/
  | orRm32R32 (rm : RM) (r : Reg)
  /-- OR r8,r/m8 : `0A /r` (R349). -/
  | orR8Rm8 (r : Reg) (rm : RM)
  /-- OR r16,r/m16 : `0B /r` with OS=16 (R349). -/
  | orR16Rm16 (r : Reg) (rm : RM)
  /-- OR r32,r/m32 : `0B /r` with OS=32 (R349). -/
  | orR32Rm32 (r : Reg) (rm : RM)
  /-- ROL r/m8,1 : `D0 /0` (R350). -/
  | rolRm8One (rm : RM)
  /-- ROL r/m8,CL : `D2 /0` (R350). -/
  | rolRm8Cl (rm : RM)
  /-- ROL r/m8,imm8 : `C0 /0 ib` (R350). -/
  | rolRm8Imm8 (rm : RM) (imm : BitVec 8)
  /-- ROL r/m16,1 : `D1 /0` with OS=16 (R350). -/
  | rolRm16One (rm : RM)
  /-- ROL r/m32,1 : `D1 /0` with OS=32 (R350). -/
  | rolRm32One (rm : RM)
  /-- ROL r/m16,CL : `D3 /0` with OS=16 (R350). -/
  | rolRm16Cl (rm : RM)
  /-- ROL r/m32,CL : `D3 /0` with OS=32 (R350). -/
  | rolRm32Cl (rm : RM)
  /-- ROL r/m16,imm8 : `C1 /0 ib` with OS=16 (R350). -/
  | rolRm16Imm8 (rm : RM) (imm : BitVec 8)
  /-- ROL r/m32,imm8 : `C1 /0 ib` with OS=32 (R350). -/
  | rolRm32Imm8 (rm : RM) (imm : BitVec 8)
  /-- ROR r/m8,1 : `D0 /1` (R350). -/
  | rorRm8One (rm : RM)
  /-- ROR r/m8,CL : `D2 /1` (R350). -/
  | rorRm8Cl (rm : RM)
  /-- ROR r/m8,imm8 : `C0 /1 ib` (R350). -/
  | rorRm8Imm8 (rm : RM) (imm : BitVec 8)
  /-- ROR r/m16,1 : `D1 /1` with OS=16 (R350). -/
  | rorRm16One (rm : RM)
  /-- ROR r/m32,1 : `D1 /1` with OS=32 (R350). -/
  | rorRm32One (rm : RM)
  /-- ROR r/m16,CL : `D3 /1` with OS=16 (R350). -/
  | rorRm16Cl (rm : RM)
  /-- ROR r/m32,CL : `D3 /1` with OS=32 (R350). -/
  | rorRm32Cl (rm : RM)
  /-- ROR r/m16,imm8 : `C1 /1 ib` with OS=16 (R350). -/
  | rorRm16Imm8 (rm : RM) (imm : BitVec 8)
  /-- ROR r/m32,imm8 : `C1 /1 ib` with OS=32 (R350). -/
  | rorRm32Imm8 (rm : RM) (imm : BitVec 8)
  /-- RCL r/m8,1 : `D0 /2` (R350). -/
  | rclRm8One (rm : RM)
  /-- RCL r/m8,CL : `D2 /2` (R350). -/
  | rclRm8Cl (rm : RM)
  /-- RCL r/m8,imm8 : `C0 /2 ib` (R350). -/
  | rclRm8Imm8 (rm : RM) (imm : BitVec 8)
  /-- RCL r/m16,1 : `D1 /2` with OS=16 (R350). -/
  | rclRm16One (rm : RM)
  /-- RCL r/m32,1 : `D1 /2` with OS=32 (R350). -/
  | rclRm32One (rm : RM)
  /-- RCL r/m16,CL : `D3 /2` with OS=16 (R350). -/
  | rclRm16Cl (rm : RM)
  /-- RCL r/m32,CL : `D3 /2` with OS=32 (R350). -/
  | rclRm32Cl (rm : RM)
  /-- RCL r/m16,imm8 : `C1 /2 ib` with OS=16 (R350). -/
  | rclRm16Imm8 (rm : RM) (imm : BitVec 8)
  /-- RCL r/m32,imm8 : `C1 /2 ib` with OS=32 (R350). -/
  | rclRm32Imm8 (rm : RM) (imm : BitVec 8)
  /-- RCR r/m8,1 : `D0 /3` (R350). -/
  | rcrRm8One (rm : RM)
  /-- RCR r/m8,CL : `D2 /3` (R350). -/
  | rcrRm8Cl (rm : RM)
  /-- RCR r/m8,imm8 : `C0 /3 ib` (R350). -/
  | rcrRm8Imm8 (rm : RM) (imm : BitVec 8)
  /-- RCR r/m16,1 : `D1 /3` with OS=16 (R350). -/
  | rcrRm16One (rm : RM)
  /-- RCR r/m32,1 : `D1 /3` with OS=32 (R350). -/
  | rcrRm32One (rm : RM)
  /-- RCR r/m16,CL : `D3 /3` with OS=16 (R350). -/
  | rcrRm16Cl (rm : RM)
  /-- RCR r/m32,CL : `D3 /3` with OS=32 (R350). -/
  | rcrRm32Cl (rm : RM)
  /-- RCR r/m16,imm8 : `C1 /3 ib` with OS=16 (R350). -/
  | rcrRm16Imm8 (rm : RM) (imm : BitVec 8)
  /-- RCR r/m32,imm8 : `C1 /3 ib` with OS=32 (R350). -/
  | rcrRm32Imm8 (rm : RM) (imm : BitVec 8)
  /-- SAL r/m8,1 : `D0 /4` (R351). -/
  | salRm8One (rm : RM)
  /-- SAL r/m8,CL : `D2 /4` (R351). -/
  | salRm8Cl (rm : RM)
  /-- SAL r/m8,imm8 : `C0 /4 ib` (R351). -/
  | salRm8Imm8 (rm : RM) (imm : BitVec 8)
  /-- SAL r/m16,1 : `D1 /4` with OS=16 (R351). -/
  | salRm16One (rm : RM)
  /-- SAL r/m32,1 : `D1 /4` with OS=32 (R351). -/
  | salRm32One (rm : RM)
  /-- SAL r/m16,CL : `D3 /4` with OS=16 (R351). -/
  | salRm16Cl (rm : RM)
  /-- SAL r/m32,CL : `D3 /4` with OS=32 (R351). -/
  | salRm32Cl (rm : RM)
  /-- SAL r/m16,imm8 : `C1 /4 ib` with OS=16 (R351). -/
  | salRm16Imm8 (rm : RM) (imm : BitVec 8)
  /-- SAL r/m32,imm8 : `C1 /4 ib` with OS=32 (R351). -/
  | salRm32Imm8 (rm : RM) (imm : BitVec 8)
  /-- SHR r/m8,1 : `D0 /5` (R351). -/
  | shrRm8One (rm : RM)
  /-- SHR r/m8,CL : `D2 /5` (R351). -/
  | shrRm8Cl (rm : RM)
  /-- SHR r/m8,imm8 : `C0 /5 ib` (R351). -/
  | shrRm8Imm8 (rm : RM) (imm : BitVec 8)
  /-- SHR r/m16,1 : `D1 /5` with OS=16 (R351). -/
  | shrRm16One (rm : RM)
  /-- SHR r/m32,1 : `D1 /5` with OS=32 (R351). -/
  | shrRm32One (rm : RM)
  /-- SHR r/m16,CL : `D3 /5` with OS=16 (R351). -/
  | shrRm16Cl (rm : RM)
  /-- SHR r/m32,CL : `D3 /5` with OS=32 (R351). -/
  | shrRm32Cl (rm : RM)
  /-- SHR r/m16,imm8 : `C1 /5 ib` with OS=16 (R351). -/
  | shrRm16Imm8 (rm : RM) (imm : BitVec 8)
  /-- SHR r/m32,imm8 : `C1 /5 ib` with OS=32 (R351). -/
  | shrRm32Imm8 (rm : RM) (imm : BitVec 8)
  /-- SAR r/m8,1 : `D0 /7` (R351). -/
  | sarRm8One (rm : RM)
  /-- SAR r/m8,CL : `D2 /7` (R351). -/
  | sarRm8Cl (rm : RM)
  /-- SAR r/m8,imm8 : `C0 /7 ib` (R351). -/
  | sarRm8Imm8 (rm : RM) (imm : BitVec 8)
  /-- SAR r/m16,1 : `D1 /7` with OS=16 (R351). -/
  | sarRm16One (rm : RM)
  /-- SAR r/m32,1 : `D1 /7` with OS=32 (R351). -/
  | sarRm32One (rm : RM)
  /-- SAR r/m16,CL : `D3 /7` with OS=16 (R351). -/
  | sarRm16Cl (rm : RM)
  /-- SAR r/m32,CL : `D3 /7` with OS=32 (R351). -/
  | sarRm32Cl (rm : RM)
  /-- SAR r/m16,imm8 : `C1 /7 ib` with OS=16 (R351). -/
  | sarRm16Imm8 (rm : RM) (imm : BitVec 8)
  /-- SAR r/m32,imm8 : `C1 /7 ib` with OS=32 (R351). -/
  | sarRm32Imm8 (rm : RM) (imm : BitVec 8)
  /-- SETO r/m8 : `0F 90 /r` (R352). -/
  | setoRm8 (rm : RM)
  /-- SETNO r/m8 : `0F 91 /r` (R352). -/
  | setnoRm8 (rm : RM)
  /-- SETB r/m8 : `0F 92 /r` (R352). -/
  | setbRm8 (rm : RM)
  /-- SETAE r/m8 : `0F 93 /r` (R352). -/
  | setaeRm8 (rm : RM)
  /-- SETE r/m8 : `0F 94 /r` (R352). -/
  | seteRm8 (rm : RM)
  /-- SETNE r/m8 : `0F 95 /r` (R352). -/
  | setneRm8 (rm : RM)
  /-- SETBE r/m8 : `0F 96 /r` (R352). -/
  | setbeRm8 (rm : RM)
  /-- SETA r/m8 : `0F 97 /r` (R352). -/
  | setaRm8 (rm : RM)
  /-- SETS r/m8 : `0F 98 /r` (R352). -/
  | setsRm8 (rm : RM)
  /-- SETNS r/m8 : `0F 99 /r` (R352). -/
  | setnsRm8 (rm : RM)
  /-- SETP r/m8 : `0F 9A /r` (R352). -/
  | setpRm8 (rm : RM)
  /-- SETNP r/m8 : `0F 9B /r` (R352). -/
  | setnpRm8 (rm : RM)
  /-- SETL r/m8 : `0F 9C /r` (R352). -/
  | setlRm8 (rm : RM)
  /-- SETGE r/m8 : `0F 9D /r` (R352). -/
  | setgeRm8 (rm : RM)
  /-- SETLE r/m8 : `0F 9E /r` (R352). -/
  | setleRm8 (rm : RM)
  /-- SETG r/m8 : `0F 9F /r` (R352). -/
  | setgRm8 (rm : RM)
  /-- SHLD r/m16,r16,imm8 : `0F A4 /r ib` with OS=16 (R353). -/
  | shldRm16R16Imm8 (rm : RM) (r : Reg) (imm : BitVec 8)
  /-- SHLD r/m32,r32,imm8 : `0F A4 /r ib` with OS=32 (R353). -/
  | shldRm32R32Imm8 (rm : RM) (r : Reg) (imm : BitVec 8)
  /-- SHLD r/m16,r16,CL : `0F A5 /r` with OS=16 (R353). -/
  | shldRm16R16Cl (rm : RM) (r : Reg)
  /-- SHLD r/m32,r32,CL : `0F A5 /r` with OS=32 (R353). -/
  | shldRm32R32Cl (rm : RM) (r : Reg)
  /-- SHRD r/m16,r16,imm8 : `0F AC /r ib` with OS=16 (R354). -/
  | shrdRm16R16Imm8 (rm : RM) (r : Reg) (imm : BitVec 8)
  /-- SHRD r/m32,r32,imm8 : `0F AC /r ib` with OS=32 (R354). -/
  | shrdRm32R32Imm8 (rm : RM) (r : Reg) (imm : BitVec 8)
  /-- SHRD r/m16,r16,CL : `0F AD /r` with OS=16 (R354). -/
  | shrdRm16R16Cl (rm : RM) (r : Reg)
  /-- SHRD r/m32,r32,CL : `0F AD /r` with OS=32 (R354). -/
  | shrdRm32R32Cl (rm : RM) (r : Reg)
  /-- TEST AL,imm8 : `A8 ib` (R355). -/
  | testAlImm8 (imm : BitVec 8)
  /-- TEST AX,imm16 : `A9 iw` with OS=16 (R355). -/
  | testAxImm16 (imm : BitVec 16)
  /-- TEST EAX,imm32 : `A9 id` with OS=32 (R355). -/
  | testEaxImm32 (imm : BitVec 32)
  /-- TEST r/m8,imm8 : `F6 /0 ib` (R355). -/
  | testRm8Imm8 (rm : RM) (imm : BitVec 8)
  /-- TEST r/m16,imm16 : `F7 /0 iw` with OS=16 (R355). -/
  | testRm16Imm16 (rm : RM) (imm : BitVec 16)
  /-- TEST r/m32,imm32 : `F7 /0 id` with OS=32 (R355). -/
  | testRm32Imm32 (rm : RM) (imm : BitVec 32)
  /-- TEST r/m8,r8 : `84 /r` (R355). -/
  | testRm8R8 (rm : RM) (r : Reg)
  /-- TEST r/m16,r16 : `85 /r` with OS=16 (R355). -/
  | testRm16R16 (rm : RM) (r : Reg)
  /-- TEST r/m32,r32 : `85 /r` with OS=32 (R355). -/
  | testRm32R32 (rm : RM) (r : Reg)
  /-- XOR AL,imm8 : `34 ib` (R356). -/
  | xorAlImm8 (imm : BitVec 8)
  /-- XOR AX,imm16 : `35 iw` with OS=16 (R356). -/
  | xorAxImm16 (imm : BitVec 16)
  /-- XOR EAX,imm32 : `35 id` with OS=32 (R356). -/
  | xorEaxImm32 (imm : BitVec 32)
  /-- XOR r/m8,imm8 : `80 /6 ib` (R356). -/
  | xorRm8Imm8 (rm : RM) (imm : BitVec 8)
  /-- XOR r/m16,imm16 : `81 /6 iw` with OS=16 (R356). -/
  | xorRm16Imm16 (rm : RM) (imm : BitVec 16)
  /-- XOR r/m32,imm32 : `81 /6 id` with OS=32 (R356). -/
  | xorRm32Imm32 (rm : RM) (imm : BitVec 32)
  /-- XOR r/m16,imm8 : `83 /6 ib` with OS=16 (R356). -/
  | xorRm16Imm8 (rm : RM) (imm : BitVec 8)
  /-- XOR r/m32,imm8 : `83 /6 ib` with OS=32 (R356). -/
  | xorRm32Imm8 (rm : RM) (imm : BitVec 8)
  /-- XOR r/m8,r8 : `30 /r` (R356). -/
  | xorRm8R8 (rm : RM) (r : Reg)
  /-- XOR r/m16,r16 : `31 /r` with OS=16 (R356). -/
  | xorRm16R16 (rm : RM) (r : Reg)
  /-- XOR r/m32,r32 : `31 /r` with OS=32 (R356). -/
  | xorRm32R32 (rm : RM) (r : Reg)
  /-- XOR r8,r/m8 : `32 /r` (R356). -/
  | xorR8Rm8 (r : Reg) (rm : RM)
  /-- XOR r16,r/m16 : `33 /r` with OS=16 (R356). -/
  | xorR16Rm16 (r : Reg) (rm : RM)
  /-- XOR r32,r/m32 : `33 /r` with OS=32 (R356). -/
  | xorR32Rm32 (r : Reg) (rm : RM)
  /-- CALL rel16 : `E8 cw` with OS=16 (R390). -/
  | callRel16 (rel : BitVec 16)
  /-- CALL rel32 : `E8 cd` with OS=32 (R390). -/
  | callRel32 (rel : BitVec 32)
  /-- CALL r/m16 : `FF /2` with OS=16 (R390). -/
  | callRm16 (rm : RM)
  /-- CALL r/m32 : `FF /2` with OS=32 (R390). -/
  | callRm32 (rm : RM)
  /-- CALL ptr16:16 : `9A cd` with OS=16 (R391). -/
  | callPtr16x16 (sel : BitVec 16) (off : BitVec 16)
  /-- CALL ptr16:32 : `9A cp` with OS=32 (R391). -/
  | callPtr16x32 (sel : BitVec 16) (off : BitVec 32)
  /-- CALL m16:16 : `FF /3` with OS=16 (R391). -/
  | callM16x16 (ea : Ea)
  /-- CALL m16:32 : `FF /3` with OS=32 (R391). -/
  | callM16x32 (ea : Ea)
  /-- INT3 : `CC` (R397). -/
  | int3
  /-- INT imm8 : `CD ib` (R397). -/
  | intImm8 (imm : BitVec 8)
  /-- INTO : `CE` (R397). -/
  | into
  /-- IRET : `CF` with OS=16 (R398). -/
  | iret
  /-- IRETD : `CF` with OS=32 (R398). -/
  | iretd
  /-- JO rel8 : `70 cb` (R404). -/
  | joRel8 (rel : BitVec 8)
  /-- JNO rel8 : `71 cb` (R404). -/
  | jnoRel8 (rel : BitVec 8)
  /-- JB rel8 : `72 cb` (R404). -/
  | jbRel8 (rel : BitVec 8)
  /-- JAE rel8 : `73 cb` (R404). -/
  | jaeRel8 (rel : BitVec 8)
  /-- JE rel8 : `74 cb` (R404). -/
  | jeRel8 (rel : BitVec 8)
  /-- JNE rel8 : `75 cb` (R404). -/
  | jneRel8 (rel : BitVec 8)
  /-- JBE rel8 : `76 cb` (R404). -/
  | jbeRel8 (rel : BitVec 8)
  /-- JA rel8 : `77 cb` (R404). -/
  | jaRel8 (rel : BitVec 8)
  /-- JS rel8 : `78 cb` (R404). -/
  | jsRel8 (rel : BitVec 8)
  /-- JNS rel8 : `79 cb` (R404). -/
  | jnsRel8 (rel : BitVec 8)
  /-- JP rel8 : `7A cb` (R404). -/
  | jpRel8 (rel : BitVec 8)
  /-- JNP rel8 : `7B cb` (R404). -/
  | jnpRel8 (rel : BitVec 8)
  /-- JL rel8 : `7C cb` (R404). -/
  | jlRel8 (rel : BitVec 8)
  /-- JGE rel8 : `7D cb` (R404). -/
  | jgeRel8 (rel : BitVec 8)
  /-- JLE rel8 : `7E cb` (R404). -/
  | jleRel8 (rel : BitVec 8)
  /-- JG rel8 : `7F cb` (R404). -/
  | jgRel8 (rel : BitVec 8)
  /-- JO rel16 : `0F 80 cw` with OS=16 (R404). -/
  | joRel16 (rel : BitVec 16)
  /-- JNO rel16 : `0F 81 cw` with OS=16 (R404). -/
  | jnoRel16 (rel : BitVec 16)
  /-- JB rel16 : `0F 82 cw` with OS=16 (R404). -/
  | jbRel16 (rel : BitVec 16)
  /-- JAE rel16 : `0F 83 cw` with OS=16 (R404). -/
  | jaeRel16 (rel : BitVec 16)
  /-- JE rel16 : `0F 84 cw` with OS=16 (R404). -/
  | jeRel16 (rel : BitVec 16)
  /-- JNE rel16 : `0F 85 cw` with OS=16 (R404). -/
  | jneRel16 (rel : BitVec 16)
  /-- JBE rel16 : `0F 86 cw` with OS=16 (R404). -/
  | jbeRel16 (rel : BitVec 16)
  /-- JA rel16 : `0F 87 cw` with OS=16 (R404). -/
  | jaRel16 (rel : BitVec 16)
  /-- JS rel16 : `0F 88 cw` with OS=16 (R404). -/
  | jsRel16 (rel : BitVec 16)
  /-- JNS rel16 : `0F 89 cw` with OS=16 (R404). -/
  | jnsRel16 (rel : BitVec 16)
  /-- JP rel16 : `0F 8A cw` with OS=16 (R404). -/
  | jpRel16 (rel : BitVec 16)
  /-- JNP rel16 : `0F 8B cw` with OS=16 (R404). -/
  | jnpRel16 (rel : BitVec 16)
  /-- JL rel16 : `0F 8C cw` with OS=16 (R404). -/
  | jlRel16 (rel : BitVec 16)
  /-- JGE rel16 : `0F 8D cw` with OS=16 (R404). -/
  | jgeRel16 (rel : BitVec 16)
  /-- JLE rel16 : `0F 8E cw` with OS=16 (R404). -/
  | jleRel16 (rel : BitVec 16)
  /-- JG rel16 : `0F 8F cw` with OS=16 (R404). -/
  | jgRel16 (rel : BitVec 16)
  /-- JO rel32 : `0F 80 cd` with OS=32 (R404). -/
  | joRel32 (rel : BitVec 32)
  /-- JNO rel32 : `0F 81 cd` with OS=32 (R404). -/
  | jnoRel32 (rel : BitVec 32)
  /-- JB rel32 : `0F 82 cd` with OS=32 (R404). -/
  | jbRel32 (rel : BitVec 32)
  /-- JAE rel32 : `0F 83 cd` with OS=32 (R404). -/
  | jaeRel32 (rel : BitVec 32)
  /-- JE rel32 : `0F 84 cd` with OS=32 (R404). -/
  | jeRel32 (rel : BitVec 32)
  /-- JNE rel32 : `0F 85 cd` with OS=32 (R404). -/
  | jneRel32 (rel : BitVec 32)
  /-- JBE rel32 : `0F 86 cd` with OS=32 (R404). -/
  | jbeRel32 (rel : BitVec 32)
  /-- JA rel32 : `0F 87 cd` with OS=32 (R404). -/
  | jaRel32 (rel : BitVec 32)
  /-- JS rel32 : `0F 88 cd` with OS=32 (R404). -/
  | jsRel32 (rel : BitVec 32)
  /-- JNS rel32 : `0F 89 cd` with OS=32 (R404). -/
  | jnsRel32 (rel : BitVec 32)
  /-- JP rel32 : `0F 8A cd` with OS=32 (R404). -/
  | jpRel32 (rel : BitVec 32)
  /-- JNP rel32 : `0F 8B cd` with OS=32 (R404). -/
  | jnpRel32 (rel : BitVec 32)
  /-- JL rel32 : `0F 8C cd` with OS=32 (R404). -/
  | jlRel32 (rel : BitVec 32)
  /-- JGE rel32 : `0F 8D cd` with OS=32 (R404). -/
  | jgeRel32 (rel : BitVec 32)
  /-- JLE rel32 : `0F 8E cd` with OS=32 (R404). -/
  | jleRel32 (rel : BitVec 32)
  /-- JG rel32 : `0F 8F cd` with OS=32 (R404). -/
  | jgRel32 (rel : BitVec 32)
  /-- JCXZ rel8 : `E3 cb` with AS=16 (R404). -/
  | jcxzRel8 (rel : BitVec 8)
  /-- JECXZ rel8 : `E3 cb` with AS=32 (R404). -/
  | jecxzRel8 (rel : BitVec 8)
  /-- JMP rel8 : `EB cb` (R405). -/
  | jmpRel8 (rel : BitVec 8)
  /-- JMP rel16 : `E9 cw` with OS=16 (R405). -/
  | jmpRel16 (rel : BitVec 16)
  /-- JMP rel32 : `E9 cd` with OS=32 (R405). -/
  | jmpRel32 (rel : BitVec 32)
  /-- JMP r/m16 : `FF /4` with OS=16 (R405). -/
  | jmpRm16 (rm : RM)
  /-- JMP r/m32 : `FF /4` with OS=32 (R405). -/
  | jmpRm32 (rm : RM)
  /-- JMP ptr16:16 : `EA cd` with OS=16 (R406). -/
  | jmpPtr16x16 (sel : BitVec 16) (off : BitVec 16)
  /-- JMP ptr16:32 : `EA cp` with OS=32 (R406). -/
  | jmpPtr16x32 (sel : BitVec 16) (off : BitVec 32)
  /-- JMP m16:16 : `FF /5` with OS=16 (R406). -/
  | jmpM16x16 (ea : Ea)
  /-- JMP m16:32 : `FF /5` with OS=32 (R406). -/
  | jmpM16x32 (ea : Ea)
  /-- RET (near) : `C3` (R409). -/
  | retNear
  /-- RET imm16 (near) : `C2 iw` (R409). -/
  | retNearImm16 (imm : BitVec 16)
  /-- RET (far) : `CB` (R410). -/
  | retFar
  /-- RET imm16 (far) : `CA iw` (R410). -/
  | retFarImm16 (imm : BitVec 16)
  /-- BOUND r16,m16&16 : `62 /r` with OS=16 (R420). -/
  | boundR16M16a16 (r : Reg) (ea : Ea)
  /-- BOUND r32,m32&32 : `62 /r` with OS=32 (R420). -/
  | boundR32M32a32 (r : Reg) (ea : Ea)
  /-- ENTER imm16,imm8 : `C8 iw ib` (R421). -/
  | enterImm16Imm8 (size : BitVec 16) (level : BitVec 8)
  /-- LEAVE : `C9` (R422). -/
  | leave
  /-- LOOP rel8 : `E2 cb` (R423). -/
  | loopRel8 (rel : BitVec 8)
  /-- LOOPE rel8 : `E1 cb` (R423). -/
  | loopeRel8 (rel : BitVec 8)
  /-- LOOPNE rel8 : `E0 cb` (R423). -/
  | loopneRel8 (rel : BitVec 8)
  /-- UD2 : `0F 0B` (R424). -/
  | ud2
  /-- CMPSB m8,m8 : `A6` (R441). -/
  | cmpsb
  /-- CMPSW m16,m16 : `A7` with OS=16 (R441). -/
  | cmpsw
  /-- CMPSD m32,m32 : `A7` with OS=32 (R441). -/
  | cmpsd
  /-- IN AL,imm8 : `E4 ib` (R442). -/
  | inAlImm8 (imm : BitVec 8)
  /-- IN AX,imm8 : `E5 ib` with OS=16 (R442). -/
  | inAxImm8 (imm : BitVec 8)
  /-- IN EAX,imm8 : `E5 ib` with OS=32 (R442). -/
  | inEaxImm8 (imm : BitVec 8)
  /-- IN AL,DX : `EC` (R442). -/
  | inAlDx
  /-- IN AX,DX : `ED` with OS=16 (R442). -/
  | inAxDx
  /-- IN EAX,DX : `ED` with OS=32 (R442). -/
  | inEaxDx
  /-- INSB m8,DX : `6C` (R443). -/
  | insb
  /-- INSW m16,DX : `6D` with OS=16 (R443). -/
  | insw
  /-- INSD m32,DX : `6D` with OS=32 (R443). -/
  | insd
  /-- LODSB m8 : `AC` (R444). -/
  | lodsb
  /-- LODSW m16 : `AD` with OS=16 (R444). -/
  | lodsw
  /-- LODSD m32 : `AD` with OS=32 (R444). -/
  | lodsd
  /-- MOVSB m8,m8 : `A4` (R445). -/
  | movsb
  /-- MOVSW m16,m16 : `A5` with OS=16 (R445). -/
  | movsw
  /-- MOVSD m32,m32 : `A5` with OS=32 (R445). -/
  | movsd
  /-- OUT imm8,AL : `E6 ib` (R446). -/
  | outImm8Al (imm : BitVec 8)
  /-- OUT imm8,AX : `E7 ib` with OS=16 (R446). -/
  | outImm8Ax (imm : BitVec 8)
  /-- OUT imm8,EAX : `E7 ib` with OS=32 (R446). -/
  | outImm8Eax (imm : BitVec 8)
  /-- OUT DX,AL : `EE` (R446). -/
  | outDxAl
  /-- OUT DX,AX : `EF` with OS=16 (R446). -/
  | outDxAx
  /-- OUT DX,EAX : `EF` with OS=32 (R446). -/
  | outDxEax
  /-- OUTSB DX,m8 : `6E` (R447). -/
  | outsb
  /-- OUTSW DX,m16 : `6F` with OS=16 (R447). -/
  | outsw
  /-- OUTSD DX,m32 : `6F` with OS=32 (R447). -/
  | outsd
  /-- SCASB m8 : `AE` (R449). -/
  | scasb
  /-- SCASW m16 : `AF` with OS=16 (R449). -/
  | scasw
  /-- SCASD m32 : `AF` with OS=32 (R449). -/
  | scasd
  /-- STOSB m8 : `AA` (R450). -/
  | stosb
  /-- STOSW m16 : `AB` with OS=16 (R450). -/
  | stosw
  /-- STOSD m32 : `AB` with OS=32 (R450). -/
  | stosd
  /-- CLC : `F8` (R480). -/
  | clc
  /-- CLD : `FC` (R481). -/
  | cld
  /-- CLI : `FA` (R482). -/
  | cli
  /-- CMC : `F5` (R483). -/
  | cmc
  /-- LAHF : `9F` (R484). -/
  | lahf
  /-- LDS r16,m16:16 : `C5 /r` with OS=16 (R485). -/
  | ldsR16M16x16 (r : Reg) (ea : Ea)
  /-- LDS r32,m16:32 : `C5 /r` with OS=32 (R485). -/
  | ldsR32M16x32 (r : Reg) (ea : Ea)
  /-- LSS r16,m16:16 : `0F B2 /r` with OS=16 (R485). -/
  | lssR16M16x16 (r : Reg) (ea : Ea)
  /-- LSS r32,m16:32 : `0F B2 /r` with OS=32 (R485). -/
  | lssR32M16x32 (r : Reg) (ea : Ea)
  /-- LES r16,m16:16 : `C4 /r` with OS=16 (R485). -/
  | lesR16M16x16 (r : Reg) (ea : Ea)
  /-- LES r32,m16:32 : `C4 /r` with OS=32 (R485). -/
  | lesR32M16x32 (r : Reg) (ea : Ea)
  /-- LFS r16,m16:16 : `0F B4 /r` with OS=16 (R485). -/
  | lfsR16M16x16 (r : Reg) (ea : Ea)
  /-- LFS r32,m16:32 : `0F B4 /r` with OS=32 (R485). -/
  | lfsR32M16x32 (r : Reg) (ea : Ea)
  /-- LGS r16,m16:16 : `0F B5 /r` with OS=16 (R485). -/
  | lgsR16M16x16 (r : Reg) (ea : Ea)
  /-- LGS r32,m16:32 : `0F B5 /r` with OS=32 (R485). -/
  | lgsR32M16x32 (r : Reg) (ea : Ea)
  /-- LEA r16,m : `8D /r` with OS=16 (R486). -/
  | leaR16M (r : Reg) (ea : Ea)
  /-- LEA r32,m : `8D /r` with OS=32 (R486). -/
  | leaR32M (r : Reg) (ea : Ea)
  /-- CPUID : `0F A2` (R487). -/
  | cpuid
  /-- NOP : `90` (R490). -/
  | nop
  /-- POPF : `9D` with OS=16 (R491). -/
  | popf
  /-- POPFD : `9D` with OS=32 (R491). -/
  | popfd
  /-- PUSHF : `9C` with OS=16 (R492). -/
  | pushf
  /-- PUSHFD : `9C` with OS=32 (R492). -/
  | pushfd
  /-- SAHF : `9E` (R493). -/
  | sahf
  /-- STC : `F9` (R494). -/
  | stc
  /-- STD : `FD` (R495). -/
  | std
  /-- STI : `FB` (R496). -/
  | sti
  /-- FENI : `DB E0` (R556). -/
  | feni
  /-- FDISI : `DB E1` (R556). -/
  | fdisi
  /-- FSETPM : `DB E4` (R556). -/
  | fsetpm
  /-- FBLD m80dec : `DF /4` (R600). -/
  | fbldM80dec (ea : Ea)
  /-- FBSTP m80bcd : `DF /6` (R601). -/
  | fbstpM80bcd (ea : Ea)
  /-- FCMOVB ST(0),ST(i) : `DA C0+i` (R602). -/
  | fcmovbSt0Sti (i : Reg)
  /-- FCMOVE ST(0),ST(i) : `DA C8+i` (R602). -/
  | fcmoveSt0Sti (i : Reg)
  /-- FCMOVBE ST(0),ST(i) : `DA D0+i` (R602). -/
  | fcmovbeSt0Sti (i : Reg)
  /-- FCMOVU ST(0),ST(i) : `DA D8+i` (R602). -/
  | fcmovuSt0Sti (i : Reg)
  /-- FCMOVNB ST(0),ST(i) : `DB C0+i` (R602). -/
  | fcmovnbSt0Sti (i : Reg)
  /-- FCMOVNE ST(0),ST(i) : `DB C8+i` (R602). -/
  | fcmovneSt0Sti (i : Reg)
  /-- FCMOVNBE ST(0),ST(i) : `DB D0+i` (R602). -/
  | fcmovnbeSt0Sti (i : Reg)
  /-- FCMOVNU ST(0),ST(i) : `DB D8+i` (R602). -/
  | fcmovnuSt0Sti (i : Reg)
  /-- FCOM m32real : `D8 /2` (R603). -/
  | fcomM32real (ea : Ea)
  /-- FCOM m64real : `DC /2` (R603). -/
  | fcomM64real (ea : Ea)
  /-- FCOM ST(i) : `D8 D0+i` (R603). -/
  | fcomSti (i : Reg)
  /-- FCOMP m32real : `D8 /3` (R603). -/
  | fcompM32real (ea : Ea)
  /-- FCOMP m64real : `DC /3` (R603). -/
  | fcompM64real (ea : Ea)
  /-- FCOMP ST(i) : `D8 D8+i` (R603). -/
  | fcompSti (i : Reg)
  /-- FCOMPP : `DE D9` (R603). -/
  | fcompp
  /-- FCOMI ST,ST(i) : `DB F0+i` (R604). -/
  | fcomiSt0Sti (i : Reg)
  /-- FCOMIP ST,ST(i) : `DF F0+i` (R604). -/
  | fcomipSt0Sti (i : Reg)
  /-- FUCOMI ST,ST(i) : `DB E8+i` (R604). -/
  | fucomiSt0Sti (i : Reg)
  /-- FUCOMIP ST,ST(i) : `DF E8+i` (R604). -/
  | fucomipSt0Sti (i : Reg)
  /-- FICOM m16int : `DE /2` (R605). -/
  | ficomM16int (ea : Ea)
  /-- FICOM m32int : `DA /2` (R605). -/
  | ficomM32int (ea : Ea)
  /-- FICOMP m16int : `DE /3` (R605). -/
  | ficompM16int (ea : Ea)
  /-- FICOMP m32int : `DA /3` (R605). -/
  | ficompM32int (ea : Ea)
  /-- FILD m16int : `DF /0` (R606). -/
  | fildM16int (ea : Ea)
  /-- FILD m32int : `DB /0` (R606). -/
  | fildM32int (ea : Ea)
  /-- FILD m64int : `DF /5` (R606). -/
  | fildM64int (ea : Ea)
  /-- FIST m16int : `DF /2` (R607). -/
  | fistM16int (ea : Ea)
  /-- FIST m32int : `DB /2` (R607). -/
  | fistM32int (ea : Ea)
  /-- FISTP m16int : `DF /3` (R607). -/
  | fistpM16int (ea : Ea)
  /-- FISTP m32int : `DB /3` (R607). -/
  | fistpM32int (ea : Ea)
  /-- FISTP m64int : `DF /7` (R607). -/
  | fistpM64int (ea : Ea)
  /-- FLD m32real : `D9 /0` (R608). -/
  | fldM32real (ea : Ea)
  /-- FLD m64real : `DD /0` (R608). -/
  | fldM64real (ea : Ea)
  /-- FLD m80real : `DB /5` (R608). -/
  | fldM80real (ea : Ea)
  /-- FLD ST(i) : `D9 C0+i` (R608). -/
  | fldSti (i : Reg)
  /-- FLD1 : `D9 E8` (R609). -/
  | fld1
  /-- FLDL2T : `D9 E9` (R609). -/
  | fldl2t
  /-- FLDL2E : `D9 EA` (R609). -/
  | fldl2e
  /-- FLDPI : `D9 EB` (R609). -/
  | fldpi
  /-- FLDLG2 : `D9 EC` (R609). -/
  | fldlg2
  /-- FLDLN2 : `D9 ED` (R609). -/
  | fldln2
  /-- FLDZ : `D9 EE` (R609). -/
  | fldz
  /-- FST m32real : `D9 /2` (R610). -/
  | fstM32real (ea : Ea)
  /-- FST m64real : `DD /2` (R610). -/
  | fstM64real (ea : Ea)
  /-- FST ST(i) : `DD D0+i` (R610). -/
  | fstSti (i : Reg)
  /-- FSTP m32real : `D9 /3` (R610). -/
  | fstpM32real (ea : Ea)
  /-- FSTP m64real : `DD /3` (R610). -/
  | fstpM64real (ea : Ea)
  /-- FSTP m80real : `DB /7` (R610). -/
  | fstpM80real (ea : Ea)
  /-- FSTP ST(i) : `DD D8+i` (R610). -/
  | fstpSti (i : Reg)
  /-- FTST : `D9 E4` (R611). -/
  | ftst
  /-- FUCOM ST(i) : `DD E0+i` (R612). -/
  | fucomSti (i : Reg)
  /-- FUCOMP ST(i) : `DD E8+i` (R612). -/
  | fucompSti (i : Reg)
  /-- FUCOMPP : `DA E9` (R612). -/
  | fucompp
  /-- FXAM : `D9 E5` (R613). -/
  | fxam
  /-- FXCH ST(i) : `D9 C8+i` (R614). -/
  | fxchSti (i : Reg)
  /-- FABS : `D9 E1` (R650). -/
  | fabs
  /-- FADD m32real : `D8 /0` (R651). -/
  | faddM32real (ea : Ea)
  /-- FADD m64real : `DC /0` (R651). -/
  | faddM64real (ea : Ea)
  /-- FADD ST(0),ST(i) : `D8 C0+i` (R651). -/
  | faddSt0Sti (i : Reg)
  /-- FADD ST(i),ST(0) : `DC C0+i` (R651). -/
  | faddStiSt0 (i : Reg)
  /-- FADDP ST(i),ST(0) : `DE C0+i` (R651). -/
  | faddpStiSt0 (i : Reg)
  /-- FIADD m32int : `DA /0` (R651). -/
  | fiaddM32int (ea : Ea)
  /-- FIADD m16int : `DE /0` (R651). -/
  | fiaddM16int (ea : Ea)
  /-- FCHS : `D9 E0` (R652). -/
  | fchs
  /-- FDIV m32real : `D8 /6` (R653). -/
  | fdivM32real (ea : Ea)
  /-- FDIV m64real : `DC /6` (R653). -/
  | fdivM64real (ea : Ea)
  /-- FDIV ST(0),ST(i) : `D8 F0+i` (R653). -/
  | fdivSt0Sti (i : Reg)
  /-- FDIV ST(i),ST(0) : `DC F8+i` (R653). -/
  | fdivStiSt0 (i : Reg)
  /-- FDIVP ST(i),ST(0) : `DE F8+i` (R653). -/
  | fdivpStiSt0 (i : Reg)
  /-- FIDIV m32int : `DA /6` (R653). -/
  | fidivM32int (ea : Ea)
  /-- FIDIV m16int : `DE /6` (R653). -/
  | fidivM16int (ea : Ea)
  /-- FDIVR m32real : `D8 /7` (R654). -/
  | fdivrM32real (ea : Ea)
  /-- FDIVR m64real : `DC /7` (R654). -/
  | fdivrM64real (ea : Ea)
  /-- FDIVR ST(0),ST(i) : `D8 F8+i` (R654). -/
  | fdivrSt0Sti (i : Reg)
  /-- FDIVR ST(i),ST(0) : `DC F0+i` (R654). -/
  | fdivrStiSt0 (i : Reg)
  /-- FDIVRP ST(i),ST(0) : `DE F0+i` (R654). -/
  | fdivrpStiSt0 (i : Reg)
  /-- FIDIVR m32int : `DA /7` (R654). -/
  | fidivrM32int (ea : Ea)
  /-- FIDIVR m16int : `DE /7` (R654). -/
  | fidivrM16int (ea : Ea)
  /-- FMUL m32real : `D8 /1` (R655). -/
  | fmulM32real (ea : Ea)
  /-- FMUL m64real : `DC /1` (R655). -/
  | fmulM64real (ea : Ea)
  /-- FMUL ST(0),ST(i) : `D8 C8+i` (R655). -/
  | fmulSt0Sti (i : Reg)
  /-- FMUL ST(i),ST(0) : `DC C8+i` (R655). -/
  | fmulStiSt0 (i : Reg)
  /-- FMULP ST(i),ST(0) : `DE C8+i` (R655). -/
  | fmulpStiSt0 (i : Reg)
  /-- FIMUL m32int : `DA /1` (R655). -/
  | fimulM32int (ea : Ea)
  /-- FIMUL m16int : `DE /1` (R655). -/
  | fimulM16int (ea : Ea)
  /-- FPREM : `D9 F8` (R656). -/
  | fprem
  /-- FPREM1 : `D9 F5` (R657). -/
  | fprem1
  /-- FRNDINT : `D9 FC` (R658). -/
  | frndint
  /-- FSCALE : `D9 FD` (R659). -/
  | fscale
  /-- FSQRT : `D9 FA` (R660). -/
  | fsqrt
  /-- FSUB m32real : `D8 /4` (R661). -/
  | fsubM32real (ea : Ea)
  /-- FSUB m64real : `DC /4` (R661). -/
  | fsubM64real (ea : Ea)
  /-- FSUB ST(0),ST(i) : `D8 E0+i` (R661). -/
  | fsubSt0Sti (i : Reg)
  /-- FSUB ST(i),ST(0) : `DC E8+i` (R661). -/
  | fsubStiSt0 (i : Reg)
  /-- FSUBP ST(i),ST(0) : `DE E8+i` (R661). -/
  | fsubpStiSt0 (i : Reg)
  /-- FISUB m32int : `DA /4` (R661). -/
  | fisubM32int (ea : Ea)
  /-- FISUB m16int : `DE /4` (R661). -/
  | fisubM16int (ea : Ea)
  /-- FSUBR m32real : `D8 /5` (R662). -/
  | fsubrM32real (ea : Ea)
  /-- FSUBR m64real : `DC /5` (R662). -/
  | fsubrM64real (ea : Ea)
  /-- FSUBR ST(0),ST(i) : `D8 E8+i` (R662). -/
  | fsubrSt0Sti (i : Reg)
  /-- FSUBR ST(i),ST(0) : `DC E0+i` (R662). -/
  | fsubrStiSt0 (i : Reg)
  /-- FSUBRP ST(i),ST(0) : `DE E0+i` (R662). -/
  | fsubrpStiSt0 (i : Reg)
  /-- FISUBR m32int : `DA /5` (R662). -/
  | fisubrM32int (ea : Ea)
  /-- FISUBR m16int : `DE /5` (R662). -/
  | fisubrM16int (ea : Ea)
  /-- FXTRACT : `D9 F4` (R663). -/
  | fxtract
  /-- F2XM1 : `D9 F0` (R685). -/
  | f2xm1
  /-- FCOS : `D9 FF` (R686). -/
  | fcos
  /-- FPATAN : `D9 F3` (R687). -/
  | fpatan
  /-- FPTAN : `D9 F2` (R688). -/
  | fptan
  /-- FSIN : `D9 FE` (R689). -/
  | fsin
  /-- FSINCOS : `D9 FB` (R690). -/
  | fsincos
  /-- FYL2X : `D9 F1` (R691). -/
  | fyl2x
  /-- FYL2XP1 : `D9 F9` (R692). -/
  | fyl2xp1
  /-- FNCLEX : `DB E2` (R705). -/
  | fnclex
  /-- FCLEX : `9B DB E2` (R705). -/
  | fclex
  /-- FDECSTP : `D9 F6` (R706). -/
  | fdecstp
  /-- FFREE ST(i) : `DD C0+i` (R707). -/
  | ffreeSti (i : Reg)
  /-- FINCSTP : `D9 F7` (R708). -/
  | fincstp
  /-- FNINIT : `DB E3` (R709). -/
  | fninit
  /-- FINIT : `9B DB E3` (R709). -/
  | finit
  /-- FLDCW m2byte : `D9 /5` (R710). -/
  | fldcwM2byte (ea : Ea)
  /-- FLDENV m14/28byte : `D9 /4` (R711). -/
  | fldenvMEnv (ea : Ea)
  /-- FNOP : `D9 D0` (R712). -/
  | fnop
  /-- FRSTOR m94/108byte : `DD /4` (R713). -/
  | frstorMState (ea : Ea)
  /-- FNSAVE m94/108byte : `DD /6` (R714). -/
  | fnsaveMState (ea : Ea)
  /-- FSAVE m94/108byte : `9B DD /6` (R714). -/
  | fsaveMState (ea : Ea)
  /-- FNSTCW m2byte : `D9 /7` (R715). -/
  | fnstcwM2byte (ea : Ea)
  /-- FSTCW m2byte : `9B D9 /7` (R715). -/
  | fstcwM2byte (ea : Ea)
  /-- FNSTENV m14/28byte : `D9 /6` (R716). -/
  | fnstenvMEnv (ea : Ea)
  /-- FSTENV m14/28byte : `9B D9 /6` (R716). -/
  | fstenvMEnv (ea : Ea)
  /-- FNSTSW m2byte : `DD /7` (R717). -/
  | fnstswM2byte (ea : Ea)
  /-- FNSTSW AX : `DF E0` (R717). -/
  | fnstswAx
  /-- FSTSW m2byte : `9B DD /7` (R717). -/
  | fstswM2byte (ea : Ea)
  /-- FSTSW AX : `9B DF E0` (R717). -/
  | fstswAx
  /-- WAIT : `9B` (R725). -/
  | wait
  /-- ARPL r/m16,r16 : `63 /r` (R750). -/
  | arplRm16R16 (rm : RM) (r : Reg)
  /-- CLTS : `0F 06` (R751). -/
  | clts
  /-- HLT : `F4` (R752). -/
  | hlt
  /-- INVD : `0F 08` (R753). -/
  | invd
  /-- INVLPG m : `0F 01 /7` (R754). -/
  | invlpgM (ea : Ea)
  /-- LAR r16,r/m16 : `0F 02 /r` with OS=16 (R755). -/
  | larR16Rm16 (r : Reg) (rm : RM)
  /-- LAR r32,r/m32 : `0F 02 /r` with OS=32 (R755). -/
  | larR32Rm32 (r : Reg) (rm : RM)
  /-- LGDT m16&32 : `0F 01 /2` (R756). -/
  | lgdtM16a32 (ea : Ea)
  /-- LIDT m16&32 : `0F 01 /3` (R756). -/
  | lidtM16a32 (ea : Ea)
  /-- LLDT r/m16 : `0F 00 /2` (R757). -/
  | lldtRm16 (rm : RM)
  /-- LMSW r/m16 : `0F 01 /6` (R758). -/
  | lmswRm16 (rm : RM)
  /-- LSL r16,r/m16 : `0F 03 /r` with OS=16 (R759). -/
  | lslR16Rm16 (r : Reg) (rm : RM)
  /-- LSL r32,r/m32 : `0F 03 /r` with OS=32 (R759). -/
  | lslR32Rm32 (r : Reg) (rm : RM)
  /-- LTR r/m16 : `0F 00 /3` (R760). -/
  | ltrRm16 (rm : RM)
  /-- MOV CRn,r32 : `0F 22 /r` (R761). -/
  | movCRnR32 (n : BitVec 3) (r : Reg)
  /-- MOV r32,CRn : `0F 20 /r` (R761). -/
  | movR32CRn (r : Reg) (n : BitVec 3)
  /-- MOV r32,DRn : `0F 21 /r` (R762). -/
  | movR32DRn (r : Reg) (n : BitVec 3)
  /-- MOV DRn,r32 : `0F 23 /r` (R762). -/
  | movDRnR32 (n : BitVec 3) (r : Reg)
  /-- RDMSR : `0F 32` (R763). -/
  | rdmsr
  /-- RDPMC : `0F 33` (R764). -/
  | rdpmc
  /-- RDTSC : `0F 31` (R765). -/
  | rdtsc
  /-- RSM : `0F AA` (R766). -/
  | rsm
  /-- SGDT m : `0F 01 /0` (R767). -/
  | sgdtM (ea : Ea)
  /-- SIDT m : `0F 01 /1` (R767). -/
  | sidtM (ea : Ea)
  /-- SLDT r/m16 : `0F 00 /0` with OS=16 (R768). -/
  | sldtRm16 (rm : RM)
  /-- SLDT r/m32 : `0F 00 /0` with OS=32 (R768). -/
  | sldtRm32 (rm : RM)
  /-- SMSW r/m16 : `0F 01 /4` with OS=16 (R769). -/
  | smswRm16 (rm : RM)
  /-- SMSW r32/m16 : `0F 01 /4` with OS=32 (R769). -/
  | smswR32M16 (rm : RM)
  /-- STR r/m16 : `0F 00 /1` (R770). -/
  | strRm16 (rm : RM)
  /-- VERR r/m16 : `0F 00 /4` (R771). -/
  | verrRm16 (rm : RM)
  /-- VERW r/m16 : `0F 00 /5` (R771). -/
  | verwRm16 (rm : RM)
  /-- WBINVD : `0F 09` (R772). -/
  | wbinvd
  /-- WRMSR : `0F 30` (R773). -/
  | wrmsr
deriving DecidableEq, Repr

end Sys2Proof
end

