-- ==== Sys2Proof/Machine/State.lean ====
section
/-! DEFINITION. The architectural state (10_state.md), the reasons a step can stop, and the state after RESET
(10_state.md R115, R116). Plain data only. Fields that the spec does not name are marked MODEL in their docstring. -/

namespace Sys2Proof.Machine

/-- The general registers (10_state.md R30). -/
structure Gprs where
  eax : DWord
  ecx : DWord
  edx : DWord
  ebx : DWord
  esp : DWord
  ebp : DWord
  esi : DWord
  edi : DWord
deriving DecidableEq, Repr

/-- EFLAGS (10_state.md R50). The reserved bits have no field: bit 1 is 1 and the others 0 for ever
(92_eei_decisions.md D50); `Flags.toWord` puts them into every image. -/
structure Flags where
  cf : Bool
  pf : Bool
  af : Bool
  zf : Bool
  sf : Bool
  /-- TF, bit 8. -/
  tf : Bool
  /-- IF, bit 9. -/
  ifl : Bool
  df : Bool
  /-- OF, bit 11. -/
  ofl : Bool
  iopl : BitVec 2
  nt : Bool
  rf : Bool
  vm : Bool
  ac : Bool
  vif : Bool
  vip : Bool
  /-- ID, bit 21. -/
  idf : Bool
deriving DecidableEq, Repr

/-- A segment register: the visible selector and the hidden part (10_state.md R36, 20_memory.md R142, R143). `limit`
is byte granular; expand-down is read from `ty`. -/
structure Seg where
  sel : Word
  valid : Bool
  base : DWord
  limit : DWord
  /-- The four type bits of the descriptor. -/
  ty : BitVec 4
  /-- S: a code or data segment. -/
  s : Bool
  dpl : BitVec 2
  p : Bool
  /-- D for a code segment, B for a stack segment. -/
  db : Bool
deriving DecidableEq, Repr

/-- LDTR and TR: the selector and the hidden descriptor part (10_state.md R81). -/
structure SysSeg where
  sel : Word
  valid : Bool
  base : DWord
  limit : DWord
  ty : BitVec 4
  dpl : BitVec 2
  p : Bool
deriving DecidableEq, Repr

/-- GDTR and IDTR (10_state.md R80). -/
structure TableReg where
  base : DWord
  limit : Word
deriving DecidableEq, Repr

/-- The six segment registers (10_state.md R35). -/
structure Segs where
  es : Seg
  cs : Seg
  ss : Seg
  ds : Seg
  fs : Seg
  gs : Seg
deriving DecidableEq, Repr

/-- The debug registers (10_state.md R95). DR4 and DR5 are aliases and have no storage. -/
structure DebugRegs where
  dr0 : DWord
  dr1 : DWord
  dr2 : DWord
  dr3 : DWord
  dr6 : DWord
  dr7 : DWord
deriving DecidableEq, Repr

/-- The stored bits of the FPU status word (10_state.md R102). ES and B are no storage: they are the summary of the
flags and the masks (92_eei_decisions.md D69). -/
structure FpuStatus where
  ie : Bool
  de : Bool
  ze : Bool
  oe : Bool
  ue : Bool
  pe : Bool
  sf : Bool
  c0 : Bool
  c1 : Bool
  c2 : Bool
  c3 : Bool
  top : BitVec 3
deriving DecidableEq, Repr

/-- The floating-point unit (10_state.md R100 to R106). `regs` and `empty` are indexed by PHYSICAL register number;
`empty` is the only stored tag state (R104). -/
structure Fpu where
  regs : Vector Ext 8
  empty : Vector Bool 8
  cw : Word
  st : FpuStatus
  /-- FPU instruction pointer: selector and offset (R105). -/
  fcs : Word
  fip : DWord
  /-- FPU data pointer: selector and offset (R105). -/
  fds : Word
  fdp : DWord
  /-- FPU opcode register, 11 bits (R106). -/
  fop : BitVec 11
deriving DecidableEq, Repr

/-- The repeat prefix in force (30_encoding.md R172 group 1). -/
inductive Rep where
  | none | repne | rep
deriving DecidableEq, Repr

/-- MODEL: the prefixes read so far of the instruction in progress (30_encoding.md R172); all clear between
instructions. -/
structure Prefixes where
  lock : Bool
  rep : Rep
  seg : Option SegReg
  /-- A 66H prefix was read. -/
  os : Bool
  /-- A 67H prefix was read. -/
  as : Bool
deriving DecidableEq, Repr

/-- `inhibit` (10_state.md R99 item 2, 60_exceptions.md R852): the window after an STI holds off maskable interrupts
and the single-step trap, the window after a load of SS also the NMI. -/
inductive Inhibit where
  | none | sti | ss
deriving DecidableEq, Repr

/-- The space of an event that the host answers: the I/O ports (20_memory.md R166), or the physical addresses that the
host marked as a device (R162). -/
inductive IoSpace where
  | port | memory
deriving DecidableEq, Repr

/-- One event that the host answers (20_memory.md R162, R165, R166): a read or a write of `width` bytes at a port or at a
physical address. -/
structure IoEvent where
  space : IoSpace
  write : Bool
  addr : DWord
  width : Nat
  value : Nat
deriving DecidableEq, Repr

/-- What a physical address holds (00_scope.md R5 item 4, R12 HOST_MEMORY; 20_memory.md R162, R167). -/
inductive RegionKind where
  | ram
  /-- Reads answer what is there, writes change nothing. -/
  | rom
  /-- Reads and writes are events that the host answers. -/
  | device
  /-- No memory and no device answers. -/
  | nothing
deriving DecidableEq, Repr

/-- A region of the physical address space: `size` bytes from `base` on. -/
structure Region where
  base : Nat
  size : Nat
  kind : RegionKind
deriving DecidableEq, Repr

/-- What the host offers the processor (10_state.md R99 items 5 and 6; 70_reset_and_hazards.md R910). -/
structure HostInput where
  /-- A maskable interrupt is offered, with its vector (60_exceptions.md R850). -/
  intr : Option Byte
  nmi : Bool
  /-- The RESET event. -/
  reset : Bool
  /-- The INIT event. -/
  init : Bool
  /-- IGNNE# (10_state.md R110). -/
  ignne : Bool
  /-- The values the ports answer to the next reads, in order; when the list is empty a read answers all ones
  (92_eei_decisions.md HOST_PORTS). -/
  portIn : List DWord
  /-- The physical memory map (00_scope.md R12 HOST_MEMORY): the first region that holds an address says what is there,
  and an address in no region is RAM. -/
  map : List Region
deriving DecidableEq, Repr

/-- Memory: the bytes that differ from what an unlisted address reads as, by rising address (20_memory.md R120). At an
address of a device it is the byte that the device presently answers (log 56). -/
abbrev Memory := List Host.Cell

/-- The whole machine. -/
structure State where
  gpr : Gprs
  /-- EIP. While an instruction executes it is the offset of the instruction's first byte, prefixes included. -/
  eip : DWord
  /-- MODEL: nextEIP of 10_state.md R40, the offset after the last byte fetched. -/
  nextEip : DWord
  flags : Flags
  cpl : BitVec 2
  seg : Segs
  ldtr : SysSeg
  tr : SysSeg
  gdtr : TableReg
  idtr : TableReg
  cr0 : DWord
  cr2 : DWord
  cr3 : DWord
  cr4 : DWord
  /-- The page-directory-pointer-table registers (10_state.md R73): hidden, loaded only with paging on. -/
  pdptr : Vector QWord 4
  dr : DebugRegs
  tsc : QWord
  pmc0 : BitVec 40
  pmc1 : BitVec 40
  /-- The model-specific registers of `Config.msrSet` but for the time-stamp counter, each with its value (10_state.md
  R96). -/
  msrs : List (DWord × QWord)
  fpu : Fpu
  mem : Memory
  /-- MODEL: for every address written since the caches were last written back, by rising address, the value it had
  then, which INVD can bring back (49_system_1.md R753). -/
  dirty : List Host.Cell
  inhibit : Inhibit
  halted : Bool
  shutdown : Bool
  /-- The single-step trap owed by the instruction just completed (60_exceptions.md R853, R854). -/
  trapOwed : Bool
  host : HostInput
  /-- The events at ports and devices so far, the latest first (20_memory.md R162, R165). -/
  ioTrace : List IoEvent
  /-- MODEL: the prefixes of the instruction in progress. -/
  pfx : Prefixes
  /-- MODEL: the flags as they were before a repeated CMPS or SCAS in progress began (92_eei_decisions.md D45). -/
  repFlags : Option Flags
  /-- MODEL: the bytes of a repeated string instruction in progress, as its first iteration found them at EIP: it goes on
  with them though it overwrites itself (20_memory.md R155). -/
  repCode : Option (List Byte)
  /-- MODEL: how many free values have been drawn. -/
  fresh : Nat
deriving DecidableEq, Repr

/-- Faults: the model itself gives up. No behaviour of the processor is a fault here: every exception of the spec is
TAKEN (60_exceptions.md R840). -/
inductive Fault where
  /-- Raised by `step` when an instruction's prefixes exceed the step's fuel. Never reached, because a repeated prefix
  group is refused first (30_encoding.md R173). Safe. -/
  | prefixOverrun
deriving DecidableEq, Repr

/-- Refusals: the spec gives no effect, so no next state is claimed. Every one is safe. -/
inductive Refusal where
  /-- Raised by `exec` for an instruction that has no meaning yet, by its mnemonic. Safe. -/
  | notModelled (mnemonic : String)
  /-- Raised by a prefix when its group already has one: "undefined: redundant prefix" (30_encoding.md R173,
  92_eei_decisions.md D80). Safe. -/
  | redundantPrefix
  /-- Raised at SWITCH-TASKS by far CALL and JMP, IRET and delivery (92_eei_decisions.md D24). Safe. -/
  | taskSwitch
  /-- Raised by MOV CR0 when it would set PG (92_eei_decisions.md D54). Safe. -/
  | paging
  /-- Raised by MOV CR4 when it would set VME or PVI (92_eei_decisions.md D36). Safe. -/
  | vmePvi
  /-- Raised by MOV CR0 when it would change a reserved bit (93_implementation_defined.md U-CR-RESERVED). Safe. -/
  | reservedCr0
  /-- Raised by an instruction whose result depends on precision control when PC = 01B
  (93_implementation_defined.md U-PC-RESERVED). Safe. -/
  | reservedPrecision
  /-- Raised by WRMSR when it would change a bit that may not be written (93_implementation_defined.md U-MSR-RESERVED);
  with the default `MSR_SET` no such bit exists. Safe. -/
  | reservedMsr
  /-- Raised by a load of a segment register from an expand-down descriptor where the parameter `EXPAND_DOWN` is false
  (00_scope.md R12); never with the value of log 17. Safe. -/
  | expandDown
deriving DecidableEq, Repr

/-- A segment register after RESET: present, read/write, accessed, limit FFFFH (R116). -/
def resetSeg (sel : Word) (base : DWord) : Seg :=
  { sel := sel, valid := true, base := base, limit := 0xFFFF#32, ty := 3#4, s := true, dpl := 0#2, p := true,
    db := false }

/-- The flags after RESET: EFLAGS = 00000002H (R115). -/
def resetFlags : Flags :=
  { cf := false, pf := false, af := false, zf := false, sf := false, tf := false, ifl := false, df := false,
    ofl := false, iopl := 0#2, nt := false, rf := false, vm := false, ac := false, vif := false, vip := false,
    idf := false }

/-- The FPU status after RESET and after FINIT: 0000H. -/
def clearStatus : FpuStatus :=
  { ie := false, de := false, ze := false, oe := false, ue := false, pe := false, sf := false, c0 := false,
    c1 := false, c2 := false, c3 := false, top := 0#3 }

/-- The FPU after RESET (R116): control word 0040H, every register +0 and tagged zero, so not empty. -/
def resetFpu : Fpu :=
  { regs := Vector.replicate 8 0#80, empty := Vector.replicate 8 false, cw := 0x0040#16, st := clearStatus,
    fcs := 0#16, fip := 0#32, fds := 0#16, fdp := 0#32, fop := 0#11 }

/-- No prefix. -/
def noPrefixes : Prefixes := { lock := false, rep := .none, seg := none, os := false, as := false }

/-- The model-specific registers after RESET, the time-stamp counter apart (R116). -/
def resetMsrs : List (DWord × QWord) :=
  (Config.msrSet.filter fun r => r.1 != Config.msrTsc).map fun r => (r.1, r.2.1)

/-- The host offers nothing, and every address is RAM (92_eei_decisions.md HOST_INTERRUPTS, default: none arrive). -/
def quietHost : HostInput :=
  { intr := none, nmi := false, reset := false, init := false, ignne := false, portIn := [], map := [] }

/-- The machine right after RESET (10_state.md R115, R116): EIP = 0000FFF0H in CS = F000H with base FFFF0000H, real-
address mode, EDX the processor signature. Memory lists nothing (log 1); the values the table does not state are log 3. -/
def State.reset : State :=
  { gpr := { eax := 0#32, ecx := 0#32, edx := Config.cpuidSignature, ebx := 0#32, esp := 0#32, ebp := 0#32,
             esi := 0#32, edi := 0#32 },
    eip := 0xFFF0#32, nextEip := 0xFFF0#32, flags := resetFlags, cpl := 0#2,
    seg := { es := resetSeg 0#16 0#32, cs := resetSeg 0xF000#16 0xFFFF0000#32, ss := resetSeg 0#16 0#32,
             ds := resetSeg 0#16 0#32, fs := resetSeg 0#16 0#32, gs := resetSeg 0#16 0#32 },
    ldtr := { sel := 0#16, valid := false, base := 0#32, limit := 0xFFFF#32, ty := 2#4, dpl := 0#2, p := true },
    tr := { sel := 0#16, valid := true, base := 0#32, limit := 0xFFFF#32, ty := 0xB#4, dpl := 0#2, p := true },
    gdtr := { base := 0#32, limit := 0xFFFF#16 }, idtr := { base := 0#32, limit := 0xFFFF#16 },
    cr0 := 0x60000010#32, cr2 := 0#32, cr3 := 0#32, cr4 := 0#32, pdptr := Vector.replicate 4 0#64,
    dr := { dr0 := 0#32, dr1 := 0#32, dr2 := 0#32, dr3 := 0#32, dr6 := 0xFFFF0FF0#32, dr7 := 0x00000400#32 },
    tsc := 0#64, pmc0 := 0#40, pmc1 := 0#40, msrs := resetMsrs, fpu := resetFpu, mem := [], dirty := [],
    inhibit := .none, halted := false, shutdown := false, trapOwed := false, host := quietHost, ioTrace := [],
    pfx := noPrefixes, repFlags := none, repCode := none, fresh := 0 }

end Sys2Proof.Machine
end

