-- ==== Sys2Proof/Machine/Flags.lean ====
section
/-! DEFINITION. EFLAGS as a word and the flag functions that every arithmetic rule uses (10_state.md R50, R60 to
R64). -/

namespace Sys2Proof.Machine

/-- EFLAGS as a doubleword (R50): bit 1 reads 1 and the other reserved bits 0 (92_eei_decisions.md D50). -/
def Flags.toWord (f : Flags) : DWord :=
  0#10 ++ BitVec.ofBool f.idf ++ BitVec.ofBool f.vip ++ BitVec.ofBool f.vif ++ BitVec.ofBool f.ac ++
  BitVec.ofBool f.vm ++ BitVec.ofBool f.rf ++ 0#1 ++ BitVec.ofBool f.nt ++ f.iopl ++ BitVec.ofBool f.ofl ++
  BitVec.ofBool f.df ++ BitVec.ofBool f.ifl ++ BitVec.ofBool f.tf ++ BitVec.ofBool f.sf ++ BitVec.ofBool f.zf ++
  0#1 ++ BitVec.ofBool f.af ++ 0#1 ++ BitVec.ofBool f.pf ++ 1#1 ++ BitVec.ofBool f.cf

/-- The flags of an EFLAGS image (R50); reserved positions of the image are ignored (92_eei_decisions.md D50). -/
def Flags.ofWord (w : DWord) : Flags :=
  { cf := w.getLsbD 0, pf := w.getLsbD 2, af := w.getLsbD 4, zf := w.getLsbD 6, sf := w.getLsbD 7,
    tf := w.getLsbD 8, ifl := w.getLsbD 9, df := w.getLsbD 10, ofl := w.getLsbD 11, iopl := w.extractLsb' 12 2,
    nt := w.getLsbD 14, rf := w.getLsbD 16, vm := w.getLsbD 17, ac := w.getLsbD 18, vif := w.getLsbD 19,
    vip := w.getLsbD 20, idf := w.getLsbD 21 }

/-- PF of a low byte: an even number of 1 bits (R60). -/
def parity (b : Byte) : Bool :=
  !(b.getLsbD 0 ^^ b.getLsbD 1 ^^ b.getLsbD 2 ^^ b.getLsbD 3 ^^ b.getLsbD 4 ^^ b.getLsbD 5 ^^ b.getLsbD 6 ^^
    b.getLsbD 7)

/-- `SZP(r, n)` (R60). -/
def Flags.szp {w : Nat} (f : Flags) (r : BitVec w) : Flags :=
  { f with zf := r == 0#w, sf := r.msb, pf := parity (r.setWidth 8) }

/-- The result of `AddFlags(a, b, cin, n)` (R61). -/
def addResult {w : Nat} (a b : BitVec w) (cin : Bool) : BitVec w := BitVec.ofNat w (a.toNat + b.toNat + cin.toNat)

/-- The flags of `AddFlags(a, b, cin, n)` (R61). -/
def Flags.add {w : Nat} (f : Flags) (a b : BitVec w) (cin : Bool) : Flags :=
  { f.szp (addResult a b cin) with
    cf := decide (2 ^ w ≤ a.toNat + b.toNat + cin.toNat),
    af := decide (16 ≤ a.toNat % 16 + b.toNat % 16 + cin.toNat),
    ofl := a.msb == b.msb && (addResult a b cin).msb != a.msb }

/-- The result of `SubFlags(a, b, bin, n)` (R62). -/
def subResult {w : Nat} (a b : BitVec w) (bin : Bool) : BitVec w := a - b - BitVec.ofNat w bin.toNat

/-- The flags of `SubFlags(a, b, bin, n)` (R62). -/
def Flags.sub {w : Nat} (f : Flags) (a b : BitVec w) (bin : Bool) : Flags :=
  { f.szp (subResult a b bin) with
    cf := decide (a.toNat < b.toNat + bin.toNat),
    af := decide (a.toNat % 16 < b.toNat % 16 + bin.toNat),
    ofl := a.msb != b.msb && (subResult a b bin).msb != a.msb }

/-- `LogicFlags(r, n)` (R63); AF is undefined and is the free bit `af`. -/
def Flags.logic {w : Nat} (f : Flags) (r : BitVec w) (af : Bool) : Flags :=
  { f.szp r with cf := false, ofl := false, af := af }

/-- `Cond(cc)`: the sixteen conditions of Appendix B (R64). -/
def Flags.cond (f : Flags) (cc : BitVec 4) : Bool :=
  match cc.toNat with
  | 0 => f.ofl
  | 1 => !f.ofl
  | 2 => f.cf
  | 3 => !f.cf
  | 4 => f.zf
  | 5 => !f.zf
  | 6 => f.cf || f.zf
  | 7 => !(f.cf || f.zf)
  | 8 => f.sf
  | 9 => !f.sf
  | 10 => f.pf
  | 11 => !f.pf
  | 12 => f.sf ^^ f.ofl
  | 13 => !(f.sf ^^ f.ofl)
  | 14 => (f.sf ^^ f.ofl) || f.zf
  | _ => !((f.sf ^^ f.ofl) || f.zf)

/-- The six status flags OF SF ZF AF PF CF taken from six bits, bit 0 for CF (R52). -/
def Flags.setStatus (f : Flags) (b : BitVec 6) : Flags :=
  { f with cf := b.getLsbD 0, pf := b.getLsbD 1, af := b.getLsbD 2, zf := b.getLsbD 3, sf := b.getLsbD 4,
           ofl := b.getLsbD 5 }

/-- The status flags of `g` with everything else of `f` (92_eei_decisions.md D45). -/
def Flags.withStatusOf (f g : Flags) : Flags :=
  { f with cf := g.cf, pf := g.pf, af := g.af, zf := g.zf, sf := g.sf, ofl := g.ofl }

end Sys2Proof.Machine
end

