-- ==== Sys2Proof/Machine/Ops.lean ====
section
/-! DEFINITION. The named operations that every meaning uses: memory, registers, segment checks, stack, descriptors,
free values, TAKING AN EXCEPTION (60_exceptions.md R840 to R848, R860) and how an instruction ends. -/

namespace Sys2Proof.Machine

/-! ## Memory as data (20_memory.md R120, R121) -/

/-- What a byte of memory that nothing has written reads as (92_eei_decisions.md HOST_MEMORY: "zeros elsewhere").
DESIGN CHOICE, log 1. -/
def defaultByte : Byte := 0#8

/-- Read one byte of memory. -/
def Memory.read : Memory → Nat → Byte
  | [], _ => defaultByte
  | (b, x) :: m, a => if a < b then defaultByte else if a = b then x else Memory.read m a

/-- Write one byte of memory, keeping the canonical form. -/
def Memory.write : Memory → Nat → Byte → Memory
  | [], a, v => if v = defaultByte then [] else [(a, v)]
  | (b, x) :: m, a, v =>
    if a < b then (if v = defaultByte then (b, x) :: m else (a, v) :: (b, x) :: m)
    else if a = b then (if v = defaultByte then m else (a, v) :: m)
    else (b, x) :: Memory.write m a v

/-- Addresses strictly rise from `lo` on. -/
def cellsRise (lo : Nat) : List Host.Cell → Bool
  | [] => true
  | (a, _) :: m => decide (lo ≤ a) && cellsRise (a + 1) m

/-- The canonical form of memory: rising addresses below 2^32, and no cell that equals what an unlisted one reads. -/
def Memory.wf (m : Memory) : Bool :=
  cellsRise 0 m && m.all fun c => decide (c.1 < 2 ^ 32) && c.2 != defaultByte

/-- Note the value an address has before its first write since the caches were written back (49_system_1.md R753). -/
def noteDirty : List Host.Cell → Nat → Byte → List Host.Cell
  | [], a, old => [(a, old)]
  | (b, x) :: d, a, old =>
    if a < b then (a, old) :: (b, x) :: d else if a = b then (b, x) :: d else (b, x) :: noteDirty d a old

/-! ## The address space (20_memory.md R120, R121, R125, R162) -/

/-- CR0.PE. -/
def State.pe (s : State) : Bool := s.cr0.getLsbD 0

/-- What a physical address holds (R162, R167). -/
def State.kindAt (s : State) (p : Nat) : RegionKind :=
  match s.host.map.find? fun r => decide (r.base ≤ p) && decide (p < r.base + r.size) with
  | some r => r.kind
  | none => .ram

/-- The physical address of a linear one: paging is not modelled (R125, D54); bit 20 is masked only with A20M, in
real-address mode (00_scope.md R12). -/
def State.phys (s : State) (a : DWord) : Nat :=
  if Config.a20Masked && !s.pe then (a &&& 0xFFEFFFFF#32).toNat else a.toNat

/-- The byte that a read at a linear address answers: where nothing answers it is any value (log 56). -/
def State.byteAt (s : State) (a : DWord) : Byte :=
  if s.kindAt (s.phys a) = .nothing then Config.holeByte (s.phys a) s.fresh else s.mem.read (s.phys a)

/-- The `n` bytes from a linear address on, least significant first (R121): the value alone, without what a read does
besides (`State.noteRead`). -/
def State.readLin (s : State) (a : DWord) : Nat → Nat
  | 0 => 0
  | n + 1 => (s.byteAt a).toNat + 256 * State.readLin s (a + 1#32) n

/-- Store one byte at a linear address: RAM alone changes (R162, R167). -/
def State.storeByte (s : State) (a : DWord) (v : Byte) : State :=
  if s.kindAt (s.phys a) = .ram then
    { s with mem := s.mem.write (s.phys a) v,
             dirty := noteDirty s.dirty (s.phys a) (s.mem.read (s.phys a)) }
  else s

/-- Store the low `n` bytes of `v` from linear address `a` on, least significant first (R121). -/
def State.storeBytes (s : State) (a : DWord) : Nat → Nat → State
  | 0, _ => s
  | n + 1, v => State.storeBytes (s.storeByte a (BitVec.ofNat 8 v)) (a + 1#32) n (v / 256)

/-- One of the `n` bytes from linear address `a` on stands on a region of kind `k`. -/
def State.touches (s : State) (k : RegionKind) (a : DWord) : Nat → Bool
  | 0 => false
  | n + 1 => s.kindAt (s.phys a) == k || State.touches s k (a + 1#32) n

/-- An access of `n` bytes that reaches a device is one event that the host answers (R162; log 56). -/
def State.noteAccess (s : State) (write : Bool) (a : DWord) (n v : Nat) : State :=
  if s.touches .device a n then
    { s with ioTrace := { space := .memory, write := write, addr := BitVec.ofNat 32 (s.phys a), width := n,
                          value := v } :: s.ioTrace }
  else s

/-- What a read of `n` bytes does besides answering: the event at a device, and a new draw where nothing answers. -/
def State.noteRead (s : State) (a : DWord) (n : Nat) : State :=
  let t := s.noteAccess false a n (s.readLin a n)
  if s.touches .nothing a n then { t with fresh := t.fresh + 1 } else t

/-- A write of the low `n` bytes of `v` from linear address `a` on, with its event at a device. -/
def State.store (s : State) (a : DWord) (n v : Nat) : State :=
  (s.storeBytes a n v).noteAccess true a n (v % 256 ^ n)

/-- A read of the `n` bytes only reads: RAM or ROM answers each of them. -/
def State.quiet (s : State) (a : DWord) (n : Nat) : Bool := !s.touches .device a n && !s.touches .nothing a n

/-! ## Stopping and the monad of a meaning -/

/-- Why a meaning does not complete. -/
inductive Stop where
  /-- A fault of the instruction: an exception with its error code (60_exceptions.md R830, R831). -/
  | exc (vector : Byte) (err : Option Word)
  /-- A fault of a floating-point store whose first `n` bytes, of value `v` at linear address `a`, lie inside the segment:
  each of them may be stored or not (93_implementation_defined.md U-SPLIT-STORE), by the free value numbered `fresh`. -/
  | torn (vector : Byte) (err : Option Word) (a : DWord) (n v fresh : Nat)
  /-- The model refuses. -/
  | refuse (r : Refusal)
  /-- The processor waits before the instruction (46_fpu_numerics.md R549, 92_eei_decisions.md D77). -/
  | wait
  /-- The processor shuts down (40_data_movement.md R262). -/
  | shutdown
deriving DecidableEq, Repr

/-- A meaning: it reads and updates the state, or stops, and then the state it started from counts (R836). -/
abbrev M := StateT State (Except Stop)

/-- #DE. -/
def excDE : Stop := .exc 0#8 none
/-- #DB. -/
def excDB : Stop := .exc 1#8 none
/-- #BR. -/
def excBR : Stop := .exc 5#8 none
/-- #UD. -/
def excUD : Stop := .exc 6#8 none
/-- #NM. -/
def excNM : Stop := .exc 7#8 none
/-- #MF. -/
def excMF : Stop := .exc 16#8 none
/-- #TS(code). -/
def excTS (code : Word) : Stop := .exc 10#8 (some code)
/-- #NP(code). -/
def excNP (code : Word) : Stop := .exc 11#8 (some code)
/-- #SS(code). -/
def excSS (code : Word) : Stop := .exc 12#8 (some code)
/-- #GP(code). -/
def excGP (code : Word) : Stop := .exc 13#8 (some code)
/-- #AC(0). -/
def excAC : Stop := .exc 17#8 (some 0#16)

/-- Stop where a check answers a reason. -/
def check (o : Option Stop) : M Unit :=
  match o with
  | none => pure ()
  | some e => throw e

/-- Stop with `e` where a condition holds. -/
def stopIf (b : Bool) (e : Stop) : M Unit := check (if b then some e else none)

/-! ## Free values -/

/-- Draw `w` undefined bits (93_implementation_defined.md Part 1, `any value`). -/
def freeBits (w : Nat) : M (BitVec w) := do
  let s ← get
  set { s with fresh := s.fresh + 1 }
  pure (Config.freeBits w s.fresh)

/-- Draw one undefined bit. -/
def freeBit : M Bool := do
  let b ← freeBits 1
  pure (b.getLsbD 0)

/-! ## General registers (10_state.md R30; 30_encoding.md R183) -/

/-- `Reg32[i]`. -/
def Gprs.get (g : Gprs) (r : Reg) : DWord :=
  match r.toNat with
  | 0 => g.eax
  | 1 => g.ecx
  | 2 => g.edx
  | 3 => g.ebx
  | 4 => g.esp
  | 5 => g.ebp
  | 6 => g.esi
  | _ => g.edi

/-- Write `Reg32[i]`. -/
def Gprs.set (g : Gprs) (r : Reg) (v : DWord) : Gprs :=
  match r.toNat with
  | 0 => { g with eax := v }
  | 1 => { g with ecx := v }
  | 2 => { g with edx := v }
  | 3 => { g with ebx := v }
  | 4 => { g with esp := v }
  | 5 => { g with ebp := v }
  | 6 => { g with esi := v }
  | _ => { g with edi := v }

/-- The low word of a doubleword replaced: a write to a 16-bit name (R30). -/
def setLow16 (d : DWord) (v : Word) : DWord := d.extractLsb' 16 16 ++ v

/-- Bits 7:0 replaced: a write to AL, CL, DL or BL (R30). -/
def setLow8 (d : DWord) (v : Byte) : DWord := d.extractLsb' 8 24 ++ v

/-- Bits 15:8 replaced: a write to AH, CH, DH or BH (R30). -/
def setHigh8 (d : DWord) (v : Byte) : DWord := d.extractLsb' 16 16 ++ v ++ d.extractLsb' 0 8

/-- The register that byte code `r` names a part of: AL CL DL BL AH CH DH BH (R183). -/
def byteHome (r : Reg) : Reg := r &&& 3#3

/-- `Reg8[i]`, `Reg16[i]` or `Reg32[i]` by the width. -/
def Gprs.read (g : Gprs) (w : Nat) (r : Reg) : BitVec w :=
  if w = 8 then
    (if r.getLsbD 2 then ((g.get (byteHome r)).extractLsb' 8 8).setWidth w else (g.get (byteHome r)).setWidth w)
  else (g.get r).setWidth w

/-- Write `Reg8[i]`, `Reg16[i]` or `Reg32[i]` by the width; the rest of the register stays (R30). -/
def Gprs.write (g : Gprs) (w : Nat) (r : Reg) (v : BitVec w) : Gprs :=
  if w = 8 then
    (if r.getLsbD 2 then g.set (byteHome r) (setHigh8 (g.get (byteHome r)) (v.setWidth 8))
     else g.set (byteHome r) (setLow8 (g.get (byteHome r)) (v.setWidth 8)))
  else if w = 16 then g.set r (setLow16 (g.get r) (v.setWidth 16))
  else g.set r (v.setWidth 32)

/-- Register codes by name (R183). -/
abbrev rA : Reg := 0#3
/-- ECX, CX, CL. -/
abbrev rC : Reg := 1#3
/-- EDX, DX, DL. -/
abbrev rD : Reg := 2#3
/-- EBX, BX, BL. -/
abbrev rB : Reg := 3#3
/-- ESP, SP; AH in the byte forms. -/
abbrev rSP : Reg := 4#3
/-- AH, as a byte code. -/
abbrev rAH : Reg := 4#3
/-- EBP, BP. -/
abbrev rBP : Reg := 5#3
/-- ESI, SI. -/
abbrev rSI : Reg := 6#3
/-- EDI, DI. -/
abbrev rDI : Reg := 7#3

/-- Read a general register of a width. -/
def getReg (w : Nat) (r : Reg) : M (BitVec w) := do pure ((← get).gpr.read w r)

/-- Write a general register of a width. -/
def setReg (w : Nat) (r : Reg) (v : BitVec w) : M Unit := modify fun s => { s with gpr := s.gpr.write w r v }

/-- Replace the flags. -/
def setFlags (f : Flags → Flags) : M Unit := modify fun s => { s with flags := f s.flags }

/-! ## Modes and privilege (60_exceptions.md R880) -/

/-- Protected mode: PE = 1 and VM = 0. -/
def State.isProt (s : State) : Bool := s.pe && !s.flags.vm

/-- Virtual-8086 mode: PE = 1 and VM = 1. -/
def State.isV86 (s : State) : Bool := s.pe && s.flags.vm

/-- Real-address mode: PE = 0. -/
def State.isReal (s : State) : Bool := !s.pe

/-- May privileged instructions run: real-address mode, or protected mode at CPL 0? -/
def State.privileged (s : State) : Bool := s.isReal || (s.isProt && s.cpl == 0#2)

/-- The check of a privileged instruction: #GP(0) at CPL > 0 and in virtual-8086 mode (R880). -/
def needCpl0 : M Unit := do
  let s ← get
  stopIf (!s.privileged) (excGP 0#16)

/-- CPL > IOPL (10_state.md R37, R53). -/
def State.aboveIopl (s : State) : Bool := decide (s.flags.iopl.toNat < s.cpl.toNat)

/-- CR0.EM or CR0.TS is set (10_state.md R82). -/
def State.fpuOff (s : State) : Bool := s.cr0.getLsbD 2 || s.cr0.getLsbD 3

/-! ## Segment registers and the checks of an access (20_memory.md R125, R126, R130, R131, R133) -/

/-- A segment register. -/
def Segs.get (g : Segs) : SegReg → Seg
  | .es => g.es
  | .cs => g.cs
  | .ss => g.ss
  | .ds => g.ds
  | .fs => g.fs
  | .gs => g.gs

/-- Replace a segment register. -/
def Segs.set (g : Segs) (r : SegReg) (v : Seg) : Segs :=
  match r with
  | .es => { g with es := v }
  | .cs => { g with cs := v }
  | .ss => { g with ss := v }
  | .ds => { g with ds := v }
  | .fs => { g with fs := v }
  | .gs => { g with gs := v }

/-- A code segment (R142). -/
def Seg.isCode (g : Seg) : Bool := g.s && g.ty.getLsbD 3
/-- A data segment (R142). -/
def Seg.isData (g : Seg) : Bool := g.s && !g.ty.getLsbD 3
/-- A conforming code segment. -/
def Seg.isConforming (g : Seg) : Bool := g.isCode && g.ty.getLsbD 2
/-- A readable code segment. -/
def Seg.isReadableCode (g : Seg) : Bool := g.isCode && g.ty.getLsbD 1
/-- A writable data segment. -/
def Seg.isWritableData (g : Seg) : Bool := g.isData && g.ty.getLsbD 1
/-- An expand-down data segment. -/
def Seg.isExpandDown (g : Seg) : Bool := g.isData && g.ty.getLsbD 2

/-- A place in memory: a segment register, an offset already truncated to the address size, and whether that size is
32 bits. -/
structure Loc where
  seg : SegReg
  off : DWord
  wide : Bool
deriving DecidableEq, Repr

/-- The last offset of an address size. -/
def offsetTop (wide : Bool) : Nat := if wide then 0xFFFFFFFF else 0xFFFF

/-- An access of `n` bytes at `off` lies inside the segment limit and does not wrap its address size (R126, D62;
log 17). -/
def Seg.inLimit (g : Seg) (off : DWord) (wide : Bool) (n : Nat) : Bool :=
  decide (off.toNat + n - 1 ≤ offsetTop wide) &&
    (if g.isExpandDown then decide (g.limit.toNat < off.toNat) && decide (off.toNat + n - 1 ≤ offsetTop g.db)
     else decide (off.toNat + n - 1 ≤ g.limit.toNat))

/-- The linear address of a place (R125, D61). -/
def State.linear (s : State) (l : Loc) : DWord := (s.seg.get l.seg).base + l.off

/-- The limit violation of an access through a segment register (R130). -/
def limitFault (sr : SegReg) : Stop := if sr = .ss then excSS 0#16 else excGP 0#16

/-- Alignment checking is on: CR0.AM, EFLAGS.AC and CPL 3 (R133). -/
def State.alignChecked (s : State) : Bool := s.pe && s.cr0.getLsbD 18 && s.flags.ac && s.cpl == 3#2

/-- The alignment check of an access to a datum that should be aligned on `al` (R133). -/
def alignFault (s : State) (l : Loc) (al : Nat) : Option Stop :=
  if s.alignChecked && decide ((s.linear l).toNat % al ≠ 0) then some excAC else none

/-- Limit, then alignment (R130, R854 item 6). -/
def rangeFault (s : State) (l : Loc) (n al : Nat) : Option Stop :=
  if !(s.seg.get l.seg).inLimit l.off l.wide n then some (limitFault l.seg) else alignFault s l al

/-- The checks of `MemRead(seg:off, n)` (R130). -/
def readFault (s : State) (l : Loc) (n al : Nat) : Option Stop :=
  if s.isProt && (!(s.seg.get l.seg).valid || ((s.seg.get l.seg).isCode && !(s.seg.get l.seg).isReadableCode)) then
    some (excGP 0#16)
  else rangeFault s l n al

/-- The checks of `MemWrite(seg:off, n)` (R131: CS is never writable in protected mode). -/
def writeFault (s : State) (l : Loc) (n al : Nat) : Option Stop :=
  if s.isProt && (!(s.seg.get l.seg).valid || l.seg == .cs || !(s.seg.get l.seg).isWritableData) then
    some (excGP 0#16)
  else rangeFault s l n al

/-- A read of `n` bytes whose checks, if it has any, are made: tables, the TSS and the I/O map (R147, R148, R160; its event
at a device is log 56), and the parts of an operand that is several accesses (R137). -/
def sysRead (a : DWord) (n : Nat) : M Nat := do
  let s ← get
  set (s.noteRead a n)
  pure (s.readLin a n)

/-- `MemRead(seg:off, n)`. -/
def memRead (l : Loc) (n al : Nat) : M Nat := do
  let s ← get
  check (readFault s l n al)
  set (s.noteRead (s.linear l) n)
  pure (s.readLin (s.linear l) n)

/-- An operand of two parts, of `n` and `m` bytes: two accesses, both checked before the first (R137); the part at the lower
address is read first, as the pages write it (45_flag_segment_misc.md R485; log 62). -/
def memReadPair (l : Loc) (n m al : Nat) : M (Nat × Nat) := do
  let s ← get
  check (readFault s l (n + m) al)
  let v ← sysRead (s.linear l) n
  let u ← sysRead (s.linear l + BitVec.ofNat 32 n) m
  pure (v, u)

/-- `MemWrite(seg:off, n, v)`. -/
def memWrite (l : Loc) (n al : Nat) (v : Nat) : M Unit := do
  let s ← get
  check (writeFault s l n al)
  set (s.store (s.linear l) n v)

/-- How many of the first `n` bytes at a place can be written. -/
def State.storable (s : State) (l : Loc) : Nat → Nat
  | 0 => 0
  | n + 1 => if writeFault s l (n + 1) 1 = none then n + 1 else s.storable l n

/-- The stop of a floating-point store of `v` that is not possible as a whole: where its first part lies inside the
segment and the second outside, the first part may be stored (60_exceptions.md R836; log 34). -/
def State.splitStop (s : State) (l : Loc) (n v fresh : Nat) (e : Stop) : Stop :=
  match e with
  | .exc vec err =>
    if s.storable l n = 0 ∨ s.storable l n = n then e else .torn vec err (s.linear l) (s.storable l n) v fresh
  | _ => e

/-- `MemWrite(seg:off, n, v)` by a floating-point store (46_fpu_numerics.md R575 item m). -/
def memWriteSplit (l : Loc) (n al : Nat) (v : Nat) : M Unit := do
  let s ← get
  check ((writeFault s l n al).map (s.splitStop l n v s.fresh))
  set (s.store (s.linear l) n v)

/-- The write checks alone, made before the read of a read-modify-write (R131). -/
def memProbe (l : Loc) (n al : Nat) : M Unit := do
  let s ← get
  check (writeFault s l n al)

/-! ## The stack (20_memory.md R132; 10_state.md R42) -/

/-- SAS = 32: SS.B in protected mode; 16 bits in the other modes (R42, R141). -/
def State.sas32 (s : State) : Bool := s.isProt && s.seg.ss.db

/-- An offset modulo an address size. -/
def wrapOff (wide : Bool) (off : DWord) : DWord := if wide then off else (off.setWidth 16).setWidth 32

/-- The offset of the top of the stack. -/
def State.stackTop (s : State) : DWord := wrapOff s.sas32 s.gpr.esp

/-- The place `d` bytes above the top of the stack, modulo the stack width. -/
def State.stackLoc (s : State) (d : DWord) : Loc :=
  { seg := .ss, off := wrapOff s.sas32 (s.gpr.esp + d), wide := s.sas32 }

/-- Set ESP or SP. -/
def State.setStackTop (s : State) (off : DWord) : State :=
  { s with gpr := { s.gpr with esp := if s.sas32 then off else setLow16 s.gpr.esp (off.setWidth 16) } }

/-- The place that a push of `n` bytes stores to. -/
def State.pushLoc (s : State) (n : Nat) : Loc := s.stackLoc (0#32 - BitVec.ofNat 32 n)

/-- `Push(v, n)`, of an item that should be aligned on `al`. -/
def pushAl (n al : Nat) (v : Nat) : M Unit := do
  let s ← get
  check (writeFault s (s.pushLoc n) n al)
  set ((s.store (s.linear (s.pushLoc n)) n v).setStackTop (s.pushLoc n).off)

/-- `Push(v, n)`. -/
def push (n : Nat) (v : Nat) : M Unit := pushAl n n v

/-- Push without checks, after a room check (60_exceptions.md R841 to R848). The alignment of the pushes of a delivery or of a
call gate is never checked, on a CPL 3 stack either: R133 exempts a CPL 0 stack alone, and the INT page lists no #AC (DESIGN
CHOICE, log 60). -/
def pushRaw (n : Nat) (v : Nat) : M Unit := modify fun s =>
  (s.store (s.linear (s.pushLoc n)) n v).setStackTop (s.pushLoc n).off

/-- `Pop(n)`, of an item that should be aligned on `al`. -/
def popAl (n al : Nat) : M Nat := do
  let s ← get
  check (readFault s (s.stackLoc 0#32) n al)
  set ((s.noteRead (s.linear (s.stackLoc 0#32)) n).setStackTop (s.stackLoc (BitVec.ofNat 32 n)).off)
  pure (s.readLin (s.linear (s.stackLoc 0#32)) n)

/-- Pass over an item of `n` bytes at the top of the stack: its place is checked and nothing is read (40_data_movement.md R260,
"skip saved ESP"). -/
def skipItem (n al : Nat) : M Unit := do
  let s ← get
  check (readFault s (s.stackLoc 0#32) n al)
  set (s.setStackTop (s.stackLoc (BitVec.ofNat 32 n)).off)

/-- `Pop(n)`. -/
def pop (n : Nat) : M Nat := popAl n n

/-- Read the item `d` bytes above the top of the stack. An item is checked where it stands: items on both sides of the
wrap of the stack pointer, of 16 or of 32 bits, are read (DESIGN CHOICE, log 57). -/
def peek (d n : Nat) : M Nat := do
  let s ← get
  memRead (s.stackLoc (BitVec.ofNat 32 d)) n n

/-- The `n` bytes from `d` bytes above the top of the stack on lie within the limit of the stack segment: the block check
that precedes the pops (43_control_transfer_1.md R398 to R412). A block that goes past the top of the stack pointer's range,
FFFFH with a 16-bit pointer and FFFFFFFFH with a 32-bit one, goes on at offset 0, and both parts are checked there: the
rules are silent on a block that wraps (DESIGN CHOICE, log 57). -/
def State.topIn (s : State) (d n : Nat) : Bool :=
  let o := (s.stackLoc (BitVec.ofNat 32 d)).off
  let room := offsetTop s.sas32 + 1 - o.toNat
  if n ≤ room then s.seg.ss.inLimit o s.sas32 n
  else s.seg.ss.inLimit o s.sas32 room && s.seg.ss.inLimit 0#32 s.sas32 (n - room)

/-- That check: a block outside the limit is #SS(0). -/
def needTop (d n : Nat) : M Unit := do
  let s ← get
  stopIf (!s.topIn d n) (excSS 0#16)

/-- Every one of `k` items of `n` bytes pushed below `off` lies inside the stack segment (D26). Each item is checked where
it is pushed, modulo the stack width, 16 or 32 bits: a block that wraps below offset 0 between two items has room (DESIGN
CHOICE, log 57). -/
def roomBelow (g : Seg) (wide : Bool) (off : DWord) (n : Nat) : Nat → Bool
  | 0 => true
  | k + 1 =>
    let o := wrapOff wide (off - BitVec.ofNat 32 n)
    g.inLimit o wide n && roomBelow g wide o n k

/-- Room for `k` items of `n` bytes on the current stack. -/
def State.stackRoom (s : State) (n k : Nat) : Bool := roomBelow s.seg.ss s.sas32 s.stackTop n k

/-! ## Selectors and descriptors (20_memory.md R140, R142, R145, R148) -/

/-- RPL, bits 1:0. -/
def rpl (sel : Word) : BitVec 2 := sel.extractLsb' 0 2
/-- TI, bit 2. -/
def selTi (sel : Word) : Bool := sel.getLsbD 2
/-- Index, bits 15:3. -/
def selIndex (sel : Word) : Nat := (sel >>> 3).toNat
/-- A null selector: 0000H to 0003H. -/
def selNull (sel : Word) : Bool := decide (sel.toNat < 4)
/-- A selector as an error code: bits 1:0 cleared, then EXT in bit 0 (60_exceptions.md R845). -/
def selCode (sel : Word) (ext : Bool) : Word := (sel &&& 0xFFFC#16) ||| (BitVec.ofBool ext).setWidth 16
/-- A selector with its RPL replaced. -/
def withRpl (sel : Word) (l : BitVec 2) : Word := (sel &&& 0xFFFC#16) ||| l.setWidth 16

/-- The linear address of the descriptor that a selector names, if it lies in its table (R140, R148). -/
def State.descAddr (s : State) (sel : Word) : Option DWord :=
  if selTi sel then
    if s.ldtr.valid && decide (selIndex sel * 8 + 7 ≤ s.ldtr.limit.toNat) then
      some (s.ldtr.base + BitVec.ofNat 32 (selIndex sel * 8))
    else none
  else if selIndex sel * 8 + 7 ≤ s.gdtr.limit.toNat then some (s.gdtr.base + BitVec.ofNat 32 (selIndex sel * 8))
  else none

/-- The eight bytes of a descriptor. -/
def State.descAt (s : State) (a : DWord) : QWord := BitVec.ofNat 64 (s.readLin a 8)

/-- base[31:0] of a descriptor (R142). -/
def descBase (d : QWord) : DWord := d.extractLsb' 56 8 ++ d.extractLsb' 16 24
/-- The limit in bytes, granularity applied (R126). -/
def descLimit (d : QWord) : DWord :=
  let l : BitVec 20 := d.extractLsb' 48 4 ++ d.extractLsb' 0 16
  if d.getLsbD 55 then l ++ 0xFFF#12 else l.setWidth 32
/-- The type field. -/
def descType (d : QWord) : BitVec 4 := d.extractLsb' 40 4
/-- S. -/
def descS (d : QWord) : Bool := d.getLsbD 44
/-- DPL. -/
def descDpl (d : QWord) : BitVec 2 := d.extractLsb' 45 2
/-- P. -/
def descP (d : QWord) : Bool := d.getLsbD 47
/-- D/B. -/
def descDb (d : QWord) : Bool := d.getLsbD 54

/-- The segment register that holds a descriptor (R143). -/
def segOfDesc (sel : Word) (d : QWord) : Seg :=
  { sel := sel, valid := true, base := descBase d, limit := descLimit d, ty := descType d, s := descS d,
    dpl := descDpl d, p := descP d, db := descDb d }

/-- A segment that the parameter `EXPAND_DOWN` refuses (00_scope.md R12; R126; log 17). -/
def Seg.refused (g : Seg) : Bool := g.isExpandDown && !Config.expandDown

/-- The descriptor with its accessed bit set, as a load leaves it (R145, D64). -/
def accessed (d : QWord) : QWord := d ||| (1#64 <<< 40)

/-- The system register that holds a descriptor (10_state.md R81). -/
def sysOfDesc (sel : Word) (d : QWord) : SysSeg :=
  { sel := sel, valid := true, base := descBase d, limit := descLimit d, ty := descType d, dpl := descDpl d,
    p := descP d }

/-- selector of a gate (R146). -/
def gateSel (d : QWord) : Word := d.extractLsb' 16 16
/-- Parameter count of a call gate. -/
def gateCount (d : QWord) : Nat := (d.extractLsb' 32 5).toNat
/-- A 32-bit gate or TSS: type bit 3 (R144). -/
def gate32 (d : QWord) : Bool := d.getLsbD 43
/-- The size of the items that a gate pushes. -/
def gateBytes (d : QWord) : Nat := if gate32 d then 4 else 2
/-- offset of a gate, zero-extended from a 16-bit gate. -/
def gateOff (d : QWord) : DWord :=
  if gate32 d then d.extractLsb' 48 16 ++ d.extractLsb' 0 16 else (d.extractLsb' 0 16).setWidth 32

/-- The processor reads the descriptor that a selector names, where its table has one. -/
def State.noteDesc (s : State) (sel : Word) : State :=
  match s.descAddr sel with
  | none => s
  | some a => s.noteRead a 8

/-- Set bits of the type byte of the descriptor at `a`: a locked read-modify-write of the entire descriptor, eight bytes
read and eight written (R145; 49_system_1.md R760). That its read comes besides the one the checks made is the model's choice
(DESIGN CHOICE, log 56). -/
def State.markDesc (s : State) (a : DWord) (bits : Byte) : State :=
  (s.noteRead a 8).store a 8 (s.descAt a ||| bits.setWidth 64 <<< 40).toNat

/-- Set the accessed bit of the descriptor at `a` if it is clear (R145, D64). -/
def State.setAccessed (s : State) (a : DWord) : State :=
  if (s.descAt a).getLsbD 40 then s else s.markDesc a 1#8

/-- A segment load outside protected mode (R141). -/
def State.loadReal (s : State) (sr : SegReg) (sel : Word) : State :=
  let base : DWord := sel.setWidth 32 <<< 4
  let g := if s.isV86 then
      { sel := sel, valid := true, base := base, limit := 0xFFFF#32, ty := 3#4, s := true, dpl := 3#2, p := true,
        db := false }
    else { s.seg.get sr with sel := sel, valid := true, base := base }
  { s with seg := s.seg.set sr g }

/-- The checks of a load of SS in protected mode (R148). -/
def ssLoadFault (s : State) (sel : Word) : Option Stop :=
  if selNull sel then some (excGP 0#16)
  else match s.descAddr sel with
  | none => some (excGP (selCode sel false))
  | some a =>
    let g := segOfDesc sel (s.descAt a)
    if rpl sel != s.cpl || !g.isWritableData || g.dpl != s.cpl then some (excGP (selCode sel false))
    else if !g.p then some (excSS (selCode sel false))
    else if g.refused then some (.refuse .expandDown)
    else none

/-- The checks of a load of DS, ES, FS or GS with a selector that is not null in protected mode (R148, D65). -/
def dsLoadFault (s : State) (sel : Word) : Option Stop :=
  match s.descAddr sel with
  | none => some (excGP (selCode sel false))
  | some a =>
    let g := segOfDesc sel (s.descAt a)
    if !(g.isData || g.isReadableCode) ||
       (!g.isConforming && (decide (g.dpl.toNat < (rpl sel).toNat) || decide (g.dpl.toNat < s.cpl.toNat))) then
      some (excGP (selCode sel false))
    else if !g.p then some (excNP (selCode sel false))
    else if g.refused then some (.refuse .expandDown)
    else none

/-- Load a segment register from the descriptor that a checked selector names. -/
def State.loadFromTable (s : State) (sr : SegReg) (sel : Word) : State :=
  match s.descAddr sel with
  | none => s
  | some a => { (s.noteRead a 8).setAccessed a with seg := s.seg.set sr (segOfDesc sel (accessed (s.descAt a))) }

/-- A load of a null selector (R143). -/
def State.loadNull (s : State) (sr : SegReg) (sel : Word) : State :=
  { s with seg := s.seg.set sr { s.seg.get sr with sel := sel, valid := false } }

/-- `LoadSegmentRegister(sreg, sel)` for SS, DS, ES, FS and GS (R148). -/
def loadSeg (sr : SegReg) (sel : Word) : M Unit := do
  let s ← get
  if !s.isProt then set (s.loadReal sr sel)
  else if sr = .ss then
    check (ssLoadFault s sel)
    set (s.loadFromTable sr sel)
  else if selNull sel then set (s.loadNull sr sel)
  else
    check (dsLoadFault s sel)
    set (s.loadFromTable sr sel)

/-! ## Taking an exception or an interrupt (60_exceptions.md R840 to R848, R860, R861) -/

/-- What is delivered (R840). -/
inductive EventKind where
  | software | exception | external
deriving DecidableEq, Repr

/-- The flags a handler starts with (R846, R848): TF, NT, VM, RF clear, and IF clear through an interrupt gate. -/
def Flags.forHandler (f : Flags) (interruptGate : Bool) : Flags :=
  { f with tf := false, nt := false, vm := false, rf := false, ifl := f.ifl && !interruptGate }

/-- Is a gate an interrupt gate (R144, D67)? -/
def isInterruptGate (d : QWord) : Bool := if Config.gateTypesAsPrinted then d.getLsbD 40 else !d.getLsbD 40

/-- REAL-ADDRESS-MODE delivery (R841). -/
def deliverReal (v : Byte) (oldEip : DWord) : M Unit := do
  let s ← get
  stopIf (decide (s.idtr.limit.toNat < v.toNat * 4 + 3)) (excGP 0#16)
  stopIf (!s.stackRoom 2 3) (excSS 0#16)
  pushRaw 2 (s.flags.toWord.setWidth 16).toNat
  setFlags fun f => { f with ifl := false, tf := false, ac := false }
  pushRaw 2 s.seg.cs.sel.toNat
  pushRaw 2 (oldEip.setWidth 16).toNat
  let a := s.idtr.base + BitVec.ofNat 32 (v.toNat * 4)
  let sel ← sysRead (a + 2#32) 2
  let off ← sysRead a 2
  modify fun t => { t.loadReal .cs (BitVec.ofNat 16 sel) with eip := BitVec.ofNat 32 off }

/-- TASK-GATE delivery: the checks the page states, then the task switch that the model refuses (R843, D24). The codes carry
no EXT, as the page writes them (log 20); a selector that names no TSS at all is #GP(TSS selector) as a busy one is
(DESIGN CHOICE, log 58). -/
def deliverTaskGate (gate : QWord) : M Unit := do
  let s ← get
  let sel := gateSel gate
  if selTi sel then throw (excGP (selCode sel false))
  match s.descAddr sel with
  | none => throw (excGP (selCode sel false))
  | some a =>
    let d := s.descAt a
    stopIf (descS d || !(descType d == 1#4 || descType d == 9#4)) (excGP (selCode sel false))
    stopIf (!descP d) (excNP (selCode sel false))
    throw (.refuse .taskSwitch)

/-- The stack that the current TSS gives for privilege level `d`: SS and ESP (R846; 20_memory.md R147). #TS(current TSS
selector) carries no EXT, as the page writes it (DESIGN CHOICE, log 20). The stack pointer is read before the selector, for
both sizes of TSS, as the pseudocode writes them: R137 leaves the order open (DESIGN CHOICE, log 62). -/
def tssStack (d : Nat) : M (Word × DWord) := do
  let s ← get
  if s.tr.ty.getLsbD 3 then
    let o := d * 8 + 4
    stopIf (decide (s.tr.limit.toNat < o + 7)) (excTS (selCode s.tr.sel false))
    let a := s.tr.base + BitVec.ofNat 32 o
    let esp ← sysRead a 4
    let ss ← sysRead (a + 4#32) 2
    pure (BitVec.ofNat 16 ss, BitVec.ofNat 32 esp)
  else
    let o := d * 4 + 2
    stopIf (decide (s.tr.limit.toNat < o + 4)) (excTS (selCode s.tr.sel false))
    let a := s.tr.base + BitVec.ofNat 32 o
    let esp ← sysRead a 2
    let ss ← sysRead (a + 2#32) 2
    pure (BitVec.ofNat 16 ss, BitVec.ofNat 32 esp)

/-- The checks of a new stack segment for privilege level `d` (R846; 43_control_transfer_1.md R395): its descriptor and the
address of that. -/
def newStackSeg (sel : Word) (d : BitVec 2) (ext : Bool) : M (DWord × QWord) := do
  let s ← get
  stopIf (selNull sel) (excTS ((BitVec.ofBool ext).setWidth 16))
  match s.descAddr sel with
  | none => throw (excTS (selCode sel ext))
  | some a =>
    let g := segOfDesc sel (s.descAt a)
    stopIf (rpl sel != d) (excTS (selCode sel ext))
    stopIf (g.dpl != d || !g.isWritableData) (excTS (selCode sel ext))
    stopIf (!g.p) (excSS (selCode sel ext))
    stopIf g.refused (.refuse .expandDown)
    set (s.noteRead a 8)
    pure (a, s.descAt a)

/-- SS loaded from the checked descriptor `d`, whose accessed bit is set at its address `a`, and ESP. -/
def State.switchStack (s : State) (sel : Word) (a : DWord) (d : QWord) (esp : DWord) : State :=
  { s.setAccessed a with
    seg := { s.seg with ss := segOfDesc sel (accessed d) }, gpr := { s.gpr with esp := esp } }

/-- Switch to a new stack. -/
def switchStack (sel : Word) (a : DWord) (d : QWord) (esp : DWord) : M Unit :=
  modify fun s => s.switchStack sel a d esp

/-- CS loaded from the checked descriptor `d`, whose accessed bit is set at its address `a`, at privilege level `l`, and
EIP. -/
def State.enterCode (s : State) (sel : Word) (a : DWord) (d : QWord) (l : BitVec 2) (eip : DWord) : State :=
  { s.setAccessed a with
    seg := { s.seg with cs := segOfDesc (withRpl sel l) (accessed d) }, cpl := l, eip := eip }

/-- Go on in a code segment that passed its checks. -/
def enterCode (sel : Word) (a : DWord) (d : QWord) (l : BitVec 2) (eip : DWord) : M Unit :=
  modify fun s => s.enterCode sel a d l eip

/-- Push items without checks, the first at the highest address. -/
def pushAllRaw (n : Nat) : List Nat → M Unit
  | [] => pure ()
  | v :: vs => do
    pushRaw n v
    pushAllRaw n vs

/-- The error code as a list of items to push. -/
def errItems (err : Option Word) : List Nat :=
  match err with
  | none => []
  | some e => [e.toNat]

/-- The common start of the deliveries to a more privileged level (R846, R847): the stack of the current TSS with room for
`items` items, and the limit of the handler's segment; answers the new stack and its descriptor. -/
def innerChecks (gate cs : QWord) (ext : Bool) (items : Nat) : M (Word × DWord × DWord × QWord) := do
  let g := segOfDesc (gateSel gate) cs
  let (ss, esp) ← tssStack g.dpl.toNat
  let (b, d) ← newStackSeg ss g.dpl ext
  let h := segOfDesc ss d
  stopIf (!roomBelow h h.db (wrapOff h.db esp) (gateBytes gate) items) (excSS (selCode ss ext))
  stopIf (!g.inLimit (gateOff gate) true 1) (excGP 0#16)
  pure (ss, esp, b, d)

/-- What every delivery in protected mode pushes of the interrupted program: EFLAGS, CS and EIP. -/
def State.eventFrame (s : State) (oldEip : DWord) : List Nat :=
  [s.flags.toWord.toNat, s.seg.cs.sel.toNat, oldEip.toNat]

/-- INTER-PRIVILEGE-LEVEL-INTERRUPT (R846): SS:ESP and CS:EIP are loaded, then the old stack and program pushed. `a` is the
address of the handler's code descriptor `cs`. -/
def deliverInner (gate : QWord) (a : DWord) (cs : QWord) (ext : Bool) (err : Option Word) (oldEip : DWord) :
    M Unit := do
  let s ← get
  let (ss, esp, b, d) ← innerChecks gate cs ext (5 + (errItems err).length)
  switchStack ss b d esp
  enterCode (gateSel gate) a cs (descDpl cs) (gateOff gate)
  pushAllRaw (gateBytes gate)
    ([s.seg.ss.sel.toNat, s.gpr.esp.toNat] ++ s.eventFrame oldEip ++ errItems err)
  setFlags fun f => f.forHandler (isInterruptGate gate)

/-- INTERRUPT-FROM-VIRTUAL-8086-MODE (R847): the flags and SS:ESP, then the pushes, the data segment registers null, and
CS:EIP last. -/
def deliverFromV86 (gate : QWord) (a : DWord) (cs : QWord) (ext : Bool) (err : Option Word) (oldEip : DWord) :
    M Unit := do
  let s ← get
  let (ss, esp, b, d) ← innerChecks gate cs ext (9 + (errItems err).length)
  setFlags fun f => f.forHandler (isInterruptGate gate)
  switchStack ss b d esp
  pushAllRaw (gateBytes gate)
    ([s.seg.gs.sel.toNat, s.seg.fs.sel.toNat, s.seg.ds.sel.toNat, s.seg.es.sel.toNat, s.seg.ss.sel.toNat,
      s.gpr.esp.toNat] ++ s.eventFrame oldEip ++ errItems err)
  modify fun t => (((t.loadNull .gs 0#16).loadNull .fs 0#16).loadNull .ds 0#16).loadNull .es 0#16
  enterCode (gateSel gate) a cs (descDpl cs) (gateOff gate)

/-- INTRA-PRIVILEGE-LEVEL-INTERRUPT (R848): the program is pushed, CS:EIP loaded, then the error code pushed. -/
def deliverIntra (gate : QWord) (a : DWord) (cs : QWord) (err : Option Word) (oldEip : DWord) : M Unit := do
  let s ← get
  stopIf (!s.stackRoom (gateBytes gate) (3 + (errItems err).length)) (excSS 0#16)
  stopIf (!(segOfDesc (gateSel gate) cs).inLimit (gateOff gate) true 1) (excGP 0#16)
  pushAllRaw (gateBytes gate) (s.eventFrame oldEip)
  enterCode (gateSel gate) a cs s.cpl (gateOff gate)
  pushAllRaw (gateBytes gate) (errItems err)
  setFlags fun f => f.forHandler (isInterruptGate gate)

/-- TRAP-OR-INTERRUPT-GATE delivery: the checks of the target, and which of the procedures runs (R844). -/
def deliverGate (gate : QWord) (ext : Bool) (err : Option Word) (oldEip : DWord) : M Unit := do
  let s ← get
  let sel := gateSel gate
  stopIf (selNull sel) (excGP ((BitVec.ofBool ext).setWidth 16))
  match s.descAddr sel with
  | none => throw (excGP (selCode sel ext))
  | some a =>
    let d := s.descAt a
    let cs := segOfDesc sel d
    stopIf (!cs.isCode || decide (s.cpl.toNat < cs.dpl.toNat)) (excGP (selCode sel ext))
    stopIf (!cs.p) (excNP (selCode sel ext))
    set (s.noteRead a 8)
    if !cs.isConforming && decide (cs.dpl.toNat < s.cpl.toNat) then
      if s.flags.vm then
        stopIf (cs.dpl != 0#2) (excGP (selCode sel false))
        deliverFromV86 gate a d ext err oldEip
      else deliverInner gate a d ext err oldEip
    else
      stopIf s.flags.vm (excGP (selCode sel false))
      deliverIntra gate a d err oldEip

/-- The error code that names an IDT entry: vector * 8 + 2 + EXT (R842, R845). -/
def idtCode (v : Byte) (ext : Bool) : Word := BitVec.ofNat 16 (v.toNat * 8 + 2 + ext.toNat)

/-- PROTECTED-MODE delivery: the gate (R842). -/
def deliverProt (v : Byte) (k : EventKind) (err : Option Word) (oldEip : DWord) : M Unit := do
  let s ← get
  let ext := k != .software
  let a := s.idtr.base + BitVec.ofNat 32 (v.toNat * 8)
  let gate := s.descAt a
  let ty := descType gate
  stopIf (decide (s.idtr.limit.toNat < v.toNat * 8 + 7) || descS gate ||
      !(ty == 5#4 || ty == 6#4 || ty == 7#4 || ty == 0xE#4 || ty == 0xF#4)) (excGP (idtCode v ext))
  stopIf (k == .software && decide ((descDpl gate).toNat < s.cpl.toNat)) (excGP (idtCode v false))
  stopIf (!descP gate) (excNP (idtCode v ext))
  set (s.noteRead a 8)
  if ty = 5#4 then deliverTaskGate gate else deliverGate gate ext err oldEip

/-- `Deliver(vector, kind, errcode)` (R840). The IOPL check of INT n in virtual-8086 mode is that instruction's. -/
def deliverOnce (v : Byte) (k : EventKind) (err : Option Word) (oldEip : DWord) : M Unit := do
  let s ← get
  if s.pe then deliverProt v k err oldEip else deliverReal v oldEip

/-- The contributory exceptions: #DE, #TS, #NP, #SS, #GP (R860). -/
def contributory (v : Byte) : Bool := v == 0#8 || v == 10#8 || v == 11#8 || v == 12#8 || v == 13#8

/-- The state at an instruction boundary after a delivery. -/
def State.afterDelivery (s : State) : State :=
  { s with pfx := noPrefixes, repFlags := none, repCode := none, trapOwed := false, halted := false,
           shutdown := false }

/-- Shutdown (R861). -/
def State.shutDown (s : State) : State :=
  { s with pfx := noPrefixes, repFlags := none, repCode := none, shutdown := true }

/-- Deliver #DF; a fault meanwhile is shutdown (R860). The saved CS:EIP is the one that the first event would have saved: the
spec calls it not reliable and names no value (DESIGN CHOICE, log 61). -/
def deliverDouble (oldEip : DWord) (s : State) : Host.Outcome State Fault Refusal :=
  match deliverOnce 8#8 .exception (some 0#16) oldEip s with
  | .ok (_, t) => .next t.afterDelivery
  | .error (.refuse r) => .refused r
  | .error _ => .next s.shutDown

/-- Take an exception or an external interrupt, with the double-fault rules for a fault meanwhile (R860). -/
def deliver (v : Byte) (k : EventKind) (err : Option Word) (oldEip : DWord) (s : State) :
    Host.Outcome State Fault Refusal :=
  match deliverOnce v k err oldEip s with
  | .ok (_, t) => .next t.afterDelivery
  | .error (.exc v2 err2) =>
    if k = .exception ∧ v = 8#8 then .next s.shutDown
    else if k = .exception && contributory v && contributory v2 then deliverDouble oldEip s
    else
      match deliverOnce v2 .exception err2 oldEip s with
      | .ok (_, t) => .next t.afterDelivery
      | .error (.refuse r) => .refused r
      | .error _ => deliverDouble oldEip s
  | .error (.refuse r) => .refused r
  | .error _ => .next s.shutDown

/-! ## How an instruction ends (60_exceptions.md R836, R852, R853) -/

/-- The state at the boundary after an instruction that began in `s0` has completed with `t`: prefixes done, and the
single-step trap owed if TF was set when it began and no window follows it (R852, R853; log 18). -/
def State.completed (s0 t : State) : State :=
  { t with pfx := noPrefixes, repFlags := none, repCode := none, trapOwed := s0.flags.tf && t.inhibit == .none }

/-- The state a fault is taken in: the state before the instruction (R836), with the status flags from before a
repeated string instruction began (D45). -/
def State.faulted (s : State) : State :=
  match s.repFlags with
  | none => s
  | some f => { s with flags := s.flags.withStatusOf f }

/-- Store those of the `n` bytes of `v` from linear address `a` on whose bit of `choice` is set, each as a store of one byte
(U-SPLIT-STORE; log 34). -/
def State.storeSome (s : State) (a : DWord) : Nat → Nat → Nat → State
  | 0, _, _ => s
  | n + 1, v, choice =>
    State.storeSome (if choice % 2 = 1 then s.store a 1 v else s) (a + 1#32) n (v / 256) (choice / 2)

/-- The state a torn store leaves: each byte of its first part old or new, by a free choice (R836, U-SPLIT-STORE). -/
def State.tear (s : State) (a : DWord) (n v fresh : Nat) : State :=
  { s.storeSome a n v (Config.freeBits n fresh).toNat with fresh := fresh + 1 }

/-- The wait state before an instruction (46_fpu_numerics.md R549, D77): EIP stays, and the window of the instruction before
is over, so that the interrupt which ends the wait can be taken (DESIGN CHOICE, log 48). -/
def State.waiting (s : State) : State := { s with pfx := noPrefixes, inhibit := .none }

/-- What happens where a meaning stops: a fault is taken at the instruction's first byte (R836). -/
def stopped (s : State) : Stop → Host.Outcome State Fault Refusal
  | .exc v err => deliver v .exception err s.eip s.faulted
  | .torn v err a n x fresh => deliver v .exception err s.eip (s.faulted.tear a n x fresh)
  | .refuse r => .refused r
  | .wait => .next s.waiting
  | .shutdown => .next s.shutDown

/-- Run a meaning that sets EIP itself. The window of the instruction before is over when this one completes. -/
def runJump (body : M Unit) (s : State) : Host.Outcome State Fault Refusal :=
  match body { s with inhibit := .none } with
  | .ok (_, t) => .next (s.completed t)
  | .error e => stopped s e

/-- Go on with the next instruction. -/
def advance : M Unit := modify fun s => { s with eip := s.nextEip }

/-- Run a meaning and go on with the next instruction. -/
def runSeq (body : M Unit) (s : State) : Host.Outcome State Fault Refusal :=
  runJump (do body; advance) s

end Sys2Proof.Machine
end

