-- ==== Sys2Proof/WellFormed.lean ====
section
/-! DEFINITION. When an instruction term is the reading of some encoding (`Instr.wellFormed`), and in which
operand-size and address-size context it is the one read (`Instr.fits`): 30_encoding.md R174, R175, R181, R182, R190, R191. -/

namespace Sys2Proof

/-- Does the memory operand use 32-bit addressing (R191) rather than 16-bit addressing (R190)? -/
def Ea.as32 : Ea → Bool
  | .a16 _ _ => false
  | .abs16 _ => false
  | .a32 _ _ => true
  | .abs32 _ => true
  | .sib _ _ _ _ => true
  | .sibNoBase _ _ _ => true

/-- The addressing form exists: no form shares its ModR/M or SIB value with another (Tables 11-1 to 11-3). -/
def Ea.wf : Ea → Bool
  | .a16 rm .none => rm != 6#3
  | .a16 _ _ => true
  | .abs16 _ => true
  | .a32 base .none => base != 4#3 && base != 5#3
  | .a32 base _ => base != 4#3
  | .abs32 _ => true
  | .sib _ _ base .none => base != 5#3
  | .sib _ _ _ _ => true
  | .sibNoBase _ _ _ => true

/-- The memory operand of an r/m operand, if it is memory. -/
def RM.ea? : RM → Option Ea
  | .reg _ => none
  | .mem e => some e

/-- Is the r/m operand in memory (mod other than 11B)? -/
def RM.isMem : RM → Bool
  | .reg _ => false
  | .mem _ => true

/-- Is the offset field four bytes long (AS = 32, R216)? -/
def Moffs.as32 : Moffs → Bool
  | .o16 _ => false
  | .o32 _ => true

/-- The ModR/M memory operand of an instruction, if it has one. -/
def Instr.ea? : Instr → Option Ea
  | .cmovoR16Rm16 _ rm => rm.ea?
  | .cmovnoR16Rm16 _ rm => rm.ea?
  | .cmovbR16Rm16 _ rm => rm.ea?
  | .cmovaeR16Rm16 _ rm => rm.ea?
  | .cmoveR16Rm16 _ rm => rm.ea?
  | .cmovneR16Rm16 _ rm => rm.ea?
  | .cmovbeR16Rm16 _ rm => rm.ea?
  | .cmovaR16Rm16 _ rm => rm.ea?
  | .cmovsR16Rm16 _ rm => rm.ea?
  | .cmovnsR16Rm16 _ rm => rm.ea?
  | .cmovpR16Rm16 _ rm => rm.ea?
  | .cmovnpR16Rm16 _ rm => rm.ea?
  | .cmovlR16Rm16 _ rm => rm.ea?
  | .cmovgeR16Rm16 _ rm => rm.ea?
  | .cmovleR16Rm16 _ rm => rm.ea?
  | .cmovgR16Rm16 _ rm => rm.ea?
  | .cmovoR32Rm32 _ rm => rm.ea?
  | .cmovnoR32Rm32 _ rm => rm.ea?
  | .cmovbR32Rm32 _ rm => rm.ea?
  | .cmovaeR32Rm32 _ rm => rm.ea?
  | .cmoveR32Rm32 _ rm => rm.ea?
  | .cmovneR32Rm32 _ rm => rm.ea?
  | .cmovbeR32Rm32 _ rm => rm.ea?
  | .cmovaR32Rm32 _ rm => rm.ea?
  | .cmovsR32Rm32 _ rm => rm.ea?
  | .cmovnsR32Rm32 _ rm => rm.ea?
  | .cmovpR32Rm32 _ rm => rm.ea?
  | .cmovnpR32Rm32 _ rm => rm.ea?
  | .cmovlR32Rm32 _ rm => rm.ea?
  | .cmovgeR32Rm32 _ rm => rm.ea?
  | .cmovleR32Rm32 _ rm => rm.ea?
  | .cmovgR32Rm32 _ rm => rm.ea?
  | .cmpxchgRm8R8 rm _ => rm.ea?
  | .cmpxchgRm16R16 rm _ => rm.ea?
  | .cmpxchgRm32R32 rm _ => rm.ea?
  | .cmpxchg8bM64 ea => some ea
  | .movRm8R8 rm _ => rm.ea?
  | .movRm16R16 rm _ => rm.ea?
  | .movRm32R32 rm _ => rm.ea?
  | .movR8Rm8 _ rm => rm.ea?
  | .movR16Rm16 _ rm => rm.ea?
  | .movR32Rm32 _ rm => rm.ea?
  | .movRm16Sreg rm _ => rm.ea?
  | .movSregRm16 _ rm => rm.ea?
  | .movRm8Imm8 rm _ => rm.ea?
  | .movRm16Imm16 rm _ => rm.ea?
  | .movRm32Imm32 rm _ => rm.ea?
  | .movsxR16Rm8 _ rm => rm.ea?
  | .movsxR32Rm8 _ rm => rm.ea?
  | .movsxR32Rm16 _ rm => rm.ea?
  | .movzxR16Rm8 _ rm => rm.ea?
  | .movzxR32Rm8 _ rm => rm.ea?
  | .movzxR32Rm16 _ rm => rm.ea?
  | .popM16 rm => rm.ea?
  | .popM32 rm => rm.ea?
  | .pushRm16 rm => rm.ea?
  | .pushRm32 rm => rm.ea?
  | .xaddRm8R8 rm _ => rm.ea?
  | .xaddRm16R16 rm _ => rm.ea?
  | .xaddRm32R32 rm _ => rm.ea?
  | .xchgRm8R8 rm _ => rm.ea?
  | .xchgRm16R16 rm _ => rm.ea?
  | .xchgRm32R32 rm _ => rm.ea?
  | .adcRm8Imm8 rm _ => rm.ea?
  | .adcRm16Imm16 rm _ => rm.ea?
  | .adcRm32Imm32 rm _ => rm.ea?
  | .adcRm16Imm8 rm _ => rm.ea?
  | .adcRm32Imm8 rm _ => rm.ea?
  | .adcRm8R8 rm _ => rm.ea?
  | .adcRm16R16 rm _ => rm.ea?
  | .adcRm32R32 rm _ => rm.ea?
  | .adcR8Rm8 _ rm => rm.ea?
  | .adcR16Rm16 _ rm => rm.ea?
  | .adcR32Rm32 _ rm => rm.ea?
  | .addRm8Imm8 rm _ => rm.ea?
  | .addRm16Imm16 rm _ => rm.ea?
  | .addRm32Imm32 rm _ => rm.ea?
  | .addRm16Imm8 rm _ => rm.ea?
  | .addRm32Imm8 rm _ => rm.ea?
  | .addRm8R8 rm _ => rm.ea?
  | .addRm16R16 rm _ => rm.ea?
  | .addRm32R32 rm _ => rm.ea?
  | .addR8Rm8 _ rm => rm.ea?
  | .addR16Rm16 _ rm => rm.ea?
  | .addR32Rm32 _ rm => rm.ea?
  | .cmpRm8Imm8 rm _ => rm.ea?
  | .cmpRm16Imm16 rm _ => rm.ea?
  | .cmpRm32Imm32 rm _ => rm.ea?
  | .cmpRm16Imm8 rm _ => rm.ea?
  | .cmpRm32Imm8 rm _ => rm.ea?
  | .cmpRm8R8 rm _ => rm.ea?
  | .cmpRm16R16 rm _ => rm.ea?
  | .cmpRm32R32 rm _ => rm.ea?
  | .cmpR8Rm8 _ rm => rm.ea?
  | .cmpR16Rm16 _ rm => rm.ea?
  | .cmpR32Rm32 _ rm => rm.ea?
  | .decRm8 rm => rm.ea?
  | .decRm16 rm => rm.ea?
  | .decRm32 rm => rm.ea?
  | .divRm8 rm => rm.ea?
  | .divRm16 rm => rm.ea?
  | .divRm32 rm => rm.ea?
  | .idivRm8 rm => rm.ea?
  | .idivRm16 rm => rm.ea?
  | .idivRm32 rm => rm.ea?
  | .imulRm8 rm => rm.ea?
  | .imulRm16 rm => rm.ea?
  | .imulRm32 rm => rm.ea?
  | .imulR16Rm16 _ rm => rm.ea?
  | .imulR32Rm32 _ rm => rm.ea?
  | .imulR16Rm16Imm8 _ rm _ => rm.ea?
  | .imulR32Rm32Imm8 _ rm _ => rm.ea?
  | .imulR16Rm16Imm16 _ rm _ => rm.ea?
  | .imulR32Rm32Imm32 _ rm _ => rm.ea?
  | .incRm8 rm => rm.ea?
  | .incRm16 rm => rm.ea?
  | .incRm32 rm => rm.ea?
  | .mulRm8 rm => rm.ea?
  | .mulRm16 rm => rm.ea?
  | .mulRm32 rm => rm.ea?
  | .negRm8 rm => rm.ea?
  | .negRm16 rm => rm.ea?
  | .negRm32 rm => rm.ea?
  | .sbbRm8Imm8 rm _ => rm.ea?
  | .sbbRm16Imm16 rm _ => rm.ea?
  | .sbbRm32Imm32 rm _ => rm.ea?
  | .sbbRm16Imm8 rm _ => rm.ea?
  | .sbbRm32Imm8 rm _ => rm.ea?
  | .sbbRm8R8 rm _ => rm.ea?
  | .sbbRm16R16 rm _ => rm.ea?
  | .sbbRm32R32 rm _ => rm.ea?
  | .sbbR8Rm8 _ rm => rm.ea?
  | .sbbR16Rm16 _ rm => rm.ea?
  | .sbbR32Rm32 _ rm => rm.ea?
  | .subRm8Imm8 rm _ => rm.ea?
  | .subRm16Imm16 rm _ => rm.ea?
  | .subRm32Imm32 rm _ => rm.ea?
  | .subRm16Imm8 rm _ => rm.ea?
  | .subRm32Imm8 rm _ => rm.ea?
  | .subRm8R8 rm _ => rm.ea?
  | .subRm16R16 rm _ => rm.ea?
  | .subRm32R32 rm _ => rm.ea?
  | .subR8Rm8 _ rm => rm.ea?
  | .subR16Rm16 _ rm => rm.ea?
  | .subR32Rm32 _ rm => rm.ea?
  | .andRm8Imm8 rm _ => rm.ea?
  | .andRm16Imm16 rm _ => rm.ea?
  | .andRm32Imm32 rm _ => rm.ea?
  | .andRm16Imm8 rm _ => rm.ea?
  | .andRm32Imm8 rm _ => rm.ea?
  | .andRm8R8 rm _ => rm.ea?
  | .andRm16R16 rm _ => rm.ea?
  | .andRm32R32 rm _ => rm.ea?
  | .andR8Rm8 _ rm => rm.ea?
  | .andR16Rm16 _ rm => rm.ea?
  | .andR32Rm32 _ rm => rm.ea?
  | .bsfR16Rm16 _ rm => rm.ea?
  | .bsfR32Rm32 _ rm => rm.ea?
  | .bsrR16Rm16 _ rm => rm.ea?
  | .bsrR32Rm32 _ rm => rm.ea?
  | .btRm16R16 rm _ => rm.ea?
  | .btRm32R32 rm _ => rm.ea?
  | .btRm16Imm8 rm _ => rm.ea?
  | .btRm32Imm8 rm _ => rm.ea?
  | .btcRm16R16 rm _ => rm.ea?
  | .btcRm32R32 rm _ => rm.ea?
  | .btcRm16Imm8 rm _ => rm.ea?
  | .btcRm32Imm8 rm _ => rm.ea?
  | .btrRm16R16 rm _ => rm.ea?
  | .btrRm32R32 rm _ => rm.ea?
  | .btrRm16Imm8 rm _ => rm.ea?
  | .btrRm32Imm8 rm _ => rm.ea?
  | .btsRm16R16 rm _ => rm.ea?
  | .btsRm32R32 rm _ => rm.ea?
  | .btsRm16Imm8 rm _ => rm.ea?
  | .btsRm32Imm8 rm _ => rm.ea?
  | .notRm8 rm => rm.ea?
  | .notRm16 rm => rm.ea?
  | .notRm32 rm => rm.ea?
  | .orRm8Imm8 rm _ => rm.ea?
  | .orRm16Imm16 rm _ => rm.ea?
  | .orRm32Imm32 rm _ => rm.ea?
  | .orRm16Imm8 rm _ => rm.ea?
  | .orRm32Imm8 rm _ => rm.ea?
  | .orRm8R8 rm _ => rm.ea?
  | .orRm16R16 rm _ => rm.ea?
  | .orRm32R32 rm _ => rm.ea?
  | .orR8Rm8 _ rm => rm.ea?
  | .orR16Rm16 _ rm => rm.ea?
  | .orR32Rm32 _ rm => rm.ea?
  | .rolRm8One rm => rm.ea?
  | .rolRm8Cl rm => rm.ea?
  | .rolRm8Imm8 rm _ => rm.ea?
  | .rolRm16One rm => rm.ea?
  | .rolRm32One rm => rm.ea?
  | .rolRm16Cl rm => rm.ea?
  | .rolRm32Cl rm => rm.ea?
  | .rolRm16Imm8 rm _ => rm.ea?
  | .rolRm32Imm8 rm _ => rm.ea?
  | .rorRm8One rm => rm.ea?
  | .rorRm8Cl rm => rm.ea?
  | .rorRm8Imm8 rm _ => rm.ea?
  | .rorRm16One rm => rm.ea?
  | .rorRm32One rm => rm.ea?
  | .rorRm16Cl rm => rm.ea?
  | .rorRm32Cl rm => rm.ea?
  | .rorRm16Imm8 rm _ => rm.ea?
  | .rorRm32Imm8 rm _ => rm.ea?
  | .rclRm8One rm => rm.ea?
  | .rclRm8Cl rm => rm.ea?
  | .rclRm8Imm8 rm _ => rm.ea?
  | .rclRm16One rm => rm.ea?
  | .rclRm32One rm => rm.ea?
  | .rclRm16Cl rm => rm.ea?
  | .rclRm32Cl rm => rm.ea?
  | .rclRm16Imm8 rm _ => rm.ea?
  | .rclRm32Imm8 rm _ => rm.ea?
  | .rcrRm8One rm => rm.ea?
  | .rcrRm8Cl rm => rm.ea?
  | .rcrRm8Imm8 rm _ => rm.ea?
  | .rcrRm16One rm => rm.ea?
  | .rcrRm32One rm => rm.ea?
  | .rcrRm16Cl rm => rm.ea?
  | .rcrRm32Cl rm => rm.ea?
  | .rcrRm16Imm8 rm _ => rm.ea?
  | .rcrRm32Imm8 rm _ => rm.ea?
  | .salRm8One rm => rm.ea?
  | .salRm8Cl rm => rm.ea?
  | .salRm8Imm8 rm _ => rm.ea?
  | .salRm16One rm => rm.ea?
  | .salRm32One rm => rm.ea?
  | .salRm16Cl rm => rm.ea?
  | .salRm32Cl rm => rm.ea?
  | .salRm16Imm8 rm _ => rm.ea?
  | .salRm32Imm8 rm _ => rm.ea?
  | .shrRm8One rm => rm.ea?
  | .shrRm8Cl rm => rm.ea?
  | .shrRm8Imm8 rm _ => rm.ea?
  | .shrRm16One rm => rm.ea?
  | .shrRm32One rm => rm.ea?
  | .shrRm16Cl rm => rm.ea?
  | .shrRm32Cl rm => rm.ea?
  | .shrRm16Imm8 rm _ => rm.ea?
  | .shrRm32Imm8 rm _ => rm.ea?
  | .sarRm8One rm => rm.ea?
  | .sarRm8Cl rm => rm.ea?
  | .sarRm8Imm8 rm _ => rm.ea?
  | .sarRm16One rm => rm.ea?
  | .sarRm32One rm => rm.ea?
  | .sarRm16Cl rm => rm.ea?
  | .sarRm32Cl rm => rm.ea?
  | .sarRm16Imm8 rm _ => rm.ea?
  | .sarRm32Imm8 rm _ => rm.ea?
  | .setoRm8 rm => rm.ea?
  | .setnoRm8 rm => rm.ea?
  | .setbRm8 rm => rm.ea?
  | .setaeRm8 rm => rm.ea?
  | .seteRm8 rm => rm.ea?
  | .setneRm8 rm => rm.ea?
  | .setbeRm8 rm => rm.ea?
  | .setaRm8 rm => rm.ea?
  | .setsRm8 rm => rm.ea?
  | .setnsRm8 rm => rm.ea?
  | .setpRm8 rm => rm.ea?
  | .setnpRm8 rm => rm.ea?
  | .setlRm8 rm => rm.ea?
  | .setgeRm8 rm => rm.ea?
  | .setleRm8 rm => rm.ea?
  | .setgRm8 rm => rm.ea?
  | .shldRm16R16Imm8 rm _ _ => rm.ea?
  | .shldRm32R32Imm8 rm _ _ => rm.ea?
  | .shldRm16R16Cl rm _ => rm.ea?
  | .shldRm32R32Cl rm _ => rm.ea?
  | .shrdRm16R16Imm8 rm _ _ => rm.ea?
  | .shrdRm32R32Imm8 rm _ _ => rm.ea?
  | .shrdRm16R16Cl rm _ => rm.ea?
  | .shrdRm32R32Cl rm _ => rm.ea?
  | .testRm8Imm8 rm _ => rm.ea?
  | .testRm16Imm16 rm _ => rm.ea?
  | .testRm32Imm32 rm _ => rm.ea?
  | .testRm8R8 rm _ => rm.ea?
  | .testRm16R16 rm _ => rm.ea?
  | .testRm32R32 rm _ => rm.ea?
  | .xorRm8Imm8 rm _ => rm.ea?
  | .xorRm16Imm16 rm _ => rm.ea?
  | .xorRm32Imm32 rm _ => rm.ea?
  | .xorRm16Imm8 rm _ => rm.ea?
  | .xorRm32Imm8 rm _ => rm.ea?
  | .xorRm8R8 rm _ => rm.ea?
  | .xorRm16R16 rm _ => rm.ea?
  | .xorRm32R32 rm _ => rm.ea?
  | .xorR8Rm8 _ rm => rm.ea?
  | .xorR16Rm16 _ rm => rm.ea?
  | .xorR32Rm32 _ rm => rm.ea?
  | .callRm16 rm => rm.ea?
  | .callRm32 rm => rm.ea?
  | .callM16x16 ea => some ea
  | .callM16x32 ea => some ea
  | .jmpRm16 rm => rm.ea?
  | .jmpRm32 rm => rm.ea?
  | .jmpM16x16 ea => some ea
  | .jmpM16x32 ea => some ea
  | .boundR16M16a16 _ ea => some ea
  | .boundR32M32a32 _ ea => some ea
  | .ldsR16M16x16 _ ea => some ea
  | .ldsR32M16x32 _ ea => some ea
  | .lssR16M16x16 _ ea => some ea
  | .lssR32M16x32 _ ea => some ea
  | .lesR16M16x16 _ ea => some ea
  | .lesR32M16x32 _ ea => some ea
  | .lfsR16M16x16 _ ea => some ea
  | .lfsR32M16x32 _ ea => some ea
  | .lgsR16M16x16 _ ea => some ea
  | .lgsR32M16x32 _ ea => some ea
  | .leaR16M _ ea => some ea
  | .leaR32M _ ea => some ea
  | .fbldM80dec ea => some ea
  | .fbstpM80bcd ea => some ea
  | .fcomM32real ea => some ea
  | .fcomM64real ea => some ea
  | .fcompM32real ea => some ea
  | .fcompM64real ea => some ea
  | .ficomM16int ea => some ea
  | .ficomM32int ea => some ea
  | .ficompM16int ea => some ea
  | .ficompM32int ea => some ea
  | .fildM16int ea => some ea
  | .fildM32int ea => some ea
  | .fildM64int ea => some ea
  | .fistM16int ea => some ea
  | .fistM32int ea => some ea
  | .fistpM16int ea => some ea
  | .fistpM32int ea => some ea
  | .fistpM64int ea => some ea
  | .fldM32real ea => some ea
  | .fldM64real ea => some ea
  | .fldM80real ea => some ea
  | .fstM32real ea => some ea
  | .fstM64real ea => some ea
  | .fstpM32real ea => some ea
  | .fstpM64real ea => some ea
  | .fstpM80real ea => some ea
  | .faddM32real ea => some ea
  | .faddM64real ea => some ea
  | .fiaddM32int ea => some ea
  | .fiaddM16int ea => some ea
  | .fdivM32real ea => some ea
  | .fdivM64real ea => some ea
  | .fidivM32int ea => some ea
  | .fidivM16int ea => some ea
  | .fdivrM32real ea => some ea
  | .fdivrM64real ea => some ea
  | .fidivrM32int ea => some ea
  | .fidivrM16int ea => some ea
  | .fmulM32real ea => some ea
  | .fmulM64real ea => some ea
  | .fimulM32int ea => some ea
  | .fimulM16int ea => some ea
  | .fsubM32real ea => some ea
  | .fsubM64real ea => some ea
  | .fisubM32int ea => some ea
  | .fisubM16int ea => some ea
  | .fsubrM32real ea => some ea
  | .fsubrM64real ea => some ea
  | .fisubrM32int ea => some ea
  | .fisubrM16int ea => some ea
  | .fldcwM2byte ea => some ea
  | .fldenvMEnv ea => some ea
  | .frstorMState ea => some ea
  | .fnsaveMState ea => some ea
  | .fsaveMState ea => some ea
  | .fnstcwM2byte ea => some ea
  | .fstcwM2byte ea => some ea
  | .fnstenvMEnv ea => some ea
  | .fstenvMEnv ea => some ea
  | .fnstswM2byte ea => some ea
  | .fstswM2byte ea => some ea
  | .arplRm16R16 rm _ => rm.ea?
  | .invlpgM ea => some ea
  | .larR16Rm16 _ rm => rm.ea?
  | .larR32Rm32 _ rm => rm.ea?
  | .lgdtM16a32 ea => some ea
  | .lidtM16a32 ea => some ea
  | .lldtRm16 rm => rm.ea?
  | .lmswRm16 rm => rm.ea?
  | .lslR16Rm16 _ rm => rm.ea?
  | .lslR32Rm32 _ rm => rm.ea?
  | .ltrRm16 rm => rm.ea?
  | .sgdtM ea => some ea
  | .sidtM ea => some ea
  | .sldtRm16 rm => rm.ea?
  | .sldtRm32 rm => rm.ea?
  | .smswRm16 rm => rm.ea?
  | .smswR32M16 rm => rm.ea?
  | .strRm16 rm => rm.ea?
  | .verrRm16 rm => rm.ea?
  | .verwRm16 rm => rm.ea?
  | _ => none

/-- The operand size that a row of the opcode table asks for: `some true` for OS = 32, `some false` for OS = 16
(30_encoding.md R224). MOVSX and MOVZX from r/m16 run at either size (40_data_movement.md R257, R258). -/
def Instr.os32? : Instr → Option Bool
  | .cbw => some false
  | .cwde => some true
  | .cmovoR16Rm16 _ _ => some false
  | .cmovnoR16Rm16 _ _ => some false
  | .cmovbR16Rm16 _ _ => some false
  | .cmovaeR16Rm16 _ _ => some false
  | .cmoveR16Rm16 _ _ => some false
  | .cmovneR16Rm16 _ _ => some false
  | .cmovbeR16Rm16 _ _ => some false
  | .cmovaR16Rm16 _ _ => some false
  | .cmovsR16Rm16 _ _ => some false
  | .cmovnsR16Rm16 _ _ => some false
  | .cmovpR16Rm16 _ _ => some false
  | .cmovnpR16Rm16 _ _ => some false
  | .cmovlR16Rm16 _ _ => some false
  | .cmovgeR16Rm16 _ _ => some false
  | .cmovleR16Rm16 _ _ => some false
  | .cmovgR16Rm16 _ _ => some false
  | .cmovoR32Rm32 _ _ => some true
  | .cmovnoR32Rm32 _ _ => some true
  | .cmovbR32Rm32 _ _ => some true
  | .cmovaeR32Rm32 _ _ => some true
  | .cmoveR32Rm32 _ _ => some true
  | .cmovneR32Rm32 _ _ => some true
  | .cmovbeR32Rm32 _ _ => some true
  | .cmovaR32Rm32 _ _ => some true
  | .cmovsR32Rm32 _ _ => some true
  | .cmovnsR32Rm32 _ _ => some true
  | .cmovpR32Rm32 _ _ => some true
  | .cmovnpR32Rm32 _ _ => some true
  | .cmovlR32Rm32 _ _ => some true
  | .cmovgeR32Rm32 _ _ => some true
  | .cmovleR32Rm32 _ _ => some true
  | .cmovgR32Rm32 _ _ => some true
  | .cmpxchgRm16R16 _ _ => some false
  | .cmpxchgRm32R32 _ _ => some true
  | .cwd => some false
  | .cdq => some true
  | .movRm16R16 _ _ => some false
  | .movRm32R32 _ _ => some true
  | .movR16Rm16 _ _ => some false
  | .movR32Rm32 _ _ => some true
  | .movAxMoffs16 _ => some false
  | .movEaxMoffs32 _ => some true
  | .movMoffs16Ax _ => some false
  | .movMoffs32Eax _ => some true
  | .movR16Imm16 _ _ => some false
  | .movR32Imm32 _ _ => some true
  | .movRm16Imm16 _ _ => some false
  | .movRm32Imm32 _ _ => some true
  | .movsxR16Rm8 _ _ => some false
  | .movsxR32Rm8 _ _ => some true
  | .movzxR16Rm8 _ _ => some false
  | .movzxR32Rm8 _ _ => some true
  | .popM16 _ => some false
  | .popM32 _ => some true
  | .popR16 _ => some false
  | .popR32 _ => some true
  | .popa => some false
  | .popad => some true
  | .pushRm16 _ => some false
  | .pushRm32 _ => some true
  | .pushR16 _ => some false
  | .pushR32 _ => some true
  | .pushImm16 _ => some false
  | .pushImm32 _ => some true
  | .pusha => some false
  | .pushad => some true
  | .xaddRm16R16 _ _ => some false
  | .xaddRm32R32 _ _ => some true
  | .xchgAxR16 _ => some false
  | .xchgEaxR32 _ => some true
  | .xchgRm16R16 _ _ => some false
  | .xchgRm32R32 _ _ => some true
  | .adcAxImm16 _ => some false
  | .adcEaxImm32 _ => some true
  | .adcRm16Imm16 _ _ => some false
  | .adcRm32Imm32 _ _ => some true
  | .adcRm16Imm8 _ _ => some false
  | .adcRm32Imm8 _ _ => some true
  | .adcRm16R16 _ _ => some false
  | .adcRm32R32 _ _ => some true
  | .adcR16Rm16 _ _ => some false
  | .adcR32Rm32 _ _ => some true
  | .addAxImm16 _ => some false
  | .addEaxImm32 _ => some true
  | .addRm16Imm16 _ _ => some false
  | .addRm32Imm32 _ _ => some true
  | .addRm16Imm8 _ _ => some false
  | .addRm32Imm8 _ _ => some true
  | .addRm16R16 _ _ => some false
  | .addRm32R32 _ _ => some true
  | .addR16Rm16 _ _ => some false
  | .addR32Rm32 _ _ => some true
  | .cmpAxImm16 _ => some false
  | .cmpEaxImm32 _ => some true
  | .cmpRm16Imm16 _ _ => some false
  | .cmpRm32Imm32 _ _ => some true
  | .cmpRm16Imm8 _ _ => some false
  | .cmpRm32Imm8 _ _ => some true
  | .cmpRm16R16 _ _ => some false
  | .cmpRm32R32 _ _ => some true
  | .cmpR16Rm16 _ _ => some false
  | .cmpR32Rm32 _ _ => some true
  | .decRm16 _ => some false
  | .decRm32 _ => some true
  | .decR16 _ => some false
  | .decR32 _ => some true
  | .divRm16 _ => some false
  | .divRm32 _ => some true
  | .idivRm16 _ => some false
  | .idivRm32 _ => some true
  | .imulRm16 _ => some false
  | .imulRm32 _ => some true
  | .imulR16Rm16 _ _ => some false
  | .imulR32Rm32 _ _ => some true
  | .imulR16Rm16Imm8 _ _ _ => some false
  | .imulR32Rm32Imm8 _ _ _ => some true
  | .imulR16Rm16Imm16 _ _ _ => some false
  | .imulR32Rm32Imm32 _ _ _ => some true
  | .incRm16 _ => some false
  | .incRm32 _ => some true
  | .incR16 _ => some false
  | .incR32 _ => some true
  | .mulRm16 _ => some false
  | .mulRm32 _ => some true
  | .negRm16 _ => some false
  | .negRm32 _ => some true
  | .sbbAxImm16 _ => some false
  | .sbbEaxImm32 _ => some true
  | .sbbRm16Imm16 _ _ => some false
  | .sbbRm32Imm32 _ _ => some true
  | .sbbRm16Imm8 _ _ => some false
  | .sbbRm32Imm8 _ _ => some true
  | .sbbRm16R16 _ _ => some false
  | .sbbRm32R32 _ _ => some true
  | .sbbR16Rm16 _ _ => some false
  | .sbbR32Rm32 _ _ => some true
  | .subAxImm16 _ => some false
  | .subEaxImm32 _ => some true
  | .subRm16Imm16 _ _ => some false
  | .subRm32Imm32 _ _ => some true
  | .subRm16Imm8 _ _ => some false
  | .subRm32Imm8 _ _ => some true
  | .subRm16R16 _ _ => some false
  | .subRm32R32 _ _ => some true
  | .subR16Rm16 _ _ => some false
  | .subR32Rm32 _ _ => some true
  | .andAxImm16 _ => some false
  | .andEaxImm32 _ => some true
  | .andRm16Imm16 _ _ => some false
  | .andRm32Imm32 _ _ => some true
  | .andRm16Imm8 _ _ => some false
  | .andRm32Imm8 _ _ => some true
  | .andRm16R16 _ _ => some false
  | .andRm32R32 _ _ => some true
  | .andR16Rm16 _ _ => some false
  | .andR32Rm32 _ _ => some true
  | .bsfR16Rm16 _ _ => some false
  | .bsfR32Rm32 _ _ => some true
  | .bsrR16Rm16 _ _ => some false
  | .bsrR32Rm32 _ _ => some true
  | .btRm16R16 _ _ => some false
  | .btRm32R32 _ _ => some true
  | .btRm16Imm8 _ _ => some false
  | .btRm32Imm8 _ _ => some true
  | .btcRm16R16 _ _ => some false
  | .btcRm32R32 _ _ => some true
  | .btcRm16Imm8 _ _ => some false
  | .btcRm32Imm8 _ _ => some true
  | .btrRm16R16 _ _ => some false
  | .btrRm32R32 _ _ => some true
  | .btrRm16Imm8 _ _ => some false
  | .btrRm32Imm8 _ _ => some true
  | .btsRm16R16 _ _ => some false
  | .btsRm32R32 _ _ => some true
  | .btsRm16Imm8 _ _ => some false
  | .btsRm32Imm8 _ _ => some true
  | .notRm16 _ => some false
  | .notRm32 _ => some true
  | .orAxImm16 _ => some false
  | .orEaxImm32 _ => some true
  | .orRm16Imm16 _ _ => some false
  | .orRm32Imm32 _ _ => some true
  | .orRm16Imm8 _ _ => some false
  | .orRm32Imm8 _ _ => some true
  | .orRm16R16 _ _ => some false
  | .orRm32R32 _ _ => some true
  | .orR16Rm16 _ _ => some false
  | .orR32Rm32 _ _ => some true
  | .rolRm16One _ => some false
  | .rolRm32One _ => some true
  | .rolRm16Cl _ => some false
  | .rolRm32Cl _ => some true
  | .rolRm16Imm8 _ _ => some false
  | .rolRm32Imm8 _ _ => some true
  | .rorRm16One _ => some false
  | .rorRm32One _ => some true
  | .rorRm16Cl _ => some false
  | .rorRm32Cl _ => some true
  | .rorRm16Imm8 _ _ => some false
  | .rorRm32Imm8 _ _ => some true
  | .rclRm16One _ => some false
  | .rclRm32One _ => some true
  | .rclRm16Cl _ => some false
  | .rclRm32Cl _ => some true
  | .rclRm16Imm8 _ _ => some false
  | .rclRm32Imm8 _ _ => some true
  | .rcrRm16One _ => some false
  | .rcrRm32One _ => some true
  | .rcrRm16Cl _ => some false
  | .rcrRm32Cl _ => some true
  | .rcrRm16Imm8 _ _ => some false
  | .rcrRm32Imm8 _ _ => some true
  | .salRm16One _ => some false
  | .salRm32One _ => some true
  | .salRm16Cl _ => some false
  | .salRm32Cl _ => some true
  | .salRm16Imm8 _ _ => some false
  | .salRm32Imm8 _ _ => some true
  | .shrRm16One _ => some false
  | .shrRm32One _ => some true
  | .shrRm16Cl _ => some false
  | .shrRm32Cl _ => some true
  | .shrRm16Imm8 _ _ => some false
  | .shrRm32Imm8 _ _ => some true
  | .sarRm16One _ => some false
  | .sarRm32One _ => some true
  | .sarRm16Cl _ => some false
  | .sarRm32Cl _ => some true
  | .sarRm16Imm8 _ _ => some false
  | .sarRm32Imm8 _ _ => some true
  | .shldRm16R16Imm8 _ _ _ => some false
  | .shldRm32R32Imm8 _ _ _ => some true
  | .shldRm16R16Cl _ _ => some false
  | .shldRm32R32Cl _ _ => some true
  | .shrdRm16R16Imm8 _ _ _ => some false
  | .shrdRm32R32Imm8 _ _ _ => some true
  | .shrdRm16R16Cl _ _ => some false
  | .shrdRm32R32Cl _ _ => some true
  | .testAxImm16 _ => some false
  | .testEaxImm32 _ => some true
  | .testRm16Imm16 _ _ => some false
  | .testRm32Imm32 _ _ => some true
  | .testRm16R16 _ _ => some false
  | .testRm32R32 _ _ => some true
  | .xorAxImm16 _ => some false
  | .xorEaxImm32 _ => some true
  | .xorRm16Imm16 _ _ => some false
  | .xorRm32Imm32 _ _ => some true
  | .xorRm16Imm8 _ _ => some false
  | .xorRm32Imm8 _ _ => some true
  | .xorRm16R16 _ _ => some false
  | .xorRm32R32 _ _ => some true
  | .xorR16Rm16 _ _ => some false
  | .xorR32Rm32 _ _ => some true
  | .callRel16 _ => some false
  | .callRel32 _ => some true
  | .callRm16 _ => some false
  | .callRm32 _ => some true
  | .callPtr16x16 _ _ => some false
  | .callPtr16x32 _ _ => some true
  | .callM16x16 _ => some false
  | .callM16x32 _ => some true
  | .iret => some false
  | .iretd => some true
  | .joRel16 _ => some false
  | .jnoRel16 _ => some false
  | .jbRel16 _ => some false
  | .jaeRel16 _ => some false
  | .jeRel16 _ => some false
  | .jneRel16 _ => some false
  | .jbeRel16 _ => some false
  | .jaRel16 _ => some false
  | .jsRel16 _ => some false
  | .jnsRel16 _ => some false
  | .jpRel16 _ => some false
  | .jnpRel16 _ => some false
  | .jlRel16 _ => some false
  | .jgeRel16 _ => some false
  | .jleRel16 _ => some false
  | .jgRel16 _ => some false
  | .joRel32 _ => some true
  | .jnoRel32 _ => some true
  | .jbRel32 _ => some true
  | .jaeRel32 _ => some true
  | .jeRel32 _ => some true
  | .jneRel32 _ => some true
  | .jbeRel32 _ => some true
  | .jaRel32 _ => some true
  | .jsRel32 _ => some true
  | .jnsRel32 _ => some true
  | .jpRel32 _ => some true
  | .jnpRel32 _ => some true
  | .jlRel32 _ => some true
  | .jgeRel32 _ => some true
  | .jleRel32 _ => some true
  | .jgRel32 _ => some true
  | .jmpRel16 _ => some false
  | .jmpRel32 _ => some true
  | .jmpRm16 _ => some false
  | .jmpRm32 _ => some true
  | .jmpPtr16x16 _ _ => some false
  | .jmpPtr16x32 _ _ => some true
  | .jmpM16x16 _ => some false
  | .jmpM16x32 _ => some true
  | .boundR16M16a16 _ _ => some false
  | .boundR32M32a32 _ _ => some true
  | .cmpsw => some false
  | .cmpsd => some true
  | .inAxImm8 _ => some false
  | .inEaxImm8 _ => some true
  | .inAxDx => some false
  | .inEaxDx => some true
  | .insw => some false
  | .insd => some true
  | .lodsw => some false
  | .lodsd => some true
  | .movsw => some false
  | .movsd => some true
  | .outImm8Ax _ => some false
  | .outImm8Eax _ => some true
  | .outDxAx => some false
  | .outDxEax => some true
  | .outsw => some false
  | .outsd => some true
  | .scasw => some false
  | .scasd => some true
  | .stosw => some false
  | .stosd => some true
  | .ldsR16M16x16 _ _ => some false
  | .ldsR32M16x32 _ _ => some true
  | .lssR16M16x16 _ _ => some false
  | .lssR32M16x32 _ _ => some true
  | .lesR16M16x16 _ _ => some false
  | .lesR32M16x32 _ _ => some true
  | .lfsR16M16x16 _ _ => some false
  | .lfsR32M16x32 _ _ => some true
  | .lgsR16M16x16 _ _ => some false
  | .lgsR32M16x32 _ _ => some true
  | .leaR16M _ _ => some false
  | .leaR32M _ _ => some true
  | .popf => some false
  | .popfd => some true
  | .pushf => some false
  | .pushfd => some true
  | .larR16Rm16 _ _ => some false
  | .larR32Rm32 _ _ => some true
  | .lslR16Rm16 _ _ => some false
  | .lslR32Rm32 _ _ => some true
  | .sldtRm16 _ => some false
  | .sldtRm32 _ => some true
  | .smswRm16 _ => some false
  | .smswR32M16 _ => some true
  | _ => none

/-- The address size that an instruction shows by itself: JCXZ and JECXZ (R404) and the moffs forms (R216). -/
def Instr.as32? : Instr → Option Bool
  | .jcxzRel8 _ => some false
  | .jecxzRel8 _ => some true
  | .movAlMoffs8 mo => some mo.as32
  | .movAxMoffs16 mo => some mo.as32
  | .movEaxMoffs32 mo => some mo.as32
  | .movMoffs8Al mo => some mo.as32
  | .movMoffs16Ax mo => some mo.as32
  | .movMoffs32Eax mo => some mo.as32
  | _ => none

/-- The 9B-prefixed forms of the opcode table, which are WAIT and a non-waiting instruction (R223). -/
def Instr.composite : Instr → Bool
  | .fclex => true
  | .finit => true
  | .fsaveMState _ => true
  | .fstcwM2byte _ => true
  | .fstenvMEnv _ => true
  | .fstswM2byte _ => true
  | .fstswAx => true
  | _ => false

/-- The forms that take a LOCK prefix: the listed instructions with a destination in memory (30_encoding.md R200). -/
def Instr.lockable : Instr → Bool
  | .cmpxchgRm8R8 rm _ => rm.isMem
  | .cmpxchgRm16R16 rm _ => rm.isMem
  | .cmpxchgRm32R32 rm _ => rm.isMem
  | .cmpxchg8bM64 _ => true
  | .xaddRm8R8 rm _ => rm.isMem
  | .xaddRm16R16 rm _ => rm.isMem
  | .xaddRm32R32 rm _ => rm.isMem
  | .xchgRm8R8 rm _ => rm.isMem
  | .xchgRm16R16 rm _ => rm.isMem
  | .xchgRm32R32 rm _ => rm.isMem
  | .adcRm8Imm8 rm _ => rm.isMem
  | .adcRm16Imm16 rm _ => rm.isMem
  | .adcRm32Imm32 rm _ => rm.isMem
  | .adcRm16Imm8 rm _ => rm.isMem
  | .adcRm32Imm8 rm _ => rm.isMem
  | .adcRm8R8 rm _ => rm.isMem
  | .adcRm16R16 rm _ => rm.isMem
  | .adcRm32R32 rm _ => rm.isMem
  | .addRm8Imm8 rm _ => rm.isMem
  | .addRm16Imm16 rm _ => rm.isMem
  | .addRm32Imm32 rm _ => rm.isMem
  | .addRm16Imm8 rm _ => rm.isMem
  | .addRm32Imm8 rm _ => rm.isMem
  | .addRm8R8 rm _ => rm.isMem
  | .addRm16R16 rm _ => rm.isMem
  | .addRm32R32 rm _ => rm.isMem
  | .decRm8 rm => rm.isMem
  | .decRm16 rm => rm.isMem
  | .decRm32 rm => rm.isMem
  | .incRm8 rm => rm.isMem
  | .incRm16 rm => rm.isMem
  | .incRm32 rm => rm.isMem
  | .negRm8 rm => rm.isMem
  | .negRm16 rm => rm.isMem
  | .negRm32 rm => rm.isMem
  | .sbbRm8Imm8 rm _ => rm.isMem
  | .sbbRm16Imm16 rm _ => rm.isMem
  | .sbbRm32Imm32 rm _ => rm.isMem
  | .sbbRm16Imm8 rm _ => rm.isMem
  | .sbbRm32Imm8 rm _ => rm.isMem
  | .sbbRm8R8 rm _ => rm.isMem
  | .sbbRm16R16 rm _ => rm.isMem
  | .sbbRm32R32 rm _ => rm.isMem
  | .subRm8Imm8 rm _ => rm.isMem
  | .subRm16Imm16 rm _ => rm.isMem
  | .subRm32Imm32 rm _ => rm.isMem
  | .subRm16Imm8 rm _ => rm.isMem
  | .subRm32Imm8 rm _ => rm.isMem
  | .subRm8R8 rm _ => rm.isMem
  | .subRm16R16 rm _ => rm.isMem
  | .subRm32R32 rm _ => rm.isMem
  | .andRm8Imm8 rm _ => rm.isMem
  | .andRm16Imm16 rm _ => rm.isMem
  | .andRm32Imm32 rm _ => rm.isMem
  | .andRm16Imm8 rm _ => rm.isMem
  | .andRm32Imm8 rm _ => rm.isMem
  | .andRm8R8 rm _ => rm.isMem
  | .andRm16R16 rm _ => rm.isMem
  | .andRm32R32 rm _ => rm.isMem
  | .btcRm16R16 rm _ => rm.isMem
  | .btcRm32R32 rm _ => rm.isMem
  | .btcRm16Imm8 rm _ => rm.isMem
  | .btcRm32Imm8 rm _ => rm.isMem
  | .btrRm16R16 rm _ => rm.isMem
  | .btrRm32R32 rm _ => rm.isMem
  | .btrRm16Imm8 rm _ => rm.isMem
  | .btrRm32Imm8 rm _ => rm.isMem
  | .btsRm16R16 rm _ => rm.isMem
  | .btsRm32R32 rm _ => rm.isMem
  | .btsRm16Imm8 rm _ => rm.isMem
  | .btsRm32Imm8 rm _ => rm.isMem
  | .notRm8 rm => rm.isMem
  | .notRm16 rm => rm.isMem
  | .notRm32 rm => rm.isMem
  | .orRm8Imm8 rm _ => rm.isMem
  | .orRm16Imm16 rm _ => rm.isMem
  | .orRm32Imm32 rm _ => rm.isMem
  | .orRm16Imm8 rm _ => rm.isMem
  | .orRm32Imm8 rm _ => rm.isMem
  | .orRm8R8 rm _ => rm.isMem
  | .orRm16R16 rm _ => rm.isMem
  | .orRm32R32 rm _ => rm.isMem
  | .xorRm8Imm8 rm _ => rm.isMem
  | .xorRm16Imm16 rm _ => rm.isMem
  | .xorRm32Imm32 rm _ => rm.isMem
  | .xorRm16Imm8 rm _ => rm.isMem
  | .xorRm32Imm8 rm _ => rm.isMem
  | .xorRm8R8 rm _ => rm.isMem
  | .xorRm16R16 rm _ => rm.isMem
  | .xorRm32R32 rm _ => rm.isMem
  | _ => false

/-- The instruction is the reading of an encoding: its memory operand is a form of Tables 11-1 to 11-3, and it is no
XCHG of the accumulator with itself by the one-byte form, whose byte 90H is NOP (R220). -/
def Instr.wellFormed (i : Instr) : Bool :=
  (match i.ea? with
   | some e => e.wf
   | none => true) &&
  (match i with
   | .xchgAxR16 r => r != 0#3
   | .xchgEaxR32 r => r != 0#3
   | _ => true)

/-- What decides the reading of the opcode bytes besides the bytes: the operand-size and address-size attributes
(10_state.md R41), and whether no prefix has been read. -/
structure Ctx where
  os32 : Bool
  as32 : Bool
  plain : Bool
deriving DecidableEq, Repr

/-- An attribute that the instruction asks for agrees with the context. -/
def agrees (want : Option Bool) (have_ : Bool) : Bool :=
  match want with
  | some b => b == have_
  | none => true

/-- The instruction is the one read in this context: its sizes are the context's, and a composite form follows no
prefix. -/
def Instr.fits (i : Instr) (c : Ctx) : Bool :=
  agrees i.os32? c.os32 && agrees i.as32? c.as32 && agrees (i.ea?.map Ea.as32) c.as32 && (!i.composite || c.plain)

end Sys2Proof
end

