-- ==== Sys2Proof/Machine/Operands.lean ====
section
/-! DEFINITION. Operand forms: effective addresses (30_encoding.md R190 to R193), r/m operands, moffs, the implicit
string and table addresses, and the size attributes (10_state.md R41). -/

namespace Sys2Proof.Machine

/-- What a meaning answers. -/
abbrev Out := Host.Outcome State Fault Refusal

/-- The default size of the code segment: CS.D in protected mode, 16 bits in the other modes (10_state.md R41). -/
def State.code32 (s : State) : Bool := s.isProt && s.seg.cs.db

/-- OS = 32: the default, toggled by a 66H prefix (R174). -/
def State.os32 (s : State) : Bool := s.code32 ^^ s.pfx.os

/-- AS = 32: the default, toggled by a 67H prefix (R175). -/
def State.as32 (s : State) : Bool := s.code32 ^^ s.pfx.as

/-- OS in bytes. -/
def State.osBytes (s : State) : Nat := if s.os32 then 4 else 2

/-- The register part of a 16-bit addressing form (R190). -/
def base16 (g : Gprs) (rm : Reg) : Word :=
  match rm.toNat with
  | 0 => g.ebx.setWidth 16 + g.esi.setWidth 16
  | 1 => g.ebx.setWidth 16 + g.edi.setWidth 16
  | 2 => g.ebp.setWidth 16 + g.esi.setWidth 16
  | 3 => g.ebp.setWidth 16 + g.edi.setWidth 16
  | 4 => g.esi.setWidth 16
  | 5 => g.edi.setWidth 16
  | 6 => g.ebp.setWidth 16
  | _ => g.ebx.setWidth 16

/-- The displacement of a 16-bit addressing form. -/
def dispVal16 : Disp16 → Word
  | .none => 0#16
  | .d8 d => d.signExtend 16
  | .d16 d => d

/-- The displacement of a 32-bit addressing form. -/
def dispVal32 : Disp32 → DWord
  | .none => 0#32
  | .d8 d => d.signExtend 32
  | .d32 d => d

/-- `IndexVal` of a SIB byte (R191): index 100B is none. -/
def indexVal (g : Gprs) (scale : BitVec 2) (index : Reg) : DWord :=
  if index = 4#3 then 0#32 else g.get index <<< scale.toNat

/-- The effective address, zero-extended from 16 bits where AS = 16 (R190, R191). -/
def eaOffset (g : Gprs) : Ea → DWord
  | .a16 rm d => (base16 g rm + dispVal16 d).setWidth 32
  | .abs16 d => d.setWidth 32
  | .a32 base d => g.get base + dispVal32 d
  | .abs32 d => d
  | .sib scale index base d => g.get base + indexVal g scale index + dispVal32 d
  | .sibNoBase scale index d => indexVal g scale index + d

/-- The default segment (R190 last column, R192). -/
def eaDefaultSeg : Ea → SegReg
  | .a16 rm _ => if rm = 2#3 ∨ rm = 3#3 ∨ rm = 6#3 then .ss else .ds
  | .abs16 _ => .ds
  | .a32 base _ => if base = 5#3 then .ss else .ds
  | .abs32 _ => .ds
  | .sib _ _ base _ => if base = 4#3 ∨ base = 5#3 then .ss else .ds
  | .sibNoBase _ _ _ => .ds

/-- The segment of an overridable reference (R176). -/
def State.segFor (s : State) (dflt : SegReg) : SegReg := s.pfx.seg.getD dflt

/-- The place of a ModR/M memory operand. -/
def State.eaLoc (s : State) (e : Ea) : Loc :=
  { seg := s.segFor (eaDefaultSeg e), off := eaOffset s.gpr e, wide := e.as32 }

/-- The place of a moffs operand (R216). -/
def State.moffsLoc (s : State) (mo : Moffs) : Loc :=
  match mo with
  | .o16 o => { seg := s.segFor .ds, off := o.setWidth 32, wide := false }
  | .o32 o => { seg := s.segFor .ds, off := o, wide := true }

/-- A place in a segment at an offset modulo the address size of the instruction. -/
def State.asLoc (s : State) (sr : SegReg) (off : DWord) : Loc :=
  { seg := sr, off := wrapOff s.as32 off, wide := s.as32 }

/-- Bytes of a width in bits. -/
def bytesOf (w : Nat) : Nat := w / 8

/-- Read a value of a width from memory, aligned on its size. -/
def readLoc (w : Nat) (l : Loc) : M (BitVec w) := do
  let v ← memRead l (bytesOf w) (bytesOf w)
  pure (BitVec.ofNat w v)

/-- Write a value of a width to memory, aligned on its size. -/
def writeLoc (w : Nat) (l : Loc) (v : BitVec w) : M Unit := memWrite l (bytesOf w) (bytesOf w) v.toNat

/-- `ReadRM(n)` (R193). -/
def readRM (w : Nat) : RM → M (BitVec w)
  | .reg r => getReg w r
  | .mem e => do
    let s ← get
    readLoc w (s.eaLoc e)

/-- `WriteRM(n, v)` (R193). -/
def writeRM (w : Nat) (rm : RM) (v : BitVec w) : M Unit :=
  match rm with
  | .reg r => setReg w r v
  | .mem e => do
    let s ← get
    writeLoc w (s.eaLoc e) v

/-- A read-modify-write of a place: the write checks come first, then the read, the computation and the write
(20_memory.md R131). -/
def updateLoc (w : Nat) (l : Loc) (f : BitVec w → M (BitVec w)) : M Unit := do
  memProbe l (bytesOf w) (bytesOf w)
  let v ← readLoc w l
  let v' ← f v
  writeLoc w l v'

/-- A read-modify-write of an r/m operand. Its address is the one before any register changes (R193). -/
def updateRM (w : Nat) (rm : RM) (f : BitVec w → M (BitVec w)) : M Unit :=
  match rm with
  | .reg r => do
    let v ← getReg w r
    let v' ← f v
    setReg w r v'
  | .mem e => do
    let s ← get
    updateLoc w (s.eaLoc e) f

/-- The selector in a segment register. -/
def State.selector (s : State) (sr : SegReg) : Word := (s.seg.get sr).sel

/-- Up to `n` bytes from an offset of the code segment on, cut at the CS limit and at the top of the offset space
(20_memory.md R136, D52). -/
def State.fetchWindow (s : State) (off : DWord) : Nat → List Byte
  | 0 => []
  | n + 1 =>
    if s.seg.cs.inLimit off true 1 then
      s.byteAt (s.seg.cs.base + off) ::
        (if off = 0xFFFFFFFF#32 then [] else s.fetchWindow (off + 1#32) n)
    else []

end Sys2Proof.Machine
end

