-- ==== Sys2Proof/Machine/Arith.lean ====
section
/-! DEFINITION. Binary and decimal arithmetic (41_binary_and_decimal_arithmetic.md R300 to R317). -/

namespace Sys2Proof.Machine

/-! ## Shared operations of the two-operand instructions -/

/-- An operation on a destination and a source: it sets the flags and answers the result. -/
abbrev Binary (w : Nat) := BitVec w → BitVec w → M (BitVec w)

/-- ADD (R305). -/
def aluAdd (w : Nat) : Binary w := fun a b => do
  setFlags fun f => f.add a b false
  pure (addResult a b false)

/-- ADC (R304). -/
def aluAdc (w : Nat) : Binary w := fun a b => do
  let s ← get
  setFlags fun f => f.add a b s.flags.cf
  pure (addResult a b s.flags.cf)

/-- SUB (R317) and the comparison of CMP (R306). -/
def aluSub (w : Nat) : Binary w := fun a b => do
  setFlags fun f => f.sub a b false
  pure (subResult a b false)

/-- SBB (R316). -/
def aluSbb (w : Nat) : Binary w := fun a b => do
  let s ← get
  setFlags fun f => f.sub a b s.flags.cf
  pure (subResult a b s.flags.cf)

/-- The forms r/m,imm. -/
def opRmImm (w : Nat) (f : Binary w) (rm : RM) (imm : BitVec w) : M Unit := updateRM w rm fun d => f d imm

/-- The forms r/m,r. -/
def opRmReg (w : Nat) (f : Binary w) (rm : RM) (r : Reg) : M Unit := do
  let src ← getReg w r
  updateRM w rm fun d => f d src

/-- The forms r,r/m. -/
def opRegRm (w : Nat) (f : Binary w) (r : Reg) (rm : RM) : M Unit := do
  let src ← readRM w rm
  let d ← getReg w r
  let v ← f d src
  setReg w r v

/-- The comparing forms r/m,imm: no operand is written (R306, R355). -/
def testRmImm (w : Nat) (f : Binary w) (rm : RM) (imm : BitVec w) : M Unit := do
  let d ← readRM w rm
  let _ ← f d imm

/-- The comparing forms r/m,r. -/
def testRmReg (w : Nat) (f : Binary w) (rm : RM) (r : Reg) : M Unit := do
  let src ← getReg w r
  let d ← readRM w rm
  let _ ← f d src

/-- The comparing forms r,r/m. -/
def testRegRm (w : Nat) (f : Binary w) (r : Reg) (rm : RM) : M Unit := do
  let src ← readRM w rm
  let d ← getReg w r
  let _ ← f d src

/-- All six status flags become undefined. -/
def undefStatus : M Unit := do
  let u ← freeBits 6
  setFlags fun f => f.setStatus u

/-! ## Binary arithmetic -/

/-- INC (R313): CF stays. -/
def incOp (w : Nat) (rm : RM) : M Unit := updateRM w rm fun d => do
  setFlags fun f => { f.add d 1#w false with cf := f.cf }
  pure (addResult d 1#w false)

/-- DEC (R309): CF stays. -/
def decOp (w : Nat) (rm : RM) : M Unit := updateRM w rm fun d => do
  setFlags fun f => { f.sub d 1#w false with cf := f.cf }
  pure (subResult d 1#w false)

/-- NEG (R315). -/
def negOp (w : Nat) (rm : RM) : M Unit := updateRM w rm fun d => aluSub w 0#w d

/-- The double-width accumulator AX, DX:AX or EDX:EAX. -/
def getPair (w : Nat) : M Nat := do
  let s ← get
  pure (if w = 8 then (s.gpr.read 16 rA).toNat else (s.gpr.read w rD).toNat * 2 ^ w + (s.gpr.read w rA).toNat)

/-- Write the double-width accumulator. -/
def setPair (w : Nat) (v : BitVec (2 * w)) : M Unit := do
  if w = 8 then setReg 16 rA (v.setWidth 16)
  else
    setReg w rA (v.setWidth w)
    setReg w rD ((v >>> w).setWidth w)

/-- Write quotient and remainder: AL and AH, AX and DX, or EAX and EDX. -/
def setQuotient (w : Nat) (q r : BitVec w) : M Unit := do
  setReg w rA q
  setReg w (if w = 8 then rAH else rD) r

/-- DIV (R310). -/
def divOp (w : Nat) (rm : RM) : M Unit := do
  let src ← readRM w rm
  let d ← getPair w
  stopIf (src == 0#w || decide (2 ^ w ≤ d / src.toNat)) excDE
  setQuotient w (BitVec.ofNat w (d / src.toNat)) (BitVec.ofNat w (d % src.toNat))
  undefStatus

/-- IDIV (R311): division truncates toward 0. -/
def idivOp (w : Nat) (rm : RM) : M Unit := do
  let src ← readRM w rm
  let p ← getPair w
  let d := (BitVec.ofNat (2 * w) p).toInt
  let q := d.tdiv src.toInt
  stopIf (src == 0#w || decide (q < -(2 ^ (w - 1) : Int)) || decide ((2 ^ (w - 1) : Int) ≤ q)) excDE
  setQuotient w (BitVec.ofInt w q) (BitVec.ofInt w (d - q * src.toInt))
  undefStatus

/-- CF and OF after a multiplication; SF, ZF, AF and PF are undefined (R312, R314). -/
def mulFlags (b : Bool) : M Unit := do
  let u ← freeBits 6
  setFlags fun f => { f.setStatus u with cf := b, ofl := b }

/-- MUL (R314). -/
def mulOp (w : Nat) (rm : RM) : M Unit := do
  let src ← readRM w rm
  let a ← getReg w rA
  setPair w (BitVec.ofNat (2 * w) (a.toNat * src.toNat))
  mulFlags (decide (2 ^ w ≤ a.toNat * src.toNat))

/-- Does a signed product differ from the sign extension of its low half (R312, D33)? -/
def mulOverflow (w : Nat) (p : Int) : Bool := p != (BitVec.ofInt w p).toInt

/-- IMUL, one operand (R312). -/
def imulOp1 (w : Nat) (rm : RM) : M Unit := do
  let src ← readRM w rm
  let a ← getReg w rA
  setPair w (BitVec.ofInt (2 * w) (a.toInt * src.toInt))
  mulFlags (mulOverflow w (a.toInt * src.toInt))

/-- IMUL, two operands (R312). -/
def imulOp2 (w : Nat) (r : Reg) (rm : RM) : M Unit := do
  let src ← readRM w rm
  let d ← getReg w r
  setReg w r (BitVec.ofInt w (d.toInt * src.toInt))
  mulFlags (mulOverflow w (d.toInt * src.toInt))

/-- IMUL, three operands (R312). -/
def imulOp3 (w : Nat) (r : Reg) (rm : RM) (imm : BitVec w) : M Unit := do
  let src ← readRM w rm
  setReg w r (BitVec.ofInt w (src.toInt * imm.toInt))
  mulFlags (mulOverflow w (src.toInt * imm.toInt))

/-! ## Decimal arithmetic -/

/-- The low decimal digit of AL needs an adjustment: it is above 9, or AF is set. -/
def lowAdjust (al : Byte) (af : Bool) : Bool := decide (9 < al.toNat % 16) || af

/-- AF and CF after AAA or AAS; OF, SF, ZF and PF are undefined (R300, R303). -/
def asciiFlags (c : Bool) : M Unit := do
  let u ← freeBits 6
  setFlags fun f => { f.setStatus u with af := c, cf := c }

/-- AAA (R300) with `+`, AAS (R303) with `-`: the adjustment of AL and AH. -/
def asciiAdjust (dl dh : Byte) : M Unit := do
  let s ← get
  let al ← getReg 8 rA
  let ah ← getReg 8 rAH
  let c := lowAdjust al s.flags.af
  setReg 8 rA ((if c then al + dl else al) &&& 0x0F#8)
  setReg 8 rAH (if c then ah + dh else ah)
  asciiFlags c

/-- SF, ZF and PF from AL; OF, AF and CF are undefined (R301, R302, D20). -/
def decimalFlags (al : Byte) : M Unit := do
  let u ← freeBits 6
  setFlags fun f => (f.setStatus u).szp al

/-- AAD (R301). -/
def aadOp (imm : Byte) : M Unit := do
  let al ← getReg 8 rA
  let ah ← getReg 8 rAH
  setReg 8 rA (al + ah * imm)
  setReg 8 rAH 0#8
  decimalFlags (al + ah * imm)

/-- AAM (R302): an immediate of 0 is #DE. -/
def aamOp (imm : Byte) : M Unit := do
  stopIf (imm == 0#8) excDE
  let al ← getReg 8 rA
  setReg 8 rAH (al / imm)
  setReg 8 rA (al % imm)
  decimalFlags (al % imm)

/-- The flags of DAA and DAS: OF is undefined (R307, R308). -/
def packedFlags (al : Byte) (af cf : Bool) : M Unit := do
  let o ← freeBit
  setFlags fun f => { f.szp al with af := af, cf := cf, ofl := o }

/-- DAA (R307). -/
def daaOp : M Unit := do
  let s ← get
  let al ← getReg 8 rA
  let low := lowAdjust al s.flags.af
  let al1 := if low then al + 6#8 else al
  let cf1 := s.flags.cf || (low && decide (256 ≤ al.toNat + 6))
  let high := decide (0x90 < al1.toNat / 16 * 16) || cf1
  let al2 := if high then al1 + 0x60#8 else al1
  setReg 8 rA al2
  packedFlags al2 low high

/-- DAS (R308). -/
def dasOp : M Unit := do
  let s ← get
  let al ← getReg 8 rA
  let low := lowAdjust al s.flags.af
  let al1 := if low then al - 6#8 else al
  let cf1 := s.flags.cf || (low && decide (al.toNat < 6))
  let high := decide (0x9F < al1.toNat) || cf1
  let al2 := if high then al1 - 0x60#8 else al1
  setReg 8 rA al2
  packedFlags al2 low high

/-- AAA : `37` (R300). -/
def execAaa (s : State) : Out := runSeq (asciiAdjust 6#8 1#8) s

/-- AAD imm8 : `D5 ib` (R301). -/
def execAadImm8 (imm : BitVec 8) (s : State) : Out := runSeq (aadOp imm) s

/-- AAM imm8 : `D4 ib` (R302). -/
def execAamImm8 (imm : BitVec 8) (s : State) : Out := runSeq (aamOp imm) s

/-- AAS : `3F` (R303). -/
def execAas (s : State) : Out := runSeq (asciiAdjust (0#8 - 6#8) (0#8 - 1#8)) s

/-- ADC AL,imm8 : `14 ib` (R304). -/
def execAdcAlImm8 (imm : BitVec 8) (s : State) : Out := runSeq (opRmImm 8 (aluAdc 8) (.reg rA) imm) s

/-- ADC AX,imm16 : `15 iw` with OS=16 (R304). -/
def execAdcAxImm16 (imm : BitVec 16) (s : State) : Out := runSeq (opRmImm 16 (aluAdc 16) (.reg rA) imm) s

/-- ADC EAX,imm32 : `15 id` with OS=32 (R304). -/
def execAdcEaxImm32 (imm : BitVec 32) (s : State) : Out := runSeq (opRmImm 32 (aluAdc 32) (.reg rA) imm) s

/-- ADC r/m8,imm8 : `80 /2 ib` (R304). -/
def execAdcRm8Imm8 (rm : RM) (imm : BitVec 8) (s : State) : Out := runSeq (opRmImm 8 (aluAdc 8) rm imm) s

/-- ADC r/m16,imm16 : `81 /2 iw` with OS=16 (R304). -/
def execAdcRm16Imm16 (rm : RM) (imm : BitVec 16) (s : State) : Out := runSeq (opRmImm 16 (aluAdc 16) rm imm) s

/-- ADC r/m32,imm32 : `81 /2 id` with OS=32 (R304). -/
def execAdcRm32Imm32 (rm : RM) (imm : BitVec 32) (s : State) : Out := runSeq (opRmImm 32 (aluAdc 32) rm imm) s

/-- ADC r/m16,imm8 : `83 /2 ib` with OS=16 (R304). -/
def execAdcRm16Imm8 (rm : RM) (imm : BitVec 8) (s : State) : Out :=
  runSeq (opRmImm 16 (aluAdc 16) rm (imm.signExtend 16)) s

/-- ADC r/m32,imm8 : `83 /2 ib` with OS=32 (R304). -/
def execAdcRm32Imm8 (rm : RM) (imm : BitVec 8) (s : State) : Out :=
  runSeq (opRmImm 32 (aluAdc 32) rm (imm.signExtend 32)) s

/-- ADC r/m8,r8 : `10 /r` (R304). -/
def execAdcRm8R8 (rm : RM) (r : Reg) (s : State) : Out := runSeq (opRmReg 8 (aluAdc 8) rm r) s

/-- ADC r/m16,r16 : `11 /r` with OS=16 (R304). -/
def execAdcRm16R16 (rm : RM) (r : Reg) (s : State) : Out := runSeq (opRmReg 16 (aluAdc 16) rm r) s

/-- ADC r/m32,r32 : `11 /r` with OS=32 (R304). -/
def execAdcRm32R32 (rm : RM) (r : Reg) (s : State) : Out := runSeq (opRmReg 32 (aluAdc 32) rm r) s

/-- ADC r8,r/m8 : `12 /r` (R304). -/
def execAdcR8Rm8 (r : Reg) (rm : RM) (s : State) : Out := runSeq (opRegRm 8 (aluAdc 8) r rm) s

/-- ADC r16,r/m16 : `13 /r` with OS=16 (R304). -/
def execAdcR16Rm16 (r : Reg) (rm : RM) (s : State) : Out := runSeq (opRegRm 16 (aluAdc 16) r rm) s

/-- ADC r32,r/m32 : `13 /r` with OS=32 (R304). -/
def execAdcR32Rm32 (r : Reg) (rm : RM) (s : State) : Out := runSeq (opRegRm 32 (aluAdc 32) r rm) s

/-- ADD AL,imm8 : `04 ib` (R305). -/
def execAddAlImm8 (imm : BitVec 8) (s : State) : Out := runSeq (opRmImm 8 (aluAdd 8) (.reg rA) imm) s

/-- ADD AX,imm16 : `05 iw` with OS=16 (R305). -/
def execAddAxImm16 (imm : BitVec 16) (s : State) : Out := runSeq (opRmImm 16 (aluAdd 16) (.reg rA) imm) s

/-- ADD EAX,imm32 : `05 id` with OS=32 (R305). -/
def execAddEaxImm32 (imm : BitVec 32) (s : State) : Out := runSeq (opRmImm 32 (aluAdd 32) (.reg rA) imm) s

/-- ADD r/m8,imm8 : `80 /0 ib` (R305). -/
def execAddRm8Imm8 (rm : RM) (imm : BitVec 8) (s : State) : Out := runSeq (opRmImm 8 (aluAdd 8) rm imm) s

/-- ADD r/m16,imm16 : `81 /0 iw` with OS=16 (R305). -/
def execAddRm16Imm16 (rm : RM) (imm : BitVec 16) (s : State) : Out := runSeq (opRmImm 16 (aluAdd 16) rm imm) s

/-- ADD r/m32,imm32 : `81 /0 id` with OS=32 (R305). -/
def execAddRm32Imm32 (rm : RM) (imm : BitVec 32) (s : State) : Out := runSeq (opRmImm 32 (aluAdd 32) rm imm) s

/-- ADD r/m16,imm8 : `83 /0 ib` with OS=16 (R305). -/
def execAddRm16Imm8 (rm : RM) (imm : BitVec 8) (s : State) : Out :=
  runSeq (opRmImm 16 (aluAdd 16) rm (imm.signExtend 16)) s

/-- ADD r/m32,imm8 : `83 /0 ib` with OS=32 (R305). -/
def execAddRm32Imm8 (rm : RM) (imm : BitVec 8) (s : State) : Out :=
  runSeq (opRmImm 32 (aluAdd 32) rm (imm.signExtend 32)) s

/-- ADD r/m8,r8 : `00 /r` (R305). -/
def execAddRm8R8 (rm : RM) (r : Reg) (s : State) : Out := runSeq (opRmReg 8 (aluAdd 8) rm r) s

/-- ADD r/m16,r16 : `01 /r` with OS=16 (R305). -/
def execAddRm16R16 (rm : RM) (r : Reg) (s : State) : Out := runSeq (opRmReg 16 (aluAdd 16) rm r) s

/-- ADD r/m32,r32 : `01 /r` with OS=32 (R305). -/
def execAddRm32R32 (rm : RM) (r : Reg) (s : State) : Out := runSeq (opRmReg 32 (aluAdd 32) rm r) s

/-- ADD r8,r/m8 : `02 /r` (R305). -/
def execAddR8Rm8 (r : Reg) (rm : RM) (s : State) : Out := runSeq (opRegRm 8 (aluAdd 8) r rm) s

/-- ADD r16,r/m16 : `03 /r` with OS=16 (R305). -/
def execAddR16Rm16 (r : Reg) (rm : RM) (s : State) : Out := runSeq (opRegRm 16 (aluAdd 16) r rm) s

/-- ADD r32,r/m32 : `03 /r` with OS=32 (R305). -/
def execAddR32Rm32 (r : Reg) (rm : RM) (s : State) : Out := runSeq (opRegRm 32 (aluAdd 32) r rm) s

/-- CMP AL,imm8 : `3C ib` (R306). -/
def execCmpAlImm8 (imm : BitVec 8) (s : State) : Out := runSeq (testRmImm 8 (aluSub 8) (.reg rA) imm) s

/-- CMP AX,imm16 : `3D iw` with OS=16 (R306). -/
def execCmpAxImm16 (imm : BitVec 16) (s : State) : Out := runSeq (testRmImm 16 (aluSub 16) (.reg rA) imm) s

/-- CMP EAX,imm32 : `3D id` with OS=32 (R306). -/
def execCmpEaxImm32 (imm : BitVec 32) (s : State) : Out := runSeq (testRmImm 32 (aluSub 32) (.reg rA) imm) s

/-- CMP r/m8,imm8 : `80 /7 ib` (R306). -/
def execCmpRm8Imm8 (rm : RM) (imm : BitVec 8) (s : State) : Out := runSeq (testRmImm 8 (aluSub 8) rm imm) s

/-- CMP r/m16,imm16 : `81 /7 iw` with OS=16 (R306). -/
def execCmpRm16Imm16 (rm : RM) (imm : BitVec 16) (s : State) : Out := runSeq (testRmImm 16 (aluSub 16) rm imm) s

/-- CMP r/m32,imm32 : `81 /7 id` with OS=32 (R306). -/
def execCmpRm32Imm32 (rm : RM) (imm : BitVec 32) (s : State) : Out := runSeq (testRmImm 32 (aluSub 32) rm imm) s

/-- CMP r/m16,imm8 : `83 /7 ib` with OS=16 (R306). -/
def execCmpRm16Imm8 (rm : RM) (imm : BitVec 8) (s : State) : Out :=
  runSeq (testRmImm 16 (aluSub 16) rm (imm.signExtend 16)) s

/-- CMP r/m32,imm8 : `83 /7 ib` with OS=32 (R306). -/
def execCmpRm32Imm8 (rm : RM) (imm : BitVec 8) (s : State) : Out :=
  runSeq (testRmImm 32 (aluSub 32) rm (imm.signExtend 32)) s

/-- CMP r/m8,r8 : `38 /r` (R306). -/
def execCmpRm8R8 (rm : RM) (r : Reg) (s : State) : Out := runSeq (testRmReg 8 (aluSub 8) rm r) s

/-- CMP r/m16,r16 : `39 /r` with OS=16 (R306). -/
def execCmpRm16R16 (rm : RM) (r : Reg) (s : State) : Out := runSeq (testRmReg 16 (aluSub 16) rm r) s

/-- CMP r/m32,r32 : `39 /r` with OS=32 (R306). -/
def execCmpRm32R32 (rm : RM) (r : Reg) (s : State) : Out := runSeq (testRmReg 32 (aluSub 32) rm r) s

/-- CMP r8,r/m8 : `3A /r` (R306). -/
def execCmpR8Rm8 (r : Reg) (rm : RM) (s : State) : Out := runSeq (testRegRm 8 (aluSub 8) r rm) s

/-- CMP r16,r/m16 : `3B /r` with OS=16 (R306). -/
def execCmpR16Rm16 (r : Reg) (rm : RM) (s : State) : Out := runSeq (testRegRm 16 (aluSub 16) r rm) s

/-- CMP r32,r/m32 : `3B /r` with OS=32 (R306). -/
def execCmpR32Rm32 (r : Reg) (rm : RM) (s : State) : Out := runSeq (testRegRm 32 (aluSub 32) r rm) s

/-- DAA : `27` (R307). -/
def execDaa (s : State) : Out := runSeq daaOp s

/-- DAS : `2F` (R308). -/
def execDas (s : State) : Out := runSeq dasOp s

/-- DEC r/m8 : `FE /1` (R309). -/
def execDecRm8 (rm : RM) (s : State) : Out := runSeq (decOp 8 rm) s

/-- DEC r/m16 : `FF /1` with OS=16 (R309). -/
def execDecRm16 (rm : RM) (s : State) : Out := runSeq (decOp 16 rm) s

/-- DEC r/m32 : `FF /1` with OS=32 (R309). -/
def execDecRm32 (rm : RM) (s : State) : Out := runSeq (decOp 32 rm) s

/-- DEC r16 : `48+rw` with OS=16 (R309). -/
def execDecR16 (r : Reg) (s : State) : Out := runSeq (decOp 16 (.reg r)) s

/-- DEC r32 : `48+rd` with OS=32 (R309). -/
def execDecR32 (r : Reg) (s : State) : Out := runSeq (decOp 32 (.reg r)) s

/-- DIV r/m8 : `F6 /6` (R310). -/
def execDivRm8 (rm : RM) (s : State) : Out := runSeq (divOp 8 rm) s

/-- DIV r/m16 : `F7 /6` with OS=16 (R310). -/
def execDivRm16 (rm : RM) (s : State) : Out := runSeq (divOp 16 rm) s

/-- DIV r/m32 : `F7 /6` with OS=32 (R310). -/
def execDivRm32 (rm : RM) (s : State) : Out := runSeq (divOp 32 rm) s

/-- IDIV r/m8 : `F6 /7` (R311). -/
def execIdivRm8 (rm : RM) (s : State) : Out := runSeq (idivOp 8 rm) s

/-- IDIV r/m16 : `F7 /7` with OS=16 (R311). -/
def execIdivRm16 (rm : RM) (s : State) : Out := runSeq (idivOp 16 rm) s

/-- IDIV r/m32 : `F7 /7` with OS=32 (R311). -/
def execIdivRm32 (rm : RM) (s : State) : Out := runSeq (idivOp 32 rm) s

/-- IMUL r/m8 : `F6 /5` (R312). -/
def execImulRm8 (rm : RM) (s : State) : Out := runSeq (imulOp1 8 rm) s

/-- IMUL r/m16 : `F7 /5` with OS=16 (R312). -/
def execImulRm16 (rm : RM) (s : State) : Out := runSeq (imulOp1 16 rm) s

/-- IMUL r/m32 : `F7 /5` with OS=32 (R312). -/
def execImulRm32 (rm : RM) (s : State) : Out := runSeq (imulOp1 32 rm) s

/-- IMUL r16,r/m16 : `0F AF /r` with OS=16 (R312). -/
def execImulR16Rm16 (r : Reg) (rm : RM) (s : State) : Out := runSeq (imulOp2 16 r rm) s

/-- IMUL r32,r/m32 : `0F AF /r` with OS=32 (R312). -/
def execImulR32Rm32 (r : Reg) (rm : RM) (s : State) : Out := runSeq (imulOp2 32 r rm) s

/-- IMUL r16,r/m16,imm8 : `6B /r ib` with OS=16 (R312). -/
def execImulR16Rm16Imm8 (r : Reg) (rm : RM) (imm : BitVec 8) (s : State) : Out :=
  runSeq (imulOp3 16 r rm (imm.signExtend 16)) s

/-- IMUL r32,r/m32,imm8 : `6B /r ib` with OS=32 (R312). -/
def execImulR32Rm32Imm8 (r : Reg) (rm : RM) (imm : BitVec 8) (s : State) : Out :=
  runSeq (imulOp3 32 r rm (imm.signExtend 32)) s

/-- IMUL r16,r/m16,imm16 : `69 /r iw` with OS=16 (R312). -/
def execImulR16Rm16Imm16 (r : Reg) (rm : RM) (imm : BitVec 16) (s : State) : Out := runSeq (imulOp3 16 r rm imm) s

/-- IMUL r32,r/m32,imm32 : `69 /r id` with OS=32 (R312). -/
def execImulR32Rm32Imm32 (r : Reg) (rm : RM) (imm : BitVec 32) (s : State) : Out := runSeq (imulOp3 32 r rm imm) s

/-- INC r/m8 : `FE /0` (R313). -/
def execIncRm8 (rm : RM) (s : State) : Out := runSeq (incOp 8 rm) s

/-- INC r/m16 : `FF /0` with OS=16 (R313). -/
def execIncRm16 (rm : RM) (s : State) : Out := runSeq (incOp 16 rm) s

/-- INC r/m32 : `FF /0` with OS=32 (R313). -/
def execIncRm32 (rm : RM) (s : State) : Out := runSeq (incOp 32 rm) s

/-- INC r16 : `40+rw` with OS=16 (R313). -/
def execIncR16 (r : Reg) (s : State) : Out := runSeq (incOp 16 (.reg r)) s

/-- INC r32 : `40+rd` with OS=32 (R313). -/
def execIncR32 (r : Reg) (s : State) : Out := runSeq (incOp 32 (.reg r)) s

/-- MUL r/m8 : `F6 /4` (R314). -/
def execMulRm8 (rm : RM) (s : State) : Out := runSeq (mulOp 8 rm) s

/-- MUL r/m16 : `F7 /4` with OS=16 (R314). -/
def execMulRm16 (rm : RM) (s : State) : Out := runSeq (mulOp 16 rm) s

/-- MUL r/m32 : `F7 /4` with OS=32 (R314). -/
def execMulRm32 (rm : RM) (s : State) : Out := runSeq (mulOp 32 rm) s

/-- NEG r/m8 : `F6 /3` (R315). -/
def execNegRm8 (rm : RM) (s : State) : Out := runSeq (negOp 8 rm) s

/-- NEG r/m16 : `F7 /3` with OS=16 (R315). -/
def execNegRm16 (rm : RM) (s : State) : Out := runSeq (negOp 16 rm) s

/-- NEG r/m32 : `F7 /3` with OS=32 (R315). -/
def execNegRm32 (rm : RM) (s : State) : Out := runSeq (negOp 32 rm) s

/-- SBB AL,imm8 : `1C ib` (R316). -/
def execSbbAlImm8 (imm : BitVec 8) (s : State) : Out := runSeq (opRmImm 8 (aluSbb 8) (.reg rA) imm) s

/-- SBB AX,imm16 : `1D iw` with OS=16 (R316). -/
def execSbbAxImm16 (imm : BitVec 16) (s : State) : Out := runSeq (opRmImm 16 (aluSbb 16) (.reg rA) imm) s

/-- SBB EAX,imm32 : `1D id` with OS=32 (R316). -/
def execSbbEaxImm32 (imm : BitVec 32) (s : State) : Out := runSeq (opRmImm 32 (aluSbb 32) (.reg rA) imm) s

/-- SBB r/m8,imm8 : `80 /3 ib` (R316). -/
def execSbbRm8Imm8 (rm : RM) (imm : BitVec 8) (s : State) : Out := runSeq (opRmImm 8 (aluSbb 8) rm imm) s

/-- SBB r/m16,imm16 : `81 /3 iw` with OS=16 (R316). -/
def execSbbRm16Imm16 (rm : RM) (imm : BitVec 16) (s : State) : Out := runSeq (opRmImm 16 (aluSbb 16) rm imm) s

/-- SBB r/m32,imm32 : `81 /3 id` with OS=32 (R316). -/
def execSbbRm32Imm32 (rm : RM) (imm : BitVec 32) (s : State) : Out := runSeq (opRmImm 32 (aluSbb 32) rm imm) s

/-- SBB r/m16,imm8 : `83 /3 ib` with OS=16 (R316). -/
def execSbbRm16Imm8 (rm : RM) (imm : BitVec 8) (s : State) : Out :=
  runSeq (opRmImm 16 (aluSbb 16) rm (imm.signExtend 16)) s

/-- SBB r/m32,imm8 : `83 /3 ib` with OS=32 (R316). -/
def execSbbRm32Imm8 (rm : RM) (imm : BitVec 8) (s : State) : Out :=
  runSeq (opRmImm 32 (aluSbb 32) rm (imm.signExtend 32)) s

/-- SBB r/m8,r8 : `18 /r` (R316). -/
def execSbbRm8R8 (rm : RM) (r : Reg) (s : State) : Out := runSeq (opRmReg 8 (aluSbb 8) rm r) s

/-- SBB r/m16,r16 : `19 /r` with OS=16 (R316). -/
def execSbbRm16R16 (rm : RM) (r : Reg) (s : State) : Out := runSeq (opRmReg 16 (aluSbb 16) rm r) s

/-- SBB r/m32,r32 : `19 /r` with OS=32 (R316). -/
def execSbbRm32R32 (rm : RM) (r : Reg) (s : State) : Out := runSeq (opRmReg 32 (aluSbb 32) rm r) s

/-- SBB r8,r/m8 : `1A /r` (R316). -/
def execSbbR8Rm8 (r : Reg) (rm : RM) (s : State) : Out := runSeq (opRegRm 8 (aluSbb 8) r rm) s

/-- SBB r16,r/m16 : `1B /r` with OS=16 (R316). -/
def execSbbR16Rm16 (r : Reg) (rm : RM) (s : State) : Out := runSeq (opRegRm 16 (aluSbb 16) r rm) s

/-- SBB r32,r/m32 : `1B /r` with OS=32 (R316). -/
def execSbbR32Rm32 (r : Reg) (rm : RM) (s : State) : Out := runSeq (opRegRm 32 (aluSbb 32) r rm) s

/-- SUB AL,imm8 : `2C ib` (R317). -/
def execSubAlImm8 (imm : BitVec 8) (s : State) : Out := runSeq (opRmImm 8 (aluSub 8) (.reg rA) imm) s

/-- SUB AX,imm16 : `2D iw` with OS=16 (R317). -/
def execSubAxImm16 (imm : BitVec 16) (s : State) : Out := runSeq (opRmImm 16 (aluSub 16) (.reg rA) imm) s

/-- SUB EAX,imm32 : `2D id` with OS=32 (R317). -/
def execSubEaxImm32 (imm : BitVec 32) (s : State) : Out := runSeq (opRmImm 32 (aluSub 32) (.reg rA) imm) s

/-- SUB r/m8,imm8 : `80 /5 ib` (R317). -/
def execSubRm8Imm8 (rm : RM) (imm : BitVec 8) (s : State) : Out := runSeq (opRmImm 8 (aluSub 8) rm imm) s

/-- SUB r/m16,imm16 : `81 /5 iw` with OS=16 (R317). -/
def execSubRm16Imm16 (rm : RM) (imm : BitVec 16) (s : State) : Out := runSeq (opRmImm 16 (aluSub 16) rm imm) s

/-- SUB r/m32,imm32 : `81 /5 id` with OS=32 (R317). -/
def execSubRm32Imm32 (rm : RM) (imm : BitVec 32) (s : State) : Out := runSeq (opRmImm 32 (aluSub 32) rm imm) s

/-- SUB r/m16,imm8 : `83 /5 ib` with OS=16 (R317). -/
def execSubRm16Imm8 (rm : RM) (imm : BitVec 8) (s : State) : Out :=
  runSeq (opRmImm 16 (aluSub 16) rm (imm.signExtend 16)) s

/-- SUB r/m32,imm8 : `83 /5 ib` with OS=32 (R317). -/
def execSubRm32Imm8 (rm : RM) (imm : BitVec 8) (s : State) : Out :=
  runSeq (opRmImm 32 (aluSub 32) rm (imm.signExtend 32)) s

/-- SUB r/m8,r8 : `28 /r` (R317). -/
def execSubRm8R8 (rm : RM) (r : Reg) (s : State) : Out := runSeq (opRmReg 8 (aluSub 8) rm r) s

/-- SUB r/m16,r16 : `29 /r` with OS=16 (R317). -/
def execSubRm16R16 (rm : RM) (r : Reg) (s : State) : Out := runSeq (opRmReg 16 (aluSub 16) rm r) s

/-- SUB r/m32,r32 : `29 /r` with OS=32 (R317). -/
def execSubRm32R32 (rm : RM) (r : Reg) (s : State) : Out := runSeq (opRmReg 32 (aluSub 32) rm r) s

/-- SUB r8,r/m8 : `2A /r` (R317). -/
def execSubR8Rm8 (r : Reg) (rm : RM) (s : State) : Out := runSeq (opRegRm 8 (aluSub 8) r rm) s

/-- SUB r16,r/m16 : `2B /r` with OS=16 (R317). -/
def execSubR16Rm16 (r : Reg) (rm : RM) (s : State) : Out := runSeq (opRegRm 16 (aluSub 16) r rm) s

/-- SUB r32,r/m32 : `2B /r` with OS=32 (R317). -/
def execSubR32Rm32 (r : Reg) (rm : RM) (s : State) : Out := runSeq (opRegRm 32 (aluSub 32) r rm) s

end Sys2Proof.Machine
end

