-- ==== Sys2Proof/Machine/Control.lean ====
section
/-! DEFINITION. Control transfer (43_control_transfer_1.md R390 to R412, 43_control_transfer_2.md R420 to R424). -/

namespace Sys2Proof.Machine

/-! ## Near transfers (R390, R404, R405, R409) -/

/-- The offset lies within the limit of the code segment. -/
def State.inCode (s : State) (off : DWord) : Bool := s.seg.cs.inLimit off true 1

/-- EIP truncated by the operand size. -/
def truncEip (wide : Bool) (t : DWord) : DWord := wrapOff wide t

/-- Go to an offset of the code segment, after its limit check. -/
def jumpTo (t : DWord) : M Unit := do
  let s ← get
  stopIf (!s.inCode t) (excGP 0#16)
  set { s with eip := t }

/-- Go to the address of the next instruction plus a displacement. -/
def jumpRel (wide : Bool) (rel : DWord) : M Unit := do
  let s ← get
  jumpTo (truncEip wide (s.nextEip + rel))

/-- Jcc (R404): the limit is checked only when the jump is taken. -/
def jccOp (wide : State → Bool) (cc : BitVec 4) (rel : DWord) : M Unit := do
  let s ← get
  if s.flags.cond cc then jumpRel (wide s) rel else advance

/-- JCXZ and JECXZ (R404). -/
def jcxzOp (w : Nat) (rel : DWord) : M Unit := do
  let s ← get
  let c ← getReg w rC
  if c = 0#w then jumpRel s.os32 rel else advance

/-- LOOP, LOOPE and LOOPNE (R423): count by the address size, then the branch condition. -/
def loopOp (zf : State → Bool) (rel : DWord) : M Unit := do
  let s ← get
  let c := wrapOff s.as32 (s.gpr.ecx - 1#32)
  if s.as32 then setReg 32 rC c else setReg 16 rC (c.setWidth 16)
  if c != 0#32 && zf s then jumpRel s.os32 rel else advance

/-- CALL to a near target (R390): the limit is checked before the push. -/
def callNear (w : Nat) (t : DWord) : M Unit := do
  let s ← get
  stopIf (!s.inCode t) (excGP 0#16)
  push (bytesOf w) s.nextEip.toNat
  modify fun u => { u with eip := t }

/-- CALL relative. -/
def callRel (w : Nat) (rel : DWord) : M Unit := do
  let s ← get
  callNear w (truncEip (w == 32) (s.nextEip + rel))

/-- CALL through a register or memory. -/
def callRM (w : Nat) (rm : RM) : M Unit := do
  let t ← readRM w rm
  callNear w (t.setWidth 32)

/-- JMP through a register or memory (R405). -/
def jmpRM (w : Nat) (rm : RM) : M Unit := do
  let t ← readRM w rm
  jumpTo (t.setWidth 32)

/-- Release bytes of the stack. -/
def release (n : DWord) : M Unit := modify fun s => s.setStackTop (s.stackLoc n).off

/-- RET near (R409). -/
def retNearOp (imm : Word) : M Unit := do
  let s ← get
  let t ← pop s.osBytes
  jumpTo (BitVec.ofNat 32 t)
  release (imm.setWidth 32)

/-! ## Far transfers: what CALL and JMP share (R392 to R396, R407, R408) -/

/-- The descriptor that the selector of a far target names, and its address: null is #GP(0), outside its table is
#GP(selector). -/
def farDesc (sel : Word) : M (DWord × QWord) := do
  let s ← get
  stopIf (selNull sel) (excGP 0#16)
  match s.descAddr sel with
  | none => throw (excGP (selCode sel false))
  | some a =>
    set (s.noteRead a 8)
    pure (a, s.descAt a)

/-- The privilege and present checks of a gate or a TSS named by a far target. -/
def farGateChecks (sel : Word) (d : QWord) : M Unit := do
  let s ← get
  stopIf (decide ((descDpl d).toNat < s.cpl.toNat) || decide ((descDpl d).toNat < (rpl sel).toNat))
    (excGP (selCode sel false))
  stopIf (!descP d) (excNP (selCode sel false))

/-- A far target that is a TSS: its checks, then the task switch that the model refuses (R396, R408, D24). TI is not checked:
a TSS that stands in the LDT ends in that refusal too (DESIGN CHOICE, log 58; 20_memory.md R147). -/
def farTss (sel : Word) (d : QWord) : M Unit := do
  let s ← get
  stopIf (decide ((descDpl d).toNat < s.cpl.toNat) || decide ((descDpl d).toNat < (rpl sel).toNat) ||
      !(descType d == 1#4 || descType d == 9#4)) (excGP (selCode sel false))
  stopIf (!descP d) (excNP (selCode sel false))
  throw (.refuse .taskSwitch)

/-- A far target that is a task gate (R396, R408); what its selector names is checked as at delivery (log 58). -/
def farTaskGate (sel : Word) (d : QWord) : M Unit := do
  farGateChecks sel d
  deliverTaskGate d

/-- The checks of a code segment named directly by a far target (R393, R407). -/
def farCodeChecks (sel : Word) (d : QWord) : M Unit := do
  let s ← get
  let cs := segOfDesc sel d
  stopIf (if cs.isConforming then decide (s.cpl.toNat < cs.dpl.toNat)
      else decide (s.cpl.toNat < (rpl sel).toNat) || cs.dpl != s.cpl) (excGP (selCode sel false))
  stopIf (!cs.p) (excNP (selCode sel false))

/-- The target offset lies within the limit of the code segment of a descriptor. -/
def farLimit (d : QWord) (off : DWord) : M Unit :=
  stopIf (!(segOfDesc 0#16 d).inLimit off true 1) (excGP 0#16)

/-- Load CS outside protected mode, and EIP (20_memory.md R141). -/
def enterReal (sel : Word) (off : DWord) : M Unit := modify fun s => { s.loadReal .cs sel with eip := off }

/-- JMP far (R406 to R408). -/
def jmpFar (sel : Word) (off : DWord) : M Unit := do
  let s ← get
  if !s.isProt then
    stopIf (!s.inCode off) (excGP 0#16)
    enterReal sel off
  else
    let (a, d) ← farDesc sel
    if (segOfDesc sel d).isCode then
      farCodeChecks sel d
      farLimit d off
      enterCode sel a d s.cpl off
    else if descS d then throw (excGP (selCode sel false))
    else if descType d = 4#4 ∨ descType d = 0xC#4 then
      farGateChecks sel d
      let csel := gateSel d
      let (b, e) ← farDesc csel
      let cs := segOfDesc csel e
      stopIf (!cs.isCode || (if cs.isConforming then decide (s.cpl.toNat < cs.dpl.toNat) else cs.dpl != s.cpl))
        (excGP (selCode csel false))
      stopIf (!cs.p) (excNP (selCode csel false))
      farLimit e (gateOff d)
      enterCode csel b e s.cpl (gateOff d)
    else if descType d = 5#4 then farTaskGate sel d
    else if descType d = 1#4 ∨ descType d = 3#4 ∨ descType d = 9#4 ∨ descType d = 0xB#4 then farTss sel d
    else throw (excGP (selCode sel false))

/-- Push the return address of a far call: CS, then the offset of the next instruction. -/
def pushReturn (n : Nat) : M Unit := do
  let s ← get
  push n s.seg.cs.sel.toNat
  push n s.nextEip.toNat

/-- The room check of a far call: two items on the current stack. -/
def returnRoom (n : Nat) : M Unit := do
  let s ← get
  stopIf (!s.stackRoom n 2) (excSS 0#16)

/-- Copy `k` parameters from the stack that `old` names to the current one, the highest first (R395). -/
def copyParams (old : State) (n : Nat) : Nat → M Unit
  | 0 => pure ()
  | k + 1 => do
    let l := old.stackLoc (BitVec.ofNat 32 (k * n))
    check (readFault old l n 1)
    let t ← get
    set (t.noteRead (old.linear l) n)
    pushRaw n (t.readLin (old.linear l) n)
    copyParams old n k

/-- CALL through a call gate to a more privileged code segment, whose descriptor `e` stands at `b` (R395): SS:ESP and CS:EIP
are loaded, then the old stack pushed, the parameters copied and the return address pushed. -/
def callMorePrivilege (gate : QWord) (b : DWord) (e : QWord) : M Unit := do
  let s ← get
  let csel := gateSel gate
  let cs := segOfDesc csel e
  let n := gateBytes gate
  let (newSs, newEsp) ← tssStack cs.dpl.toNat
  let (c, d) ← newStackSeg newSs cs.dpl false
  let ss := segOfDesc newSs d
  stopIf (!roomBelow ss ss.db (wrapOff ss.db newEsp) n (gateCount gate + 4)) (excSS (selCode newSs false))
  stopIf (!cs.inLimit (gateOff gate) true 1) (excGP 0#16)
  switchStack newSs c d newEsp
  enterCode csel b e cs.dpl (gateOff gate)
  pushAllRaw n [s.seg.ss.sel.toNat, s.gpr.esp.toNat]
  copyParams s n (gateCount gate)
  pushAllRaw n [s.seg.cs.sel.toNat, s.nextEip.toNat]

/-- CALL through a call gate (R394). -/
def callGate (sel : Word) (gate : QWord) : M Unit := do
  let s ← get
  farGateChecks sel gate
  let csel := gateSel gate
  let (b, e) ← farDesc csel
  let cs := segOfDesc csel e
  let n := gateBytes gate
  stopIf (!cs.isCode || decide (s.cpl.toNat < cs.dpl.toNat)) (excGP (selCode csel false))
  stopIf (!cs.p) (excNP (selCode csel false))
  if !cs.isConforming && decide (cs.dpl.toNat < s.cpl.toNat) then callMorePrivilege gate b e
  else
    returnRoom n
    farLimit e (gateOff gate)
    pushReturn n
    enterCode csel b e s.cpl (gateOff gate)

/-- CALL far (R391 to R396). -/
def callFar (w : Nat) (sel : Word) (off : DWord) : M Unit := do
  let s ← get
  if !s.isProt then
    returnRoom (bytesOf w)
    stopIf (!s.inCode off) (excGP 0#16)
    pushReturn (bytesOf w)
    enterReal sel off
  else
    let (a, d) ← farDesc sel
    if (segOfDesc sel d).isCode then
      farCodeChecks sel d
      returnRoom (bytesOf w)
      farLimit d off
      pushReturn (bytesOf w)
      enterCode sel a d s.cpl off
    else if descS d then throw (excGP (selCode sel false))
    else if descType d = 4#4 ∨ descType d = 0xC#4 then callGate sel d
    else if descType d = 5#4 then farTaskGate sel d
    else if descType d = 1#4 ∨ descType d = 3#4 ∨ descType d = 9#4 ∨ descType d = 0xB#4 then farTss sel d
    else throw (excGP (selCode sel false))

/-- Read a far pointer m16:16 or m16:32: the offset first, then the selector (20_memory.md R121, R133, R137). -/
def readFar (w : Nat) (ea : Ea) : M (Word × DWord) := do
  let s ← get
  let (off, sel) ← memReadPair (s.eaLoc ea) (bytesOf w) 2 (bytesOf w)
  pure (BitVec.ofNat 16 sel, BitVec.ofNat 32 off)

/-- CALL far through memory. -/
def callFarMem (w : Nat) (ea : Ea) : M Unit := do
  let (sel, off) ← readFar w ea
  callFar w sel off

/-- JMP far through memory. -/
def jmpFarMem (w : Nat) (ea : Ea) : M Unit := do
  let (sel, off) ← readFar w ea
  jmpFar sel off

/-! ## Far returns (R410 to R412) and interrupt returns (R398 to R403) -/

/-- The checks of a return to the code segment that `sel` names (R403, R411); answers its descriptor and the address of
that. -/
def returnCode (sel : Word) : M (DWord × QWord) := do
  let s ← get
  let (a, d) ← farDesc sel
  let cs := segOfDesc sel d
  stopIf (!cs.isCode || decide ((rpl sel).toNat < s.cpl.toNat) ||
      (if cs.isConforming then decide ((rpl sel).toNat < cs.dpl.toNat) else cs.dpl != rpl sel))
    (excGP (selCode sel false))
  stopIf (!cs.p) (excNP (selCode sel false))
  pure (a, d)

/-- The checks of the stack segment of a return to an outer level, `absent` the fault of one that is not present; answers its
descriptor and the address of that. -/
def returnStack (ssel : Word) (l : BitVec 2) (absent : Word → Stop) : M (DWord × QWord) := do
  let (b, d) ← farDesc ssel
  let ss := segOfDesc ssel d
  stopIf (rpl ssel != l || !ss.isWritableData || ss.dpl != l) (excGP (selCode ssel false))
  stopIf (!ss.p) (absent (selCode ssel false))
  stopIf ss.refused (.refuse .expandDown)
  pure (b, d)

/-- A data segment register that the new privilege level may not use becomes null (R403, R412). -/
def State.scrub (s : State) (sr : SegReg) : State :=
  let g := s.seg.get sr
  if g.valid && (g.isData || (g.isCode && !g.isConforming)) && decide (g.dpl.toNat < s.cpl.toNat) then
    s.loadNull sr 0#16
  else s

/-- Scrub ES, FS, GS and DS. -/
def State.scrubAll (s : State) : State := (((s.scrub .es).scrub .fs).scrub .gs).scrub .ds

/-- The stack of an outer level: SS from its checked descriptor, ESP, and the parameters released (R412, D46); then the data
segment registers are looked at. -/
def outerStack (ssel : Word) (b : DWord) (d : QWord) (esp : DWord) (extra : DWord) : M Unit := do
  switchStack ssel b d esp
  release extra
  modify fun s => s.scrubAll

/-- RET far in protected mode (R411, R412). The second item is checked alone; the return to an outer level checks the whole
block. It reads the return offset after the code selector and before ESP and SS: R412 does not say when that item is read
(DESIGN CHOICE, log 62). -/
def retFarProt (imm : Word) : M Unit := do
  let s ← get
  let n := s.osBytes
  let sel := BitVec.ofNat 16 (← peek n n)
  let (a, d) ← returnCode sel
  if (rpl sel).toNat ≤ s.cpl.toNat then
    let t := BitVec.ofNat 32 (← peek 0 n)
    farLimit d t
    release (BitVec.ofNat 32 (2 * n + imm.toNat))
    enterCode sel a d (rpl sel) t
  else
    needTop 0 (4 * n + imm.toNat)
    let t := BitVec.ofNat 32 (← peek 0 n)
    let esp := BitVec.ofNat 32 (← peek (2 * n + imm.toNat) n)
    let ssel := BitVec.ofNat 16 (← peek (3 * n + imm.toNat) n)
    let (b, e) ← returnStack ssel (rpl sel) excSS
    farLimit d t
    enterCode sel a d (rpl sel) t
    outerStack ssel b e esp (imm.setWidth 32)

/-- RET far (R410 to R412). -/
def retFarOp (imm : Word) : M Unit := do
  let s ← get
  if s.isProt then retFarProt imm
  else
    needTop 0 (2 * s.osBytes)
    let t := BitVec.ofNat 32 (← peek 0 s.osBytes)
    let sel := BitVec.ofNat 16 (← peek s.osBytes s.osBytes)
    stopIf (!s.inCode t) (excGP 0#16)
    release (BitVec.ofNat 32 (2 * s.osBytes + imm.toNat))
    enterReal sel t

/-- The bits of `mask` taken from an image, the rest kept. -/
def Flags.load (f : Flags) (img mask : DWord) : Flags := Flags.ofWord ((img &&& mask) ||| (f.toWord &&& ~~~mask))

/-- The flags that IRET loads in real-address mode (R398). -/
def iretRealMask (wide : Bool) : DWord := if wide then 0x257FD5#32 else 0x7FD5#32

/-- The flags that IRET loads in virtual-8086 mode (R400). -/
def iretV86Mask (wide : Bool) : DWord := if wide then 0x254FD5#32 else 0x4FD5#32

/-- The flags that IRET loads in protected mode: `RestoreFlags` (R403). -/
def iretProtMask (s : State) (wide : Bool) : DWord :=
  0x4DD5#32 ||| (if wide then 0x250000#32 else 0#32) ||| (if s.aboveIopl then 0#32 else 0x200#32) |||
    (if s.cpl = 0#2 then (if wide then 0x1A3000#32 else 0x3000#32) else 0#32)

/-- IRET in real-address mode, and in virtual-8086 mode with IOPL 3: three items, CS by selector * 16 (R398, R400). -/
def iretFlat (n : Nat) (mask : DWord) : M Unit := do
  let s ← get
  needTop 0 (3 * n)
  let t := BitVec.ofNat 32 (← peek 0 n)
  let sel := BitVec.ofNat 16 (← peek n n)
  let img := BitVec.ofNat 32 (← peek (2 * n) n)
  stopIf (!s.inCode t) (excGP 0#16)
  release (BitVec.ofNat 32 (3 * n))
  enterReal sel t
  setFlags fun f => f.load img mask

/-- IRET, TASK-RETURN: the checks the page states, then the task switch that the model refuses (R402, D24). The link
field is the word at offset 0 of the TSS: PRESUMED, log 12. -/
def iretTask : M Unit := do
  let s ← get
  let sel : Word := BitVec.ofNat 16 (s.readLin s.tr.base 2)
  if selTi sel then throw (excGP (selCode sel false))
  match s.descAddr sel with
  | none => throw (excGP (selCode sel false))
  | some a =>
    let d := s.descAt a
    stopIf (descS d || !(descType d == 3#4 || descType d == 0xB#4)) (excGP (selCode sel false))
    stopIf (!descP d) (excNP (selCode sel false))
    throw (.refuse .taskSwitch)

/-- IRET, RETURN-TO-VIRTUAL-8086-MODE (R401). -/
def iretToV86 (t : DWord) (sel : Word) (img : DWord) : M Unit := do
  needTop 12 24
  let esp := BitVec.ofNat 32 (← peek 12 4)
  let ss := BitVec.ofNat 16 (← peek 16 4)
  let es := BitVec.ofNat 16 (← peek 20 4)
  let ds := BitVec.ofNat 16 (← peek 24 4)
  let fs := BitVec.ofNat 16 (← peek 28 4)
  let gs := BitVec.ofNat 16 (← peek 32 4)
  stopIf (decide (0xFFFF < t.toNat)) (excGP 0#16)
  setFlags fun _ => Flags.ofWord img
  modify fun s =>
    (((((s.loadReal .cs sel).loadReal .ss ss).loadReal .es es).loadReal .ds ds).loadReal .fs fs).loadReal .gs gs
  modify fun s => { s with eip := t, cpl := 3#2, gpr := { s.gpr with esp := esp } }

/-- IRET, PROTECTED-MODE-RETURN (R403). -/
def iretProt (n : Nat) (t : DWord) (sel : Word) (img : DWord) : M Unit := do
  let s ← get
  let mask := iretProtMask s (n == 4)
  let (a, d) ← returnCode sel
  if (rpl sel).toNat ≤ s.cpl.toNat then
    farLimit d t
    release (BitVec.ofNat 32 (3 * n))
    enterCode sel a d (rpl sel) t
    setFlags fun f => f.load img mask
  else
    needTop (3 * n) (2 * n)
    let esp := BitVec.ofNat 32 (← peek (3 * n) n)
    let ssel := BitVec.ofNat 16 (← peek (4 * n) n)
    let (b, e) ← returnStack ssel (rpl sel) excNP
    farLimit d t
    enterCode sel a d (rpl sel) t
    setFlags fun f => f.load img mask
    outerStack ssel b e esp 0#32

/-- IRET and IRETD (R398 to R403), for items of `n` bytes. -/
def iretOp (n : Nat) : M Unit := do
  let s ← get
  if !s.pe then iretFlat n (iretRealMask (n == 4))
  else if s.flags.vm then
    stopIf (s.flags.iopl != 3#2) (excGP 0#16)
    iretFlat n (iretV86Mask (n == 4))
  else if s.flags.nt then iretTask
  else
    needTop 0 (3 * n)
    let t := BitVec.ofNat 32 (← peek 0 n)
    let sel := BitVec.ofNat 16 (← peek n n)
    let img : DWord := BitVec.ofNat 32 (← peek (2 * n) n)
    if img.getLsbD 17 && s.cpl == 0#2 then iretToV86 t sel img else iretProt n t sel img

/-! ## Software interrupts, bounds, frames -/

/-- A software interrupt: delivery from the next instruction (R397). -/
def softInt (v : Byte) : M Unit := do
  let s ← get
  deliverOnce v .software none s.nextEip

/-- INT imm8 (R397): in virtual-8086 mode with IOPL < 3 it is #GP(0) first (60_exceptions.md R840). -/
def intOp (v : Byte) : M Unit := do
  let s ← get
  stopIf (s.isV86 && s.flags.iopl != 3#2) (excGP 0#16)
  softInt v

/-- INTO (R397). -/
def intoOp : M Unit := do
  let s ← get
  if s.flags.ofl then softInt 4#8 else advance

/-- BOUND (R420): the source's text adds the operand size to the upper bound (U-BOUND-TEXT). -/
def boundOp (w : Nat) (r : Reg) (ea : Ea) : M Unit := do
  let s ← get
  let (lo, up) ← memReadPair (s.eaLoc ea) (bytesOf w) (bytesOf w) (bytesOf w)
  let i := (s.gpr.read w r).toInt
  let lower := (BitVec.ofNat w lo).toInt
  let upper := (BitVec.ofNat w up).toInt
  stopIf (decide (i < lower) || decide (upper + (bytesOf w : Nat) < i)) excBR

/-- The frame pointer by the stack width: EBP or BP. -/
def State.frame (s : State) : DWord := wrapOff s.sas32 s.gpr.ebp

/-- Set EBP or BP by the stack width. -/
def setFrame (v : DWord) : M Unit := modify fun s =>
  { s with gpr := { s.gpr with ebp := if s.sas32 then v else setLow16 s.gpr.ebp (v.setWidth 16) } }

/-- The display pointers that ENTER copies (R421), each read and pushed at its own offset (DESIGN CHOICE, log 57). -/
def copyDisplay (n : Nat) : Nat → M Unit
  | 0 => pure ()
  | k + 1 => do
    let s ← get
    setFrame (s.frame - BitVec.ofNat 32 n)
    let t ← get
    let v ← memRead { seg := .ss, off := t.frame, wide := t.sas32 } n 1
    pushAl n 1 v
    copyDisplay n k

/-- ENTER (R421); the page lists no #AC (20_memory.md R133). Each push, of the frame pointer, of the display and of the new
frame pointer, is checked at its own offset modulo the stack width, and so is the stack pointer after the release of the
dynamic storage, which goes down modulo that width: D26 and R132 ask for a check of the whole block and are silent on one
that wraps below offset 0 between two items, which passes here (DESIGN CHOICE, log 57). -/
def enterOp (size : Word) (level : Byte) : M Unit := do
  let s ← get
  let n := s.osBytes
  let l := level.toNat % 32
  pushAl n 1 s.frame.toNat
  let t ← get
  let frameTemp := t.stackTop
  if l = 0 then pure ()
  else
    copyDisplay n (l - 1)
    pushAl n 1 frameTemp.toNat
  setFrame frameTemp
  release (0#32 - size.setWidth 32)
  let u ← get
  stopIf (!u.seg.ss.inLimit u.stackTop u.sas32 1) (excSS 0#16)

/-- LEAVE (R422). -/
def leaveOp : M Unit := do
  let s ← get
  set (s.setStackTop s.frame)
  let v ← pop s.osBytes
  if s.os32 then setReg 32 rBP (BitVec.ofNat 32 v) else setReg 16 rBP (BitVec.ofNat 16 v)

/-- CALL rel16 : `E8 cw` with OS=16 (R390). -/
def execCallRel16 (rel : BitVec 16) (s : State) : Out := runJump (callRel 16 (rel.signExtend 32)) s

/-- CALL rel32 : `E8 cd` with OS=32 (R390). -/
def execCallRel32 (rel : BitVec 32) (s : State) : Out := runJump (callRel 32 rel) s

/-- CALL r/m16 : `FF /2` with OS=16 (R390). -/
def execCallRm16 (rm : RM) (s : State) : Out := runJump (callRM 16 rm) s

/-- CALL r/m32 : `FF /2` with OS=32 (R390). -/
def execCallRm32 (rm : RM) (s : State) : Out := runJump (callRM 32 rm) s

/-- CALL ptr16:16 : `9A cd` with OS=16 (R391). -/
def execCallPtr16x16 (sel : BitVec 16) (off : BitVec 16) (s : State) : Out :=
  runJump (callFar 16 sel (off.setWidth 32)) s

/-- CALL ptr16:32 : `9A cp` with OS=32 (R391). -/
def execCallPtr16x32 (sel : BitVec 16) (off : BitVec 32) (s : State) : Out := runJump (callFar 32 sel off) s

/-- CALL m16:16 : `FF /3` with OS=16 (R391). -/
def execCallM16x16 (ea : Ea) (s : State) : Out := runJump (callFarMem 16 ea) s

/-- CALL m16:32 : `FF /3` with OS=32 (R391). -/
def execCallM16x32 (ea : Ea) (s : State) : Out := runJump (callFarMem 32 ea) s

/-- INT3 : `CC` (R397). -/
def execInt3 (s : State) : Out := runJump (softInt 3#8) s

/-- INT imm8 : `CD ib` (R397). -/
def execIntImm8 (imm : BitVec 8) (s : State) : Out := runJump (intOp imm) s

/-- INTO : `CE` (R397). -/
def execInto (s : State) : Out := runJump intoOp s

/-- IRET : `CF` with OS=16 (R398). -/
def execIret (s : State) : Out := runJump (iretOp 2) s

/-- IRETD : `CF` with OS=32 (R398). -/
def execIretd (s : State) : Out := runJump (iretOp 4) s

/-- JO rel8 : `70 cb` (R404). -/
def execJoRel8 (rel : BitVec 8) (s : State) : Out := runJump (jccOp State.os32 0#4 (rel.signExtend 32)) s

/-- JNO rel8 : `71 cb` (R404). -/
def execJnoRel8 (rel : BitVec 8) (s : State) : Out := runJump (jccOp State.os32 1#4 (rel.signExtend 32)) s

/-- JB rel8 : `72 cb` (R404). -/
def execJbRel8 (rel : BitVec 8) (s : State) : Out := runJump (jccOp State.os32 2#4 (rel.signExtend 32)) s

/-- JAE rel8 : `73 cb` (R404). -/
def execJaeRel8 (rel : BitVec 8) (s : State) : Out := runJump (jccOp State.os32 3#4 (rel.signExtend 32)) s

/-- JE rel8 : `74 cb` (R404). -/
def execJeRel8 (rel : BitVec 8) (s : State) : Out := runJump (jccOp State.os32 4#4 (rel.signExtend 32)) s

/-- JNE rel8 : `75 cb` (R404). -/
def execJneRel8 (rel : BitVec 8) (s : State) : Out := runJump (jccOp State.os32 5#4 (rel.signExtend 32)) s

/-- JBE rel8 : `76 cb` (R404). -/
def execJbeRel8 (rel : BitVec 8) (s : State) : Out := runJump (jccOp State.os32 6#4 (rel.signExtend 32)) s

/-- JA rel8 : `77 cb` (R404). -/
def execJaRel8 (rel : BitVec 8) (s : State) : Out := runJump (jccOp State.os32 7#4 (rel.signExtend 32)) s

/-- JS rel8 : `78 cb` (R404). -/
def execJsRel8 (rel : BitVec 8) (s : State) : Out := runJump (jccOp State.os32 8#4 (rel.signExtend 32)) s

/-- JNS rel8 : `79 cb` (R404). -/
def execJnsRel8 (rel : BitVec 8) (s : State) : Out := runJump (jccOp State.os32 9#4 (rel.signExtend 32)) s

/-- JP rel8 : `7A cb` (R404). -/
def execJpRel8 (rel : BitVec 8) (s : State) : Out := runJump (jccOp State.os32 10#4 (rel.signExtend 32)) s

/-- JNP rel8 : `7B cb` (R404). -/
def execJnpRel8 (rel : BitVec 8) (s : State) : Out := runJump (jccOp State.os32 11#4 (rel.signExtend 32)) s

/-- JL rel8 : `7C cb` (R404). -/
def execJlRel8 (rel : BitVec 8) (s : State) : Out := runJump (jccOp State.os32 12#4 (rel.signExtend 32)) s

/-- JGE rel8 : `7D cb` (R404). -/
def execJgeRel8 (rel : BitVec 8) (s : State) : Out := runJump (jccOp State.os32 13#4 (rel.signExtend 32)) s

/-- JLE rel8 : `7E cb` (R404). -/
def execJleRel8 (rel : BitVec 8) (s : State) : Out := runJump (jccOp State.os32 14#4 (rel.signExtend 32)) s

/-- JG rel8 : `7F cb` (R404). -/
def execJgRel8 (rel : BitVec 8) (s : State) : Out := runJump (jccOp State.os32 15#4 (rel.signExtend 32)) s

/-- JO rel16 : `0F 80 cw` with OS=16 (R404). -/
def execJoRel16 (rel : BitVec 16) (s : State) : Out := runJump (jccOp (fun _ => false) 0#4 (rel.signExtend 32)) s

/-- JNO rel16 : `0F 81 cw` with OS=16 (R404). -/
def execJnoRel16 (rel : BitVec 16) (s : State) : Out := runJump (jccOp (fun _ => false) 1#4 (rel.signExtend 32)) s

/-- JB rel16 : `0F 82 cw` with OS=16 (R404). -/
def execJbRel16 (rel : BitVec 16) (s : State) : Out := runJump (jccOp (fun _ => false) 2#4 (rel.signExtend 32)) s

/-- JAE rel16 : `0F 83 cw` with OS=16 (R404). -/
def execJaeRel16 (rel : BitVec 16) (s : State) : Out := runJump (jccOp (fun _ => false) 3#4 (rel.signExtend 32)) s

/-- JE rel16 : `0F 84 cw` with OS=16 (R404). -/
def execJeRel16 (rel : BitVec 16) (s : State) : Out := runJump (jccOp (fun _ => false) 4#4 (rel.signExtend 32)) s

/-- JNE rel16 : `0F 85 cw` with OS=16 (R404). -/
def execJneRel16 (rel : BitVec 16) (s : State) : Out := runJump (jccOp (fun _ => false) 5#4 (rel.signExtend 32)) s

/-- JBE rel16 : `0F 86 cw` with OS=16 (R404). -/
def execJbeRel16 (rel : BitVec 16) (s : State) : Out := runJump (jccOp (fun _ => false) 6#4 (rel.signExtend 32)) s

/-- JA rel16 : `0F 87 cw` with OS=16 (R404). -/
def execJaRel16 (rel : BitVec 16) (s : State) : Out := runJump (jccOp (fun _ => false) 7#4 (rel.signExtend 32)) s

/-- JS rel16 : `0F 88 cw` with OS=16 (R404). -/
def execJsRel16 (rel : BitVec 16) (s : State) : Out := runJump (jccOp (fun _ => false) 8#4 (rel.signExtend 32)) s

/-- JNS rel16 : `0F 89 cw` with OS=16 (R404). -/
def execJnsRel16 (rel : BitVec 16) (s : State) : Out := runJump (jccOp (fun _ => false) 9#4 (rel.signExtend 32)) s

/-- JP rel16 : `0F 8A cw` with OS=16 (R404). -/
def execJpRel16 (rel : BitVec 16) (s : State) : Out := runJump (jccOp (fun _ => false) 10#4 (rel.signExtend 32)) s

/-- JNP rel16 : `0F 8B cw` with OS=16 (R404). -/
def execJnpRel16 (rel : BitVec 16) (s : State) : Out := runJump (jccOp (fun _ => false) 11#4 (rel.signExtend 32)) s

/-- JL rel16 : `0F 8C cw` with OS=16 (R404). -/
def execJlRel16 (rel : BitVec 16) (s : State) : Out := runJump (jccOp (fun _ => false) 12#4 (rel.signExtend 32)) s

/-- JGE rel16 : `0F 8D cw` with OS=16 (R404). -/
def execJgeRel16 (rel : BitVec 16) (s : State) : Out := runJump (jccOp (fun _ => false) 13#4 (rel.signExtend 32)) s

/-- JLE rel16 : `0F 8E cw` with OS=16 (R404). -/
def execJleRel16 (rel : BitVec 16) (s : State) : Out := runJump (jccOp (fun _ => false) 14#4 (rel.signExtend 32)) s

/-- JG rel16 : `0F 8F cw` with OS=16 (R404). -/
def execJgRel16 (rel : BitVec 16) (s : State) : Out := runJump (jccOp (fun _ => false) 15#4 (rel.signExtend 32)) s

/-- JO rel32 : `0F 80 cd` with OS=32 (R404). -/
def execJoRel32 (rel : BitVec 32) (s : State) : Out := runJump (jccOp (fun _ => true) 0#4 rel) s

/-- JNO rel32 : `0F 81 cd` with OS=32 (R404). -/
def execJnoRel32 (rel : BitVec 32) (s : State) : Out := runJump (jccOp (fun _ => true) 1#4 rel) s

/-- JB rel32 : `0F 82 cd` with OS=32 (R404). -/
def execJbRel32 (rel : BitVec 32) (s : State) : Out := runJump (jccOp (fun _ => true) 2#4 rel) s

/-- JAE rel32 : `0F 83 cd` with OS=32 (R404). -/
def execJaeRel32 (rel : BitVec 32) (s : State) : Out := runJump (jccOp (fun _ => true) 3#4 rel) s

/-- JE rel32 : `0F 84 cd` with OS=32 (R404). -/
def execJeRel32 (rel : BitVec 32) (s : State) : Out := runJump (jccOp (fun _ => true) 4#4 rel) s

/-- JNE rel32 : `0F 85 cd` with OS=32 (R404). -/
def execJneRel32 (rel : BitVec 32) (s : State) : Out := runJump (jccOp (fun _ => true) 5#4 rel) s

/-- JBE rel32 : `0F 86 cd` with OS=32 (R404). -/
def execJbeRel32 (rel : BitVec 32) (s : State) : Out := runJump (jccOp (fun _ => true) 6#4 rel) s

/-- JA rel32 : `0F 87 cd` with OS=32 (R404). -/
def execJaRel32 (rel : BitVec 32) (s : State) : Out := runJump (jccOp (fun _ => true) 7#4 rel) s

/-- JS rel32 : `0F 88 cd` with OS=32 (R404). -/
def execJsRel32 (rel : BitVec 32) (s : State) : Out := runJump (jccOp (fun _ => true) 8#4 rel) s

/-- JNS rel32 : `0F 89 cd` with OS=32 (R404). -/
def execJnsRel32 (rel : BitVec 32) (s : State) : Out := runJump (jccOp (fun _ => true) 9#4 rel) s

/-- JP rel32 : `0F 8A cd` with OS=32 (R404). -/
def execJpRel32 (rel : BitVec 32) (s : State) : Out := runJump (jccOp (fun _ => true) 10#4 rel) s

/-- JNP rel32 : `0F 8B cd` with OS=32 (R404). -/
def execJnpRel32 (rel : BitVec 32) (s : State) : Out := runJump (jccOp (fun _ => true) 11#4 rel) s

/-- JL rel32 : `0F 8C cd` with OS=32 (R404). -/
def execJlRel32 (rel : BitVec 32) (s : State) : Out := runJump (jccOp (fun _ => true) 12#4 rel) s

/-- JGE rel32 : `0F 8D cd` with OS=32 (R404). -/
def execJgeRel32 (rel : BitVec 32) (s : State) : Out := runJump (jccOp (fun _ => true) 13#4 rel) s

/-- JLE rel32 : `0F 8E cd` with OS=32 (R404). -/
def execJleRel32 (rel : BitVec 32) (s : State) : Out := runJump (jccOp (fun _ => true) 14#4 rel) s

/-- JG rel32 : `0F 8F cd` with OS=32 (R404). -/
def execJgRel32 (rel : BitVec 32) (s : State) : Out := runJump (jccOp (fun _ => true) 15#4 rel) s

/-- JCXZ rel8 : `E3 cb` with AS=16 (R404). -/
def execJcxzRel8 (rel : BitVec 8) (s : State) : Out := runJump (jcxzOp 16 (rel.signExtend 32)) s

/-- JECXZ rel8 : `E3 cb` with AS=32 (R404). -/
def execJecxzRel8 (rel : BitVec 8) (s : State) : Out := runJump (jcxzOp 32 (rel.signExtend 32)) s

/-- JMP rel8 : `EB cb` (R405). -/
def execJmpRel8 (rel : BitVec 8) (s : State) : Out := runJump (jumpRel s.os32 (rel.signExtend 32)) s

/-- JMP rel16 : `E9 cw` with OS=16 (R405). -/
def execJmpRel16 (rel : BitVec 16) (s : State) : Out := runJump (jumpRel false (rel.signExtend 32)) s

/-- JMP rel32 : `E9 cd` with OS=32 (R405). -/
def execJmpRel32 (rel : BitVec 32) (s : State) : Out := runJump (jumpRel true rel) s

/-- JMP r/m16 : `FF /4` with OS=16 (R405). -/
def execJmpRm16 (rm : RM) (s : State) : Out := runJump (jmpRM 16 rm) s

/-- JMP r/m32 : `FF /4` with OS=32 (R405). -/
def execJmpRm32 (rm : RM) (s : State) : Out := runJump (jmpRM 32 rm) s

/-- JMP ptr16:16 : `EA cd` with OS=16 (R406). -/
def execJmpPtr16x16 (sel : BitVec 16) (off : BitVec 16) (s : State) : Out := runJump (jmpFar sel (off.setWidth 32)) s

/-- JMP ptr16:32 : `EA cp` with OS=32 (R406). -/
def execJmpPtr16x32 (sel : BitVec 16) (off : BitVec 32) (s : State) : Out := runJump (jmpFar sel off) s

/-- JMP m16:16 : `FF /5` with OS=16 (R406). -/
def execJmpM16x16 (ea : Ea) (s : State) : Out := runJump (jmpFarMem 16 ea) s

/-- JMP m16:32 : `FF /5` with OS=32 (R406). -/
def execJmpM16x32 (ea : Ea) (s : State) : Out := runJump (jmpFarMem 32 ea) s

/-- RET (near) : `C3` (R409). -/
def execRetNear (s : State) : Out := runJump (retNearOp 0#16) s

/-- RET imm16 (near) : `C2 iw` (R409). -/
def execRetNearImm16 (imm : BitVec 16) (s : State) : Out := runJump (retNearOp imm) s

/-- RET (far) : `CB` (R410). -/
def execRetFar (s : State) : Out := runJump (retFarOp 0#16) s

/-- RET imm16 (far) : `CA iw` (R410). -/
def execRetFarImm16 (imm : BitVec 16) (s : State) : Out := runJump (retFarOp imm) s

/-- BOUND r16,m16&16 : `62 /r` with OS=16 (R420). -/
def execBoundR16M16a16 (r : Reg) (ea : Ea) (s : State) : Out := runSeq (boundOp 16 r ea) s

/-- BOUND r32,m32&32 : `62 /r` with OS=32 (R420). -/
def execBoundR32M32a32 (r : Reg) (ea : Ea) (s : State) : Out := runSeq (boundOp 32 r ea) s

/-- ENTER imm16,imm8 : `C8 iw ib` (R421). -/
def execEnterImm16Imm8 (size : BitVec 16) (level : BitVec 8) (s : State) : Out := runSeq (enterOp size level) s

/-- LEAVE : `C9` (R422). -/
def execLeave (s : State) : Out := runSeq leaveOp s

/-- LOOP rel8 : `E2 cb` (R423). -/
def execLoopRel8 (rel : BitVec 8) (s : State) : Out := runJump (loopOp (fun _ => true) (rel.signExtend 32)) s

/-- LOOPE rel8 : `E1 cb` (R423). -/
def execLoopeRel8 (rel : BitVec 8) (s : State) : Out := runJump (loopOp (fun t => t.flags.zf) (rel.signExtend 32)) s

/-- LOOPNE rel8 : `E0 cb` (R423). -/
def execLoopneRel8 (rel : BitVec 8) (s : State) : Out := runJump (loopOp (fun t => !t.flags.zf) (rel.signExtend 32)) s

/-- UD2 : `0F 0B` (R424). -/
def execUd2 (s : State) : Out := runSeq (throw excUD) s

end Sys2Proof.Machine
end

