-- ==== Sys2Proof/Machine/DataMove.lean ====
section
/-! DEFINITION. The data-movement instructions (40_data_movement.md R250 to R266). -/

namespace Sys2Proof.Machine

/-- BSWAP of a doubleword (R250). -/
def byteSwap (d : DWord) : DWord := d.extractLsb' 0 8 ++ d.extractLsb' 8 8 ++ d.extractLsb' 16 8 ++ d.extractLsb' 24 8

/-- BSWAP (R250): with OS = 16 the 16-bit register is undefined. -/
def bswapOp (r : Reg) : M Unit := do
  let s ← get
  if s.os32 then
    let d ← getReg 32 r
    setReg 32 r (byteSwap d)
  else
    let v ← freeBits 16
    setReg 16 r v

/-- CMOVcc (R252): the source is read whether or not the condition holds (D25). -/
def cmovOp (w : Nat) (cc : BitVec 4) (r : Reg) (rm : RM) : M Unit := do
  let v ← readRM w rm
  let s ← get
  if s.flags.cond cc then setReg w r v else pure ()

/-- CMPXCHG (R253): the destination is written in either case. -/
def cmpxchgOp (w : Nat) (rm : RM) (r : Reg) : M Unit := do
  let src ← getReg w r
  updateRM w rm fun temp => do
    let acc ← getReg w rA
    setFlags fun f => f.sub acc temp false
    if acc = temp then pure src
    else
      setReg w rA temp
      pure temp

/-- CMPXCHG8B (R254): only ZF changes, and the destination is written in either case. -/
def cmpxchg8bOp (ea : Ea) : M Unit := do
  let s ← get
  updateLoc 64 (s.eaLoc ea) fun temp => do
    setFlags fun f => { f with zf := s.gpr.edx ++ s.gpr.eax == temp }
    if s.gpr.edx ++ s.gpr.eax = temp then pure (s.gpr.ecx ++ s.gpr.ebx)
    else
      setReg 32 rD (temp.extractLsb' 32 32)
      setReg 32 rA (temp.extractLsb' 0 32)
      pure temp

/-- MOV to an r/m operand from a register. -/
def movToRM (w : Nat) (rm : RM) (r : Reg) : M Unit := do
  let v ← getReg w r
  writeRM w rm v

/-- MOV to a register from an r/m operand. -/
def movFromRM (w : Nat) (r : Reg) (rm : RM) : M Unit := do
  let v ← readRM w rm
  setReg w r v

/-- MOV r/m16,Sreg (R256): memory always takes 16 bits; a register takes the selector zero-extended with OS = 32. -/
def movFromSeg (rm : RM) (sr : SegReg) : M Unit := do
  let s ← get
  match rm with
  | .mem e => writeLoc 16 (s.eaLoc e) (s.selector sr)
  | .reg r => if s.os32 then setReg 32 r ((s.selector sr).setWidth 32) else setReg 16 r (s.selector sr)

/-- Open the window after a load of SS by MOV or POP (60_exceptions.md R852). -/
def windowAfter (sr : SegReg) : M Unit :=
  modify fun s => if sr = .ss then { s with inhibit := .ss } else s

/-- MOV Sreg,r/m16 (R256): CS is #UD. -/
def movToSeg (sr : SegReg) (rm : RM) : M Unit := do
  stopIf (sr == .cs) excUD
  let v ← readRM 16 rm
  loadSeg sr v
  windowAfter sr

/-- MOV accumulator,moffs (R256). -/
def movFromMoffs (w : Nat) (mo : Moffs) : M Unit := do
  let s ← get
  let v ← readLoc w (s.moffsLoc mo)
  setReg w rA v

/-- MOV moffs,accumulator (R256). -/
def movToMoffs (w : Nat) (mo : Moffs) : M Unit := do
  let s ← get
  let v ← getReg w rA
  writeLoc w (s.moffsLoc mo) v

/-- MOVSX (R257). -/
def movsxOp (n w : Nat) (r : Reg) (rm : RM) : M Unit := do
  let v ← readRM n rm
  setReg w r (v.signExtend w)

/-- MOVZX (R258). -/
def movzxOp (n w : Nat) (r : Reg) (rm : RM) : M Unit := do
  let v ← readRM n rm
  setReg w r (v.setWidth w)

/-- MOVSX r32,r/m16 and its OS = 16 reading, which moves the source unchanged (R257). -/
def movsxWordOp (r : Reg) (rm : RM) : M Unit := do
  let s ← get
  if s.os32 then movsxOp 16 32 r rm else movFromRM 16 r rm

/-- MOVZX r32,r/m16 and its OS = 16 reading, which copies the source unchanged (R258). -/
def movzxWordOp (r : Reg) (rm : RM) : M Unit := do
  let s ← get
  if s.os32 then movzxOp 16 32 r rm else movFromRM 16 r rm

/-- POP to an r/m operand (R259): the address uses the incremented stack pointer. -/
def popRM (w : Nat) (rm : RM) : M Unit := do
  let v ← pop (bytesOf w)
  writeRM w rm (BitVec.ofNat w v)

/-- POP of a segment register (R259): the low 16 bits of a slot of OS bits. -/
def popSeg (sr : SegReg) : M Unit := do
  let s ← get
  let v ← pop s.osBytes
  loadSeg sr (BitVec.ofNat 16 v)
  windowAfter sr

/-- The shutdown of a push in real-address mode with (E)SP = 1 (R262). It leaves the state before the instruction: what a
read of the source did at a device is dropped (DESIGN CHOICE, log 64). -/
def pushShutdown : M Unit := do
  let s ← get
  stopIf (s.isReal && s.stackTop == 1#32) .shutdown

/-- PUSH of a value of OS bits (R261). -/
def pushValue (w : Nat) (v : BitVec w) : M Unit := do
  pushShutdown
  push (bytesOf w) v.toNat

/-- PUSH of an r/m operand (R261): read before the stack pointer moves. In real-address mode with (E)SP = 1 a source that
cannot be read faults, and else the processor shuts down (R262) in the state before the read, so that a read of a device
leaves no event: R261 and R262 do not say which comes first, nor whether the source is read (DESIGN CHOICE, log 64). -/
def pushRM (w : Nat) (rm : RM) : M Unit := do
  let v ← readRM w rm
  pushValue w v

/-- PUSH imm8, sign-extended to OS bits (R261, 30_encoding.md R215). -/
def pushSx (imm : Byte) : M Unit := do
  let s ← get
  if s.os32 then pushValue 32 (imm.signExtend 32) else pushValue 16 (imm.signExtend 16)

/-- PUSH of a segment register (R261, D23). -/
def pushSeg (sr : SegReg) : M Unit := do
  let s ← get
  if s.os32 then pushValue 32 ((s.selector sr).setWidth 32) else pushValue 16 (s.selector sr)

/-- The stack-pointer values at which PUSHA shuts down or faults outside protected mode (R262). -/
def pushaCorners : M Unit := do
  let s ← get
  let t := s.stackTop.toNat
  stopIf (s.isReal && (t == 1 || t == 3 || t == 5)) .shutdown
  stopIf (!s.isProt && (t == 7 || t == 9 || t == 11 || t == 13 || t == 15)) (excGP 0#16)

/-- Push a register of a width, with no alignment check (R263 lists no #AC). -/
def pushReg (w : Nat) (v : DWord) : M Unit := pushAl (bytesOf w) 1 (v.setWidth w).toNat

/-- PUSHA and PUSHAD (R263). Each item is checked at its offset modulo the stack width, which is the check of the whole block
(D26), as a fault undoes what came before; a block that wraps below offset 0 between two items passes (DESIGN CHOICE,
log 57). -/
def pushaOp (w : Nat) : M Unit := do
  pushaCorners
  let s ← get
  pushReg w s.gpr.eax
  pushReg w s.gpr.ecx
  pushReg w s.gpr.edx
  pushReg w s.gpr.ebx
  pushReg w s.gpr.esp
  pushReg w s.gpr.ebp
  pushReg w s.gpr.esi
  pushReg w s.gpr.edi

/-- Pop a register of a width, with no alignment check (R260 lists no #AC). -/
def popReg (w : Nat) (r : Reg) : M Unit := do
  let v ← popAl (bytesOf w) 1
  setReg w r (BitVec.ofNat w v)

/-- POPA and POPAD (R260): the slot of the stack pointer is skipped. Each item is checked at its offset modulo the stack width:
a block that wraps past the top of the offsets between two items passes (DESIGN CHOICE, log 57). -/
def popaOp (w : Nat) : M Unit := do
  popReg w rDI
  popReg w rSI
  popReg w rBP
  skipItem (bytesOf w) 1
  popReg w rB
  popReg w rD
  popReg w rC
  popReg w rA

/-- XADD (R264): the source register is written first, the destination last. -/
def xaddOp (w : Nat) (rm : RM) (r : Reg) : M Unit := do
  let src ← getReg w r
  updateRM w rm fun dest => do
    setFlags fun f => f.add dest src false
    setReg w r dest
    pure (addResult dest src false)

/-- XCHG of the accumulator with a register (R265). -/
def xchgAcc (w : Nat) (r : Reg) : M Unit := do
  let a ← getReg w rA
  let v ← getReg w r
  setReg w rA v
  setReg w r a

/-- XCHG (R265). -/
def xchgOp (w : Nat) (rm : RM) (r : Reg) : M Unit := do
  let src ← getReg w r
  updateRM w rm fun temp => do
    setReg w r temp
    pure src

/-- XLAT (R266). -/
def xlatOp : M Unit := do
  let s ← get
  let v ← readLoc 8 (s.asLoc (s.segFor .ds) (s.gpr.ebx + (s.gpr.eax.setWidth 8).setWidth 32))
  setReg 8 rA v

/-- BSWAP r32 : `0F C8+rd` (R250). -/
def execBswapR32 (r : Reg) (s : State) : Out := runSeq (bswapOp r) s

/-- CBW : `98` with OS=16 (R251). -/
def execCbw (s : State) : Out :=
  runSeq (do
    let a ← getReg 8 rA
    setReg 16 rA (a.signExtend 16)) s

/-- CWDE : `98` with OS=32 (R251). -/
def execCwde (s : State) : Out :=
  runSeq (do
    let a ← getReg 16 rA
    setReg 32 rA (a.signExtend 32)) s

/-- CMOVO r16,r/m16 : `0F 40 /r` with OS=16 (R252). -/
def execCmovoR16Rm16 (r : Reg) (rm : RM) (s : State) : Out := runSeq (cmovOp 16 0#4 r rm) s

/-- CMOVNO r16,r/m16 : `0F 41 /r` with OS=16 (R252). -/
def execCmovnoR16Rm16 (r : Reg) (rm : RM) (s : State) : Out := runSeq (cmovOp 16 1#4 r rm) s

/-- CMOVB r16,r/m16 : `0F 42 /r` with OS=16 (R252). -/
def execCmovbR16Rm16 (r : Reg) (rm : RM) (s : State) : Out := runSeq (cmovOp 16 2#4 r rm) s

/-- CMOVAE r16,r/m16 : `0F 43 /r` with OS=16 (R252). -/
def execCmovaeR16Rm16 (r : Reg) (rm : RM) (s : State) : Out := runSeq (cmovOp 16 3#4 r rm) s

/-- CMOVE r16,r/m16 : `0F 44 /r` with OS=16 (R252). -/
def execCmoveR16Rm16 (r : Reg) (rm : RM) (s : State) : Out := runSeq (cmovOp 16 4#4 r rm) s

/-- CMOVNE r16,r/m16 : `0F 45 /r` with OS=16 (R252). -/
def execCmovneR16Rm16 (r : Reg) (rm : RM) (s : State) : Out := runSeq (cmovOp 16 5#4 r rm) s

/-- CMOVBE r16,r/m16 : `0F 46 /r` with OS=16 (R252). -/
def execCmovbeR16Rm16 (r : Reg) (rm : RM) (s : State) : Out := runSeq (cmovOp 16 6#4 r rm) s

/-- CMOVA r16,r/m16 : `0F 47 /r` with OS=16 (R252). -/
def execCmovaR16Rm16 (r : Reg) (rm : RM) (s : State) : Out := runSeq (cmovOp 16 7#4 r rm) s

/-- CMOVS r16,r/m16 : `0F 48 /r` with OS=16 (R252). -/
def execCmovsR16Rm16 (r : Reg) (rm : RM) (s : State) : Out := runSeq (cmovOp 16 8#4 r rm) s

/-- CMOVNS r16,r/m16 : `0F 49 /r` with OS=16 (R252). -/
def execCmovnsR16Rm16 (r : Reg) (rm : RM) (s : State) : Out := runSeq (cmovOp 16 9#4 r rm) s

/-- CMOVP r16,r/m16 : `0F 4A /r` with OS=16 (R252). -/
def execCmovpR16Rm16 (r : Reg) (rm : RM) (s : State) : Out := runSeq (cmovOp 16 10#4 r rm) s

/-- CMOVNP r16,r/m16 : `0F 4B /r` with OS=16 (R252). -/
def execCmovnpR16Rm16 (r : Reg) (rm : RM) (s : State) : Out := runSeq (cmovOp 16 11#4 r rm) s

/-- CMOVL r16,r/m16 : `0F 4C /r` with OS=16 (R252). -/
def execCmovlR16Rm16 (r : Reg) (rm : RM) (s : State) : Out := runSeq (cmovOp 16 12#4 r rm) s

/-- CMOVGE r16,r/m16 : `0F 4D /r` with OS=16 (R252). -/
def execCmovgeR16Rm16 (r : Reg) (rm : RM) (s : State) : Out := runSeq (cmovOp 16 13#4 r rm) s

/-- CMOVLE r16,r/m16 : `0F 4E /r` with OS=16 (R252). -/
def execCmovleR16Rm16 (r : Reg) (rm : RM) (s : State) : Out := runSeq (cmovOp 16 14#4 r rm) s

/-- CMOVG r16,r/m16 : `0F 4F /r` with OS=16 (R252). -/
def execCmovgR16Rm16 (r : Reg) (rm : RM) (s : State) : Out := runSeq (cmovOp 16 15#4 r rm) s

/-- CMOVO r32,r/m32 : `0F 40 /r` with OS=32 (R252). -/
def execCmovoR32Rm32 (r : Reg) (rm : RM) (s : State) : Out := runSeq (cmovOp 32 0#4 r rm) s

/-- CMOVNO r32,r/m32 : `0F 41 /r` with OS=32 (R252). -/
def execCmovnoR32Rm32 (r : Reg) (rm : RM) (s : State) : Out := runSeq (cmovOp 32 1#4 r rm) s

/-- CMOVB r32,r/m32 : `0F 42 /r` with OS=32 (R252). -/
def execCmovbR32Rm32 (r : Reg) (rm : RM) (s : State) : Out := runSeq (cmovOp 32 2#4 r rm) s

/-- CMOVAE r32,r/m32 : `0F 43 /r` with OS=32 (R252). -/
def execCmovaeR32Rm32 (r : Reg) (rm : RM) (s : State) : Out := runSeq (cmovOp 32 3#4 r rm) s

/-- CMOVE r32,r/m32 : `0F 44 /r` with OS=32 (R252). -/
def execCmoveR32Rm32 (r : Reg) (rm : RM) (s : State) : Out := runSeq (cmovOp 32 4#4 r rm) s

/-- CMOVNE r32,r/m32 : `0F 45 /r` with OS=32 (R252). -/
def execCmovneR32Rm32 (r : Reg) (rm : RM) (s : State) : Out := runSeq (cmovOp 32 5#4 r rm) s

/-- CMOVBE r32,r/m32 : `0F 46 /r` with OS=32 (R252). -/
def execCmovbeR32Rm32 (r : Reg) (rm : RM) (s : State) : Out := runSeq (cmovOp 32 6#4 r rm) s

/-- CMOVA r32,r/m32 : `0F 47 /r` with OS=32 (R252). -/
def execCmovaR32Rm32 (r : Reg) (rm : RM) (s : State) : Out := runSeq (cmovOp 32 7#4 r rm) s

/-- CMOVS r32,r/m32 : `0F 48 /r` with OS=32 (R252). -/
def execCmovsR32Rm32 (r : Reg) (rm : RM) (s : State) : Out := runSeq (cmovOp 32 8#4 r rm) s

/-- CMOVNS r32,r/m32 : `0F 49 /r` with OS=32 (R252). -/
def execCmovnsR32Rm32 (r : Reg) (rm : RM) (s : State) : Out := runSeq (cmovOp 32 9#4 r rm) s

/-- CMOVP r32,r/m32 : `0F 4A /r` with OS=32 (R252). -/
def execCmovpR32Rm32 (r : Reg) (rm : RM) (s : State) : Out := runSeq (cmovOp 32 10#4 r rm) s

/-- CMOVNP r32,r/m32 : `0F 4B /r` with OS=32 (R252). -/
def execCmovnpR32Rm32 (r : Reg) (rm : RM) (s : State) : Out := runSeq (cmovOp 32 11#4 r rm) s

/-- CMOVL r32,r/m32 : `0F 4C /r` with OS=32 (R252). -/
def execCmovlR32Rm32 (r : Reg) (rm : RM) (s : State) : Out := runSeq (cmovOp 32 12#4 r rm) s

/-- CMOVGE r32,r/m32 : `0F 4D /r` with OS=32 (R252). -/
def execCmovgeR32Rm32 (r : Reg) (rm : RM) (s : State) : Out := runSeq (cmovOp 32 13#4 r rm) s

/-- CMOVLE r32,r/m32 : `0F 4E /r` with OS=32 (R252). -/
def execCmovleR32Rm32 (r : Reg) (rm : RM) (s : State) : Out := runSeq (cmovOp 32 14#4 r rm) s

/-- CMOVG r32,r/m32 : `0F 4F /r` with OS=32 (R252). -/
def execCmovgR32Rm32 (r : Reg) (rm : RM) (s : State) : Out := runSeq (cmovOp 32 15#4 r rm) s

/-- CMPXCHG r/m8,r8 : `0F B0 /r` (R253). -/
def execCmpxchgRm8R8 (rm : RM) (r : Reg) (s : State) : Out := runSeq (cmpxchgOp 8 rm r) s

/-- CMPXCHG r/m16,r16 : `0F B1 /r` with OS=16 (R253). -/
def execCmpxchgRm16R16 (rm : RM) (r : Reg) (s : State) : Out := runSeq (cmpxchgOp 16 rm r) s

/-- CMPXCHG r/m32,r32 : `0F B1 /r` with OS=32 (R253). -/
def execCmpxchgRm32R32 (rm : RM) (r : Reg) (s : State) : Out := runSeq (cmpxchgOp 32 rm r) s

/-- CMPXCHG8B m64 : `0F C7 /1` (R254). -/
def execCmpxchg8bM64 (ea : Ea) (s : State) : Out := runSeq (cmpxchg8bOp ea) s

/-- CWD : `99` with OS=16 (R255). -/
def execCwd (s : State) : Out :=
  runSeq (do
    let a ← getReg 16 rA
    setReg 16 rD (if a.msb then 0xFFFF#16 else 0#16)) s

/-- CDQ : `99` with OS=32 (R255). -/
def execCdq (s : State) : Out :=
  runSeq (do
    let a ← getReg 32 rA
    setReg 32 rD (if a.msb then 0xFFFFFFFF#32 else 0#32)) s

/-- MOV r/m8,r8 : `88 /r` (R256). -/
def execMovRm8R8 (rm : RM) (r : Reg) (s : State) : Out := runSeq (movToRM 8 rm r) s

/-- MOV r/m16,r16 : `89 /r` with OS=16 (R256). -/
def execMovRm16R16 (rm : RM) (r : Reg) (s : State) : Out := runSeq (movToRM 16 rm r) s

/-- MOV r/m32,r32 : `89 /r` with OS=32 (R256). -/
def execMovRm32R32 (rm : RM) (r : Reg) (s : State) : Out := runSeq (movToRM 32 rm r) s

/-- MOV r8,r/m8 : `8A /r` (R256). -/
def execMovR8Rm8 (r : Reg) (rm : RM) (s : State) : Out := runSeq (movFromRM 8 r rm) s

/-- MOV r16,r/m16 : `8B /r` with OS=16 (R256). -/
def execMovR16Rm16 (r : Reg) (rm : RM) (s : State) : Out := runSeq (movFromRM 16 r rm) s

/-- MOV r32,r/m32 : `8B /r` with OS=32 (R256). -/
def execMovR32Rm32 (r : Reg) (rm : RM) (s : State) : Out := runSeq (movFromRM 32 r rm) s

/-- MOV r/m16,Sreg : `8C /r` (R256). -/
def execMovRm16Sreg (rm : RM) (sr : SegReg) (s : State) : Out := runSeq (movFromSeg rm sr) s

/-- MOV Sreg,r/m16 : `8E /r` (R256). -/
def execMovSregRm16 (sr : SegReg) (rm : RM) (s : State) : Out := runSeq (movToSeg sr rm) s

/-- MOV AL,moffs8 : `A0` (R256). -/
def execMovAlMoffs8 (mo : Moffs) (s : State) : Out := runSeq (movFromMoffs 8 mo) s

/-- MOV AX,moffs16 : `A1` with OS=16 (R256). -/
def execMovAxMoffs16 (mo : Moffs) (s : State) : Out := runSeq (movFromMoffs 16 mo) s

/-- MOV EAX,moffs32 : `A1` with OS=32 (R256). -/
def execMovEaxMoffs32 (mo : Moffs) (s : State) : Out := runSeq (movFromMoffs 32 mo) s

/-- MOV moffs8,AL : `A2` (R256). -/
def execMovMoffs8Al (mo : Moffs) (s : State) : Out := runSeq (movToMoffs 8 mo) s

/-- MOV moffs16,AX : `A3` with OS=16 (R256). -/
def execMovMoffs16Ax (mo : Moffs) (s : State) : Out := runSeq (movToMoffs 16 mo) s

/-- MOV moffs32,EAX : `A3` with OS=32 (R256). -/
def execMovMoffs32Eax (mo : Moffs) (s : State) : Out := runSeq (movToMoffs 32 mo) s

/-- MOV r8,imm8 : `B0+rb ib` (R256). -/
def execMovR8Imm8 (r : Reg) (imm : BitVec 8) (s : State) : Out := runSeq (setReg 8 r imm) s

/-- MOV r16,imm16 : `B8+rw iw` with OS=16 (R256). -/
def execMovR16Imm16 (r : Reg) (imm : BitVec 16) (s : State) : Out := runSeq (setReg 16 r imm) s

/-- MOV r32,imm32 : `B8+rd id` with OS=32 (R256). -/
def execMovR32Imm32 (r : Reg) (imm : BitVec 32) (s : State) : Out := runSeq (setReg 32 r imm) s

/-- MOV r/m8,imm8 : `C6 /0 ib` (R256). -/
def execMovRm8Imm8 (rm : RM) (imm : BitVec 8) (s : State) : Out := runSeq (writeRM 8 rm imm) s

/-- MOV r/m16,imm16 : `C7 /0 iw` with OS=16 (R256). -/
def execMovRm16Imm16 (rm : RM) (imm : BitVec 16) (s : State) : Out := runSeq (writeRM 16 rm imm) s

/-- MOV r/m32,imm32 : `C7 /0 id` with OS=32 (R256). -/
def execMovRm32Imm32 (rm : RM) (imm : BitVec 32) (s : State) : Out := runSeq (writeRM 32 rm imm) s

/-- MOVSX r16,r/m8 : `0F BE /r` with OS=16 (R257). -/
def execMovsxR16Rm8 (r : Reg) (rm : RM) (s : State) : Out := runSeq (movsxOp 8 16 r rm) s

/-- MOVSX r32,r/m8 : `0F BE /r` with OS=32 (R257). -/
def execMovsxR32Rm8 (r : Reg) (rm : RM) (s : State) : Out := runSeq (movsxOp 8 32 r rm) s

/-- MOVSX r32,r/m16 : `0F BF /r` with OS=32 (R257). -/
def execMovsxR32Rm16 (r : Reg) (rm : RM) (s : State) : Out := runSeq (movsxWordOp r rm) s

/-- MOVZX r16,r/m8 : `0F B6 /r` with OS=16 (R258). -/
def execMovzxR16Rm8 (r : Reg) (rm : RM) (s : State) : Out := runSeq (movzxOp 8 16 r rm) s

/-- MOVZX r32,r/m8 : `0F B6 /r` with OS=32 (R258). -/
def execMovzxR32Rm8 (r : Reg) (rm : RM) (s : State) : Out := runSeq (movzxOp 8 32 r rm) s

/-- MOVZX r32,r/m16 : `0F B7 /r` with OS=32 (R258). -/
def execMovzxR32Rm16 (r : Reg) (rm : RM) (s : State) : Out := runSeq (movzxWordOp r rm) s

/-- POP m16 : `8F /0` with OS=16 (R259). -/
def execPopM16 (rm : RM) (s : State) : Out := runSeq (popRM 16 rm) s

/-- POP m32 : `8F /0` with OS=32 (R259). -/
def execPopM32 (rm : RM) (s : State) : Out := runSeq (popRM 32 rm) s

/-- POP r16 : `58+rw` with OS=16 (R259). -/
def execPopR16 (r : Reg) (s : State) : Out := runSeq (popRM 16 (.reg r)) s

/-- POP r32 : `58+rd` with OS=32 (R259). -/
def execPopR32 (r : Reg) (s : State) : Out := runSeq (popRM 32 (.reg r)) s

/-- POP DS : `1F` (R259). -/
def execPopDs (s : State) : Out := runSeq (popSeg .ds) s

/-- POP ES : `07` (R259). -/
def execPopEs (s : State) : Out := runSeq (popSeg .es) s

/-- POP SS : `17` (R259). -/
def execPopSs (s : State) : Out := runSeq (popSeg .ss) s

/-- POP FS : `0F A1` (R259). -/
def execPopFs (s : State) : Out := runSeq (popSeg .fs) s

/-- POP GS : `0F A9` (R259). -/
def execPopGs (s : State) : Out := runSeq (popSeg .gs) s

/-- POPA : `61` with OS=16 (R260). -/
def execPopa (s : State) : Out := runSeq (popaOp 16) s

/-- POPAD : `61` with OS=32 (R260). -/
def execPopad (s : State) : Out := runSeq (popaOp 32) s

/-- PUSH r/m16 : `FF /6` with OS=16 (R261). -/
def execPushRm16 (rm : RM) (s : State) : Out := runSeq (pushRM 16 rm) s

/-- PUSH r/m32 : `FF /6` with OS=32 (R261). -/
def execPushRm32 (rm : RM) (s : State) : Out := runSeq (pushRM 32 rm) s

/-- PUSH r16 : `50+rw` with OS=16 (R261). -/
def execPushR16 (r : Reg) (s : State) : Out := runSeq (pushRM 16 (.reg r)) s

/-- PUSH r32 : `50+rd` with OS=32 (R261). -/
def execPushR32 (r : Reg) (s : State) : Out := runSeq (pushRM 32 (.reg r)) s

/-- PUSH imm8 : `6A ib` (R261). -/
def execPushImm8 (imm : BitVec 8) (s : State) : Out := runSeq (pushSx imm) s

/-- PUSH imm16 : `68 iw` with OS=16 (R261). -/
def execPushImm16 (imm : BitVec 16) (s : State) : Out := runSeq (pushValue 16 imm) s

/-- PUSH imm32 : `68 id` with OS=32 (R261). -/
def execPushImm32 (imm : BitVec 32) (s : State) : Out := runSeq (pushValue 32 imm) s

/-- PUSH CS : `0E` (R261). -/
def execPushCs (s : State) : Out := runSeq (pushSeg .cs) s

/-- PUSH SS : `16` (R261). -/
def execPushSs (s : State) : Out := runSeq (pushSeg .ss) s

/-- PUSH DS : `1E` (R261). -/
def execPushDs (s : State) : Out := runSeq (pushSeg .ds) s

/-- PUSH ES : `06` (R261). -/
def execPushEs (s : State) : Out := runSeq (pushSeg .es) s

/-- PUSH FS : `0F A0` (R261). -/
def execPushFs (s : State) : Out := runSeq (pushSeg .fs) s

/-- PUSH GS : `0F A8` (R261). -/
def execPushGs (s : State) : Out := runSeq (pushSeg .gs) s

/-- PUSHA : `60` with OS=16 (R263). -/
def execPusha (s : State) : Out := runSeq (pushaOp 16) s

/-- PUSHAD : `60` with OS=32 (R263). -/
def execPushad (s : State) : Out := runSeq (pushaOp 32) s

/-- XADD r/m8,r8 : `0F C0 /r` (R264). -/
def execXaddRm8R8 (rm : RM) (r : Reg) (s : State) : Out := runSeq (xaddOp 8 rm r) s

/-- XADD r/m16,r16 : `0F C1 /r` with OS=16 (R264). -/
def execXaddRm16R16 (rm : RM) (r : Reg) (s : State) : Out := runSeq (xaddOp 16 rm r) s

/-- XADD r/m32,r32 : `0F C1 /r` with OS=32 (R264). -/
def execXaddRm32R32 (rm : RM) (r : Reg) (s : State) : Out := runSeq (xaddOp 32 rm r) s

/-- XCHG AX,r16 : `90+rw` with OS=16 (R265). -/
def execXchgAxR16 (r : Reg) (s : State) : Out := runSeq (xchgAcc 16 r) s

/-- XCHG EAX,r32 : `90+rd` with OS=32 (R265). -/
def execXchgEaxR32 (r : Reg) (s : State) : Out := runSeq (xchgAcc 32 r) s

/-- XCHG r/m8,r8 : `86 /r` (R265). -/
def execXchgRm8R8 (rm : RM) (r : Reg) (s : State) : Out := runSeq (xchgOp 8 rm r) s

/-- XCHG r/m16,r16 : `87 /r` with OS=16 (R265). -/
def execXchgRm16R16 (rm : RM) (r : Reg) (s : State) : Out := runSeq (xchgOp 16 rm r) s

/-- XCHG r/m32,r32 : `87 /r` with OS=32 (R265). -/
def execXchgRm32R32 (rm : RM) (r : Reg) (s : State) : Out := runSeq (xchgOp 32 rm r) s

/-- XLAT m8 : `D7` (R266). -/
def execXlat (s : State) : Out := runSeq xlatOp s

end Sys2Proof.Machine
end

