-- ==== Sys2Proof/Machine/FlagSeg.lean ====
section
/-! DEFINITION. Flag control, far-pointer loads, LEA, NOP and CPUID (45_flag_segment_misc.md R480 to R496). -/

namespace Sys2Proof.Machine

/-! ## EFLAGS -/

/-- The privilege check of CLI and STI: CPL <= IOPL in protected mode, IOPL = 3 in virtual-8086 mode (R482, R496). -/
def needIopl : M Unit := do
  let s ← get
  stopIf (s.pe && (if s.flags.vm then s.flags.iopl != 3#2 else s.aboveIopl)) (excGP 0#16)

/-- The check of PUSHF and POPF: IOPL = 3 in virtual-8086 mode (R491, R492). -/
def needV86Iopl : M Unit := do
  let s ← get
  stopIf (s.flags.vm && s.flags.iopl != 3#2) (excGP 0#16)

/-- The bits of EFLAGS that POPF and POPFD write (R491). Real-address mode counts as CPL 0. -/
def popfMask (s : State) (wide : Bool) : DWord :=
  0x4DD5#32 ||| (if wide then 0x240000#32 else 0#32) |||
    (if s.flags.vm then 0x200#32
     else (if s.privileged then 0x3000#32 else 0#32) |||
       (if s.isReal || !s.aboveIopl then 0x200#32 else 0#32))

/-- POPF and POPFD (R491). -/
def popfOp (w : Nat) : M Unit := do
  needV86Iopl
  let s ← get
  let v ← pop (bytesOf w)
  setFlags fun f =>
    let f := f.load (BitVec.ofNat 32 v) (popfMask s (w == 32))
    if w == 32 && !s.flags.vm then { f with vip := false, vif := false } else f

/-- PUSHF and PUSHFD (R492). -/
def pushfOp (w : Nat) : M Unit := do
  needV86Iopl
  let s ← get
  push (bytesOf w) (if w = 32 then (s.flags.toWord &&& 0x00FCFFFF#32).toNat else s.flags.toWord.toNat % 2 ^ 16)

/-- CLI (R482). -/
def cliOp : M Unit := do
  needIopl
  setFlags fun f => { f with ifl := false }

/-- STI (R496): an STI that sets IF opens the window of one instruction (60_exceptions.md R852). -/
def stiOp : M Unit := do
  needIopl
  modify fun s => { s with flags := { s.flags with ifl := true },
                           inhibit := if s.flags.ifl then .none else .sti }

/-- LAHF (R484). -/
def lahfOp : M Unit := do
  let s ← get
  setReg 8 rAH (s.flags.toWord.setWidth 8)

/-- SAHF (R493). -/
def sahfOp : M Unit := do
  let ah ← getReg 8 rAH
  setFlags fun f => f.load (ah.setWidth 32) 0xD5#32

/-! ## Far pointers and addresses -/

/-- LDS, LES, LFS, LGS and LSS (R485). -/
def loadFarPtr (w : Nat) (sr : SegReg) (r : Reg) (ea : Ea) : M Unit := do
  let (sel, off) ← readFar w ea
  loadSeg sr sel
  setReg w r (off.setWidth w)

/-- LEA (R486). -/
def leaOp (w : Nat) (r : Reg) (ea : Ea) : M Unit := do
  let s ← get
  setReg w r ((eaOffset s.gpr ea).setWidth w)

/-! ## CPUID -/

/-- The feature flags of CPUID(1): the reserved bits 10, 11 and 31:16 are free (R488; log 25). -/
def cpuidFeatures (free : DWord) : DWord :=
  0xF1FF#32 ||| (if Config.apicEnabled then 0x200#32 else 0#32) ||| (free &&& 0xFFFF0C00#32)

/-- The four answers of CPUID for an input, with four free doublewords for what is reserved (R487, R489; log 25). -/
def cpuidAnswer (input : DWord) (a b c d : DWord) : DWord × DWord × DWord × DWord :=
  if input = 0#32 then (2#32, 0x756E6547#32, 0x6C65746E#32, 0x49656E69#32)
  else if input = 1#32 then
    ((Config.cpuidSignature &&& 0x3FFF#32) ||| (a &&& 0xFFFFC000#32), b, c, cpuidFeatures d)
  else if input = 2#32 then Config.cpuidCache
  else (a, b, c, d)

/-- CPUID (R487): EAX, EBX, ECX and EDX are written for every input. -/
def cpuidOp : M Unit := do
  let input ← getReg 32 rA
  let a ← freeBits 32
  let b ← freeBits 32
  let c ← freeBits 32
  let d ← freeBits 32
  let (va, vb, vc, vd) := cpuidAnswer input a b c d
  setReg 32 rA va
  setReg 32 rB vb
  setReg 32 rC vc
  setReg 32 rD vd

/-- CLC : `F8` (R480). -/
def execClc (s : State) : Out := runSeq (setFlags fun f => { f with cf := false }) s

/-- CLD : `FC` (R481). -/
def execCld (s : State) : Out := runSeq (setFlags fun f => { f with df := false }) s

/-- CLI : `FA` (R482). -/
def execCli (s : State) : Out := runSeq cliOp s

/-- CMC : `F5` (R483). -/
def execCmc (s : State) : Out := runSeq (setFlags fun f => { f with cf := !f.cf }) s

/-- LAHF : `9F` (R484). -/
def execLahf (s : State) : Out := runSeq lahfOp s

/-- LDS r16,m16:16 : `C5 /r` with OS=16 (R485). -/
def execLdsR16M16x16 (r : Reg) (ea : Ea) (s : State) : Out := runSeq (loadFarPtr 16 .ds r ea) s

/-- LDS r32,m16:32 : `C5 /r` with OS=32 (R485). -/
def execLdsR32M16x32 (r : Reg) (ea : Ea) (s : State) : Out := runSeq (loadFarPtr 32 .ds r ea) s

/-- LSS r16,m16:16 : `0F B2 /r` with OS=16 (R485). -/
def execLssR16M16x16 (r : Reg) (ea : Ea) (s : State) : Out := runSeq (loadFarPtr 16 .ss r ea) s

/-- LSS r32,m16:32 : `0F B2 /r` with OS=32 (R485). -/
def execLssR32M16x32 (r : Reg) (ea : Ea) (s : State) : Out := runSeq (loadFarPtr 32 .ss r ea) s

/-- LES r16,m16:16 : `C4 /r` with OS=16 (R485). -/
def execLesR16M16x16 (r : Reg) (ea : Ea) (s : State) : Out := runSeq (loadFarPtr 16 .es r ea) s

/-- LES r32,m16:32 : `C4 /r` with OS=32 (R485). -/
def execLesR32M16x32 (r : Reg) (ea : Ea) (s : State) : Out := runSeq (loadFarPtr 32 .es r ea) s

/-- LFS r16,m16:16 : `0F B4 /r` with OS=16 (R485). -/
def execLfsR16M16x16 (r : Reg) (ea : Ea) (s : State) : Out := runSeq (loadFarPtr 16 .fs r ea) s

/-- LFS r32,m16:32 : `0F B4 /r` with OS=32 (R485). -/
def execLfsR32M16x32 (r : Reg) (ea : Ea) (s : State) : Out := runSeq (loadFarPtr 32 .fs r ea) s

/-- LGS r16,m16:16 : `0F B5 /r` with OS=16 (R485). -/
def execLgsR16M16x16 (r : Reg) (ea : Ea) (s : State) : Out := runSeq (loadFarPtr 16 .gs r ea) s

/-- LGS r32,m16:32 : `0F B5 /r` with OS=32 (R485). -/
def execLgsR32M16x32 (r : Reg) (ea : Ea) (s : State) : Out := runSeq (loadFarPtr 32 .gs r ea) s

/-- LEA r16,m : `8D /r` with OS=16 (R486). -/
def execLeaR16M (r : Reg) (ea : Ea) (s : State) : Out := runSeq (leaOp 16 r ea) s

/-- LEA r32,m : `8D /r` with OS=32 (R486). -/
def execLeaR32M (r : Reg) (ea : Ea) (s : State) : Out := runSeq (leaOp 32 r ea) s

/-- CPUID : `0F A2` (R487). -/
def execCpuid (s : State) : Out := runSeq cpuidOp s

/-- NOP : `90` (R490). -/
def execNop (s : State) : Out := runSeq (pure ()) s

/-- POPF : `9D` with OS=16 (R491). -/
def execPopf (s : State) : Out := runSeq (popfOp 16) s

/-- POPFD : `9D` with OS=32 (R491). -/
def execPopfd (s : State) : Out := runSeq (popfOp 32) s

/-- PUSHF : `9C` with OS=16 (R492). -/
def execPushf (s : State) : Out := runSeq (pushfOp 16) s

/-- PUSHFD : `9C` with OS=32 (R492). -/
def execPushfd (s : State) : Out := runSeq (pushfOp 32) s

/-- SAHF : `9E` (R493). -/
def execSahf (s : State) : Out := runSeq sahfOp s

/-- STC : `F9` (R494). -/
def execStc (s : State) : Out := runSeq (setFlags fun f => { f with cf := true }) s

/-- STD : `FD` (R495). -/
def execStd (s : State) : Out := runSeq (setFlags fun f => { f with df := true }) s

/-- STI : `FB` (R496). -/
def execSti (s : State) : Out := runSeq stiOp s

end Sys2Proof.Machine
end

