-- ==== Sys2Proof/Decode.lean ====
section
/-! DEFINITION. The decoder (30_encoding.md R170, R171, R181 to R185, R190, R191, R214 to R217, R220 to R223, R230),
total on any bytes, and the encoder written from the same tables. A decoder answer is an instruction with the bytes
left over, "undefined" (#UD, or #NM first for an ESC opcode), or "short": a byte it needs is not there. -/

namespace Sys2Proof

/-- What the decoder reads from the bytes at CS:EIP after the prefixes read so far. -/
inductive Decoded where
  /-- The instruction, and the bytes after it. -/
  | ok (i : Instr) (rest : List Byte)
  /-- No entry of R220 to R223 (R230); `esc` when it is an undefined floating-point opcode, which takes #NM first
  (R223). -/
  | undef (esc : Bool)
  /-- A byte that the decision needs lies beyond the bytes that can be fetched (92_eei_decisions.md D83). -/
  | short
deriving DecidableEq, Repr

/-- ModR/M.mod, bits 7:6 (R181). -/
def modField (b : Byte) : BitVec 2 := b.extractLsb' 6 2

/-- ModR/M.reg, bits 5:3 (R181). -/
def regField (b : Byte) : BitVec 3 := b.extractLsb' 3 3

/-- ModR/M.r/m, bits 2:0 (R181). -/
def rmField (b : Byte) : BitVec 3 := b.extractLsb' 0 3

/-- Fetch one immediate byte (R214). -/
def imm8 (k : List Byte) (f : Byte → List Byte → Decoded) : Decoded :=
  match k with
  | b :: k => f b k
  | [] => .short

/-- Fetch a word, low-order byte first (R214). -/
def imm16 (k : List Byte) (f : Word → List Byte → Decoded) : Decoded :=
  match k with
  | a :: b :: k => f (b ++ a) k
  | _ => .short

/-- Fetch a doubleword, low-order byte first (R214). -/
def imm32 (k : List Byte) (f : DWord → List Byte → Decoded) : Decoded :=
  match k with
  | a :: b :: c :: d :: k => f (d ++ c ++ b ++ a) k
  | _ => .short

/-- Fetch the ModR/M byte (R171 step 4). -/
def modrm (k : List Byte) (f : Byte → List Byte → Decoded) : Decoded := imm8 k f

/-- Fetch the offset of a moffs form: AS/8 bytes (R216). -/
def moffs (c : Ctx) (k : List Byte) (f : Moffs → List Byte → Decoded) : Decoded :=
  if c.as32 then imm32 k fun o k => f (.o32 o) k else imm16 k fun o k => f (.o16 o) k

/-- The addressing bytes after a ModR/M byte with mod other than 11B and AS = 16 (R190). -/
def ea16 (b : Byte) (k : List Byte) (f : Ea → List Byte → Decoded) : Decoded :=
  match (modField b).toNat with
  | 0 => if rmField b = 6#3 then imm16 k fun d k => f (.abs16 d) k else f (.a16 (rmField b) .none) k
  | 1 => imm8 k fun d k => f (.a16 (rmField b) (.d8 d)) k
  | _ => imm16 k fun d k => f (.a16 (rmField b) (.d16 d)) k

/-- The displacement after a SIB byte `s` (R191). -/
def sibDisp (b s : Byte) (k : List Byte) (f : Ea → List Byte → Decoded) : Decoded :=
  match (modField b).toNat with
  | 0 =>
    if rmField s = 5#3 then imm32 k fun d k => f (.sibNoBase (modField s) (regField s) d) k
    else f (.sib (modField s) (regField s) (rmField s) .none) k
  | 1 => imm8 k fun d k => f (.sib (modField s) (regField s) (rmField s) (.d8 d)) k
  | _ => imm32 k fun d k => f (.sib (modField s) (regField s) (rmField s) (.d32 d)) k

/-- The addressing bytes after a ModR/M byte with mod other than 11B and AS = 32 (R191, SIB layout R182). -/
def ea32 (b : Byte) (k : List Byte) (f : Ea → List Byte → Decoded) : Decoded :=
  if rmField b = 4#3 then imm8 k fun s k => sibDisp b s k f
  else
    match (modField b).toNat with
    | 0 => if rmField b = 5#3 then imm32 k fun d k => f (.abs32 d) k else f (.a32 (rmField b) .none) k
    | 1 => imm8 k fun d k => f (.a32 (rmField b) (.d8 d)) k
    | _ => imm32 k fun d k => f (.a32 (rmField b) (.d32 d)) k

/-- A form that requires a memory operand: mod = 11B is undefined (R194). -/
def withEa (c : Ctx) (b : Byte) (k : List Byte) (f : Ea → List Byte → Decoded) : Decoded :=
  if modField b = 3#2 then .undef false
  else if c.as32 then ea32 b k f else ea16 b k f

/-- An r/m operand (R181, R193). -/
def withRM (c : Ctx) (b : Byte) (k : List Byte) (f : RM → List Byte → Decoded) : Decoded :=
  if modField b = 3#2 then f (.reg (rmField b)) k
  else if c.as32 then ea32 b k fun e k => f (.mem e) k else ea16 b k fun e k => f (.mem e) k

/-- The segment register that ModR/M.reg names; codes 6 and 7 name none (R184). -/
def segOf (n : BitVec 3) : Option SegReg :=
  match n.toNat with
  | 0 => some .es
  | 1 => some .cs
  | 2 => some .ss
  | 3 => some .ds
  | 4 => some .fs
  | 5 => some .gs
  | _ => none

/-- A form whose ModR/M.reg is a segment register (R184). -/
def withSeg (b : Byte) (f : SegReg → Decoded) : Decoded :=
  match segOf (regField b) with
  | some s => f s
  | none => .undef false

/-- The ESC opcode D8H (R223): register forms by the whole ModR/M byte, memory forms by its reg field. -/
noncomputable def escD8 (c : Ctx) (b : Byte) (k : List Byte) : Decoded :=
  if modField b = 3#2 then
    match (regField b).toNat with
    | 0 => .ok (.faddSt0Sti (rmField b)) k
    | 1 => .ok (.fmulSt0Sti (rmField b)) k
    | 2 => .ok (.fcomSti (rmField b)) k
    | 3 => .ok (.fcompSti (rmField b)) k
    | 4 => .ok (.fsubSt0Sti (rmField b)) k
    | 5 => .ok (.fsubrSt0Sti (rmField b)) k
    | 6 => .ok (.fdivSt0Sti (rmField b)) k
    | 7 => .ok (.fdivrSt0Sti (rmField b)) k
    | _ => .undef true
  else
    match (regField b).toNat with
    | 0 => withEa c b k fun ea k => .ok (.faddM32real ea) k
    | 1 => withEa c b k fun ea k => .ok (.fmulM32real ea) k
    | 2 => withEa c b k fun ea k => .ok (.fcomM32real ea) k
    | 3 => withEa c b k fun ea k => .ok (.fcompM32real ea) k
    | 4 => withEa c b k fun ea k => .ok (.fsubM32real ea) k
    | 5 => withEa c b k fun ea k => .ok (.fsubrM32real ea) k
    | 6 => withEa c b k fun ea k => .ok (.fdivM32real ea) k
    | 7 => withEa c b k fun ea k => .ok (.fdivrM32real ea) k
    | _ => .undef true

/-- The ESC opcode D9H (R223): register forms by the whole ModR/M byte, memory forms by its reg field. -/
noncomputable def escD9 (c : Ctx) (b : Byte) (k : List Byte) : Decoded :=
  if modField b = 3#2 then
    match (regField b).toNat with
    | 0 => .ok (.fldSti (rmField b)) k
    | 1 => .ok (.fxchSti (rmField b)) k
    | 2 =>
      match (rmField b).toNat with
      | 0 => .ok .fnop k
      | _ => .undef true
    | 4 =>
      match (rmField b).toNat with
      | 0 => .ok .fchs k
      | 1 => .ok .fabs k
      | 4 => .ok .ftst k
      | 5 => .ok .fxam k
      | _ => .undef true
    | 5 =>
      match (rmField b).toNat with
      | 0 => .ok .fld1 k
      | 1 => .ok .fldl2t k
      | 2 => .ok .fldl2e k
      | 3 => .ok .fldpi k
      | 4 => .ok .fldlg2 k
      | 5 => .ok .fldln2 k
      | 6 => .ok .fldz k
      | _ => .undef true
    | 6 =>
      match (rmField b).toNat with
      | 0 => .ok .f2xm1 k
      | 1 => .ok .fyl2x k
      | 2 => .ok .fptan k
      | 3 => .ok .fpatan k
      | 4 => .ok .fxtract k
      | 5 => .ok .fprem1 k
      | 6 => .ok .fdecstp k
      | 7 => .ok .fincstp k
      | _ => .undef true
    | 7 =>
      match (rmField b).toNat with
      | 0 => .ok .fprem k
      | 1 => .ok .fyl2xp1 k
      | 2 => .ok .fsqrt k
      | 3 => .ok .fsincos k
      | 4 => .ok .frndint k
      | 5 => .ok .fscale k
      | 6 => .ok .fsin k
      | 7 => .ok .fcos k
      | _ => .undef true
    | _ => .undef true
  else
    match (regField b).toNat with
    | 0 => withEa c b k fun ea k => .ok (.fldM32real ea) k
    | 2 => withEa c b k fun ea k => .ok (.fstM32real ea) k
    | 3 => withEa c b k fun ea k => .ok (.fstpM32real ea) k
    | 4 => withEa c b k fun ea k => .ok (.fldenvMEnv ea) k
    | 5 => withEa c b k fun ea k => .ok (.fldcwM2byte ea) k
    | 6 => withEa c b k fun ea k => .ok (.fnstenvMEnv ea) k
    | 7 => withEa c b k fun ea k => .ok (.fnstcwM2byte ea) k
    | _ => .undef true

/-- The ESC opcode DAH (R223): register forms by the whole ModR/M byte, memory forms by its reg field. -/
noncomputable def escDA (c : Ctx) (b : Byte) (k : List Byte) : Decoded :=
  if modField b = 3#2 then
    match (regField b).toNat with
    | 0 => .ok (.fcmovbSt0Sti (rmField b)) k
    | 1 => .ok (.fcmoveSt0Sti (rmField b)) k
    | 2 => .ok (.fcmovbeSt0Sti (rmField b)) k
    | 3 => .ok (.fcmovuSt0Sti (rmField b)) k
    | 5 =>
      match (rmField b).toNat with
      | 1 => .ok .fucompp k
      | _ => .undef true
    | _ => .undef true
  else
    match (regField b).toNat with
    | 0 => withEa c b k fun ea k => .ok (.fiaddM32int ea) k
    | 1 => withEa c b k fun ea k => .ok (.fimulM32int ea) k
    | 2 => withEa c b k fun ea k => .ok (.ficomM32int ea) k
    | 3 => withEa c b k fun ea k => .ok (.ficompM32int ea) k
    | 4 => withEa c b k fun ea k => .ok (.fisubM32int ea) k
    | 5 => withEa c b k fun ea k => .ok (.fisubrM32int ea) k
    | 6 => withEa c b k fun ea k => .ok (.fidivM32int ea) k
    | 7 => withEa c b k fun ea k => .ok (.fidivrM32int ea) k
    | _ => .undef true

/-- The ESC opcode DBH (R223): register forms by the whole ModR/M byte, memory forms by its reg field. -/
noncomputable def escDB (c : Ctx) (b : Byte) (k : List Byte) : Decoded :=
  if modField b = 3#2 then
    match (regField b).toNat with
    | 0 => .ok (.fcmovnbSt0Sti (rmField b)) k
    | 1 => .ok (.fcmovneSt0Sti (rmField b)) k
    | 2 => .ok (.fcmovnbeSt0Sti (rmField b)) k
    | 3 => .ok (.fcmovnuSt0Sti (rmField b)) k
    | 4 =>
      match (rmField b).toNat with
      | 0 => .ok .feni k
      | 1 => .ok .fdisi k
      | 2 => .ok .fnclex k
      | 3 => .ok .fninit k
      | 4 => .ok .fsetpm k
      | _ => .undef true
    | 5 => .ok (.fucomiSt0Sti (rmField b)) k
    | 6 => .ok (.fcomiSt0Sti (rmField b)) k
    | _ => .undef true
  else
    match (regField b).toNat with
    | 0 => withEa c b k fun ea k => .ok (.fildM32int ea) k
    | 2 => withEa c b k fun ea k => .ok (.fistM32int ea) k
    | 3 => withEa c b k fun ea k => .ok (.fistpM32int ea) k
    | 5 => withEa c b k fun ea k => .ok (.fldM80real ea) k
    | 7 => withEa c b k fun ea k => .ok (.fstpM80real ea) k
    | _ => .undef true

/-- The ESC opcode DCH (R223): register forms by the whole ModR/M byte, memory forms by its reg field. -/
noncomputable def escDC (c : Ctx) (b : Byte) (k : List Byte) : Decoded :=
  if modField b = 3#2 then
    match (regField b).toNat with
    | 0 => .ok (.faddStiSt0 (rmField b)) k
    | 1 => .ok (.fmulStiSt0 (rmField b)) k
    | 4 => .ok (.fsubrStiSt0 (rmField b)) k
    | 5 => .ok (.fsubStiSt0 (rmField b)) k
    | 6 => .ok (.fdivrStiSt0 (rmField b)) k
    | 7 => .ok (.fdivStiSt0 (rmField b)) k
    | _ => .undef true
  else
    match (regField b).toNat with
    | 0 => withEa c b k fun ea k => .ok (.faddM64real ea) k
    | 1 => withEa c b k fun ea k => .ok (.fmulM64real ea) k
    | 2 => withEa c b k fun ea k => .ok (.fcomM64real ea) k
    | 3 => withEa c b k fun ea k => .ok (.fcompM64real ea) k
    | 4 => withEa c b k fun ea k => .ok (.fsubM64real ea) k
    | 5 => withEa c b k fun ea k => .ok (.fsubrM64real ea) k
    | 6 => withEa c b k fun ea k => .ok (.fdivM64real ea) k
    | 7 => withEa c b k fun ea k => .ok (.fdivrM64real ea) k
    | _ => .undef true

/-- The ESC opcode DDH (R223): register forms by the whole ModR/M byte, memory forms by its reg field. -/
noncomputable def escDD (c : Ctx) (b : Byte) (k : List Byte) : Decoded :=
  if modField b = 3#2 then
    match (regField b).toNat with
    | 0 => .ok (.ffreeSti (rmField b)) k
    | 2 => .ok (.fstSti (rmField b)) k
    | 3 => .ok (.fstpSti (rmField b)) k
    | 4 => .ok (.fucomSti (rmField b)) k
    | 5 => .ok (.fucompSti (rmField b)) k
    | _ => .undef true
  else
    match (regField b).toNat with
    | 0 => withEa c b k fun ea k => .ok (.fldM64real ea) k
    | 2 => withEa c b k fun ea k => .ok (.fstM64real ea) k
    | 3 => withEa c b k fun ea k => .ok (.fstpM64real ea) k
    | 4 => withEa c b k fun ea k => .ok (.frstorMState ea) k
    | 6 => withEa c b k fun ea k => .ok (.fnsaveMState ea) k
    | 7 => withEa c b k fun ea k => .ok (.fnstswM2byte ea) k
    | _ => .undef true

/-- The ESC opcode DEH (R223): register forms by the whole ModR/M byte, memory forms by its reg field. -/
noncomputable def escDE (c : Ctx) (b : Byte) (k : List Byte) : Decoded :=
  if modField b = 3#2 then
    match (regField b).toNat with
    | 0 => .ok (.faddpStiSt0 (rmField b)) k
    | 1 => .ok (.fmulpStiSt0 (rmField b)) k
    | 3 =>
      match (rmField b).toNat with
      | 1 => .ok .fcompp k
      | _ => .undef true
    | 4 => .ok (.fsubrpStiSt0 (rmField b)) k
    | 5 => .ok (.fsubpStiSt0 (rmField b)) k
    | 6 => .ok (.fdivrpStiSt0 (rmField b)) k
    | 7 => .ok (.fdivpStiSt0 (rmField b)) k
    | _ => .undef true
  else
    match (regField b).toNat with
    | 0 => withEa c b k fun ea k => .ok (.fiaddM16int ea) k
    | 1 => withEa c b k fun ea k => .ok (.fimulM16int ea) k
    | 2 => withEa c b k fun ea k => .ok (.ficomM16int ea) k
    | 3 => withEa c b k fun ea k => .ok (.ficompM16int ea) k
    | 4 => withEa c b k fun ea k => .ok (.fisubM16int ea) k
    | 5 => withEa c b k fun ea k => .ok (.fisubrM16int ea) k
    | 6 => withEa c b k fun ea k => .ok (.fidivM16int ea) k
    | 7 => withEa c b k fun ea k => .ok (.fidivrM16int ea) k
    | _ => .undef true

/-- The ESC opcode DFH (R223): register forms by the whole ModR/M byte, memory forms by its reg field. -/
noncomputable def escDF (c : Ctx) (b : Byte) (k : List Byte) : Decoded :=
  if modField b = 3#2 then
    match (regField b).toNat with
    | 4 =>
      match (rmField b).toNat with
      | 0 => .ok .fnstswAx k
      | _ => .undef true
    | 5 => .ok (.fucomipSt0Sti (rmField b)) k
    | 6 => .ok (.fcomipSt0Sti (rmField b)) k
    | _ => .undef true
  else
    match (regField b).toNat with
    | 0 => withEa c b k fun ea k => .ok (.fildM16int ea) k
    | 2 => withEa c b k fun ea k => .ok (.fistM16int ea) k
    | 3 => withEa c b k fun ea k => .ok (.fistpM16int ea) k
    | 4 => withEa c b k fun ea k => .ok (.fbldM80dec ea) k
    | 5 => withEa c b k fun ea k => .ok (.fildM64int ea) k
    | 6 => withEa c b k fun ea k => .ok (.fbstpM80bcd ea) k
    | 7 => withEa c b k fun ea k => .ok (.fistpM64int ea) k
    | _ => .undef true

/-- The composite forms of the opcode table (R223): WAIT directly followed by the non-waiting instruction. -/
noncomputable def compositeForm (c : Ctx) (op b : Byte) (k : List Byte) : Decoded :=
  if op = 0xdb#8 ∧ b = 0xe2#8 then .ok .fclex k
  else if op = 0xdb#8 ∧ b = 0xe3#8 then .ok .finit k
  else if op = 0xdd#8 ∧ modField b ≠ 3#2 ∧ regField b = 6#3 then withEa c b k fun ea k => .ok (.fsaveMState ea) k
  else if op = 0xd9#8 ∧ modField b ≠ 3#2 ∧ regField b = 7#3 then withEa c b k fun ea k => .ok (.fstcwM2byte ea) k
  else if op = 0xd9#8 ∧ modField b ≠ 3#2 ∧ regField b = 6#3 then withEa c b k fun ea k => .ok (.fstenvMEnv ea) k
  else if op = 0xdd#8 ∧ modField b ≠ 3#2 ∧ regField b = 7#3 then withEa c b k fun ea k => .ok (.fstswM2byte ea) k
  else if op = 0xdf#8 ∧ b = 0xe0#8 then .ok .fstswAx k
  else .short

/-- The byte 9BH: a composite form when no prefix precedes it and the bytes after it complete one, else WAIT (R223,
R725). Log 10. -/
noncomputable def waitOr (c : Ctx) (k : List Byte) : Decoded :=
  match k with
  | op :: b :: rest =>
    if c.plain then
      match compositeForm c op b rest with
      | .ok i r => .ok i r
      | _ => .ok .wait k
    else .ok .wait k
  | _ => .ok .wait k

/-- Two-byte opcodes 0F 00 to 0F 0F (R221, R222). -/
noncomputable def two0 (c : Ctx) (lo : Nat) (k : List Byte) : Decoded :=
  match lo with
  | 0 => modrm k fun b k =>
    match (regField b).toNat with
    | 0 => if c.os32 then withRM c b k fun rm k => .ok (.sldtRm32 rm) k else withRM c b k fun rm k => .ok (.sldtRm16 rm) k
    | 1 => withRM c b k fun rm k => .ok (.strRm16 rm) k
    | 2 => withRM c b k fun rm k => .ok (.lldtRm16 rm) k
    | 3 => withRM c b k fun rm k => .ok (.ltrRm16 rm) k
    | 4 => withRM c b k fun rm k => .ok (.verrRm16 rm) k
    | 5 => withRM c b k fun rm k => .ok (.verwRm16 rm) k
    | _ => .undef false
  | 1 => modrm k fun b k =>
    match (regField b).toNat with
    | 0 => withEa c b k fun ea k => .ok (.sgdtM ea) k
    | 1 => withEa c b k fun ea k => .ok (.sidtM ea) k
    | 2 => withEa c b k fun ea k => .ok (.lgdtM16a32 ea) k
    | 3 => withEa c b k fun ea k => .ok (.lidtM16a32 ea) k
    | 4 => if c.os32 then withRM c b k fun rm k => .ok (.smswR32M16 rm) k else withRM c b k fun rm k => .ok (.smswRm16 rm) k
    | 6 => withRM c b k fun rm k => .ok (.lmswRm16 rm) k
    | 7 => withEa c b k fun ea k => .ok (.invlpgM ea) k
    | _ => .undef false
  | 2 => modrm k fun b k => if c.os32 then withRM c b k fun rm k => .ok (.larR32Rm32 (regField b) rm) k else withRM c b k fun rm k => .ok (.larR16Rm16 (regField b) rm) k
  | 3 => modrm k fun b k => if c.os32 then withRM c b k fun rm k => .ok (.lslR32Rm32 (regField b) rm) k else withRM c b k fun rm k => .ok (.lslR16Rm16 (regField b) rm) k
  | 6 => .ok .clts k
  | 8 => .ok .invd k
  | 9 => .ok .wbinvd k
  | 11 => .ok .ud2 k
  | _ => .undef false

/-- Two-byte opcodes 0F 10 to 0F 1F (R221, R222). -/
noncomputable def two1 (_ : Ctx) (_ : Nat) (_ : List Byte) : Decoded := .undef false

/-- Two-byte opcodes 0F 20 to 0F 2F (R221, R222). -/
noncomputable def two2 (_ : Ctx) (lo : Nat) (k : List Byte) : Decoded :=
  match lo with
  | 0 => modrm k fun b k => .ok (.movR32CRn (rmField b) (regField b)) k
  | 1 => modrm k fun b k => .ok (.movR32DRn (rmField b) (regField b)) k
  | 2 => modrm k fun b k => .ok (.movCRnR32 (regField b) (rmField b)) k
  | 3 => modrm k fun b k => .ok (.movDRnR32 (regField b) (rmField b)) k
  | _ => .undef false

/-- Two-byte opcodes 0F 30 to 0F 3F (R221, R222). -/
noncomputable def two3 (_ : Ctx) (lo : Nat) (k : List Byte) : Decoded :=
  match lo with
  | 0 => .ok .wrmsr k
  | 1 => .ok .rdtsc k
  | 2 => .ok .rdmsr k
  | 3 => .ok .rdpmc k
  | _ => .undef false

/-- Two-byte opcodes 0F 40 to 0F 4F (R221, R222). -/
noncomputable def two4 (c : Ctx) (lo : Nat) (k : List Byte) : Decoded :=
  match lo with
  | 0 => modrm k fun b k => if c.os32 then withRM c b k fun rm k => .ok (.cmovoR32Rm32 (regField b) rm) k else withRM c b k fun rm k => .ok (.cmovoR16Rm16 (regField b) rm) k
  | 1 => modrm k fun b k => if c.os32 then withRM c b k fun rm k => .ok (.cmovnoR32Rm32 (regField b) rm) k else withRM c b k fun rm k => .ok (.cmovnoR16Rm16 (regField b) rm) k
  | 2 => modrm k fun b k => if c.os32 then withRM c b k fun rm k => .ok (.cmovbR32Rm32 (regField b) rm) k else withRM c b k fun rm k => .ok (.cmovbR16Rm16 (regField b) rm) k
  | 3 => modrm k fun b k => if c.os32 then withRM c b k fun rm k => .ok (.cmovaeR32Rm32 (regField b) rm) k else withRM c b k fun rm k => .ok (.cmovaeR16Rm16 (regField b) rm) k
  | 4 => modrm k fun b k => if c.os32 then withRM c b k fun rm k => .ok (.cmoveR32Rm32 (regField b) rm) k else withRM c b k fun rm k => .ok (.cmoveR16Rm16 (regField b) rm) k
  | 5 => modrm k fun b k => if c.os32 then withRM c b k fun rm k => .ok (.cmovneR32Rm32 (regField b) rm) k else withRM c b k fun rm k => .ok (.cmovneR16Rm16 (regField b) rm) k
  | 6 => modrm k fun b k => if c.os32 then withRM c b k fun rm k => .ok (.cmovbeR32Rm32 (regField b) rm) k else withRM c b k fun rm k => .ok (.cmovbeR16Rm16 (regField b) rm) k
  | 7 => modrm k fun b k => if c.os32 then withRM c b k fun rm k => .ok (.cmovaR32Rm32 (regField b) rm) k else withRM c b k fun rm k => .ok (.cmovaR16Rm16 (regField b) rm) k
  | 8 => modrm k fun b k => if c.os32 then withRM c b k fun rm k => .ok (.cmovsR32Rm32 (regField b) rm) k else withRM c b k fun rm k => .ok (.cmovsR16Rm16 (regField b) rm) k
  | 9 => modrm k fun b k => if c.os32 then withRM c b k fun rm k => .ok (.cmovnsR32Rm32 (regField b) rm) k else withRM c b k fun rm k => .ok (.cmovnsR16Rm16 (regField b) rm) k
  | 10 => modrm k fun b k => if c.os32 then withRM c b k fun rm k => .ok (.cmovpR32Rm32 (regField b) rm) k else withRM c b k fun rm k => .ok (.cmovpR16Rm16 (regField b) rm) k
  | 11 => modrm k fun b k => if c.os32 then withRM c b k fun rm k => .ok (.cmovnpR32Rm32 (regField b) rm) k else withRM c b k fun rm k => .ok (.cmovnpR16Rm16 (regField b) rm) k
  | 12 => modrm k fun b k => if c.os32 then withRM c b k fun rm k => .ok (.cmovlR32Rm32 (regField b) rm) k else withRM c b k fun rm k => .ok (.cmovlR16Rm16 (regField b) rm) k
  | 13 => modrm k fun b k => if c.os32 then withRM c b k fun rm k => .ok (.cmovgeR32Rm32 (regField b) rm) k else withRM c b k fun rm k => .ok (.cmovgeR16Rm16 (regField b) rm) k
  | 14 => modrm k fun b k => if c.os32 then withRM c b k fun rm k => .ok (.cmovleR32Rm32 (regField b) rm) k else withRM c b k fun rm k => .ok (.cmovleR16Rm16 (regField b) rm) k
  | 15 => modrm k fun b k => if c.os32 then withRM c b k fun rm k => .ok (.cmovgR32Rm32 (regField b) rm) k else withRM c b k fun rm k => .ok (.cmovgR16Rm16 (regField b) rm) k
  | _ => .undef false

/-- Two-byte opcodes 0F 50 to 0F 5F (R221, R222). -/
noncomputable def two5 (_ : Ctx) (_ : Nat) (_ : List Byte) : Decoded := .undef false

/-- Two-byte opcodes 0F 60 to 0F 6F (R221, R222). -/
noncomputable def two6 (_ : Ctx) (_ : Nat) (_ : List Byte) : Decoded := .undef false

/-- Two-byte opcodes 0F 70 to 0F 7F (R221, R222). -/
noncomputable def two7 (_ : Ctx) (_ : Nat) (_ : List Byte) : Decoded := .undef false

/-- Two-byte opcodes 0F 80 to 0F 8F (R221, R222). -/
noncomputable def two8 (c : Ctx) (lo : Nat) (k : List Byte) : Decoded :=
  match lo with
  | 0 => if c.os32 then imm32 k fun rel k => .ok (.joRel32 rel) k else imm16 k fun rel k => .ok (.joRel16 rel) k
  | 1 => if c.os32 then imm32 k fun rel k => .ok (.jnoRel32 rel) k else imm16 k fun rel k => .ok (.jnoRel16 rel) k
  | 2 => if c.os32 then imm32 k fun rel k => .ok (.jbRel32 rel) k else imm16 k fun rel k => .ok (.jbRel16 rel) k
  | 3 => if c.os32 then imm32 k fun rel k => .ok (.jaeRel32 rel) k else imm16 k fun rel k => .ok (.jaeRel16 rel) k
  | 4 => if c.os32 then imm32 k fun rel k => .ok (.jeRel32 rel) k else imm16 k fun rel k => .ok (.jeRel16 rel) k
  | 5 => if c.os32 then imm32 k fun rel k => .ok (.jneRel32 rel) k else imm16 k fun rel k => .ok (.jneRel16 rel) k
  | 6 => if c.os32 then imm32 k fun rel k => .ok (.jbeRel32 rel) k else imm16 k fun rel k => .ok (.jbeRel16 rel) k
  | 7 => if c.os32 then imm32 k fun rel k => .ok (.jaRel32 rel) k else imm16 k fun rel k => .ok (.jaRel16 rel) k
  | 8 => if c.os32 then imm32 k fun rel k => .ok (.jsRel32 rel) k else imm16 k fun rel k => .ok (.jsRel16 rel) k
  | 9 => if c.os32 then imm32 k fun rel k => .ok (.jnsRel32 rel) k else imm16 k fun rel k => .ok (.jnsRel16 rel) k
  | 10 => if c.os32 then imm32 k fun rel k => .ok (.jpRel32 rel) k else imm16 k fun rel k => .ok (.jpRel16 rel) k
  | 11 => if c.os32 then imm32 k fun rel k => .ok (.jnpRel32 rel) k else imm16 k fun rel k => .ok (.jnpRel16 rel) k
  | 12 => if c.os32 then imm32 k fun rel k => .ok (.jlRel32 rel) k else imm16 k fun rel k => .ok (.jlRel16 rel) k
  | 13 => if c.os32 then imm32 k fun rel k => .ok (.jgeRel32 rel) k else imm16 k fun rel k => .ok (.jgeRel16 rel) k
  | 14 => if c.os32 then imm32 k fun rel k => .ok (.jleRel32 rel) k else imm16 k fun rel k => .ok (.jleRel16 rel) k
  | 15 => if c.os32 then imm32 k fun rel k => .ok (.jgRel32 rel) k else imm16 k fun rel k => .ok (.jgRel16 rel) k
  | _ => .undef false

/-- Two-byte opcodes 0F 90 to 0F 9F (R221, R222). -/
noncomputable def two9 (c : Ctx) (lo : Nat) (k : List Byte) : Decoded :=
  match lo with
  | 0 => modrm k fun b k => withRM c b k fun rm k => .ok (.setoRm8 rm) k
  | 1 => modrm k fun b k => withRM c b k fun rm k => .ok (.setnoRm8 rm) k
  | 2 => modrm k fun b k => withRM c b k fun rm k => .ok (.setbRm8 rm) k
  | 3 => modrm k fun b k => withRM c b k fun rm k => .ok (.setaeRm8 rm) k
  | 4 => modrm k fun b k => withRM c b k fun rm k => .ok (.seteRm8 rm) k
  | 5 => modrm k fun b k => withRM c b k fun rm k => .ok (.setneRm8 rm) k
  | 6 => modrm k fun b k => withRM c b k fun rm k => .ok (.setbeRm8 rm) k
  | 7 => modrm k fun b k => withRM c b k fun rm k => .ok (.setaRm8 rm) k
  | 8 => modrm k fun b k => withRM c b k fun rm k => .ok (.setsRm8 rm) k
  | 9 => modrm k fun b k => withRM c b k fun rm k => .ok (.setnsRm8 rm) k
  | 10 => modrm k fun b k => withRM c b k fun rm k => .ok (.setpRm8 rm) k
  | 11 => modrm k fun b k => withRM c b k fun rm k => .ok (.setnpRm8 rm) k
  | 12 => modrm k fun b k => withRM c b k fun rm k => .ok (.setlRm8 rm) k
  | 13 => modrm k fun b k => withRM c b k fun rm k => .ok (.setgeRm8 rm) k
  | 14 => modrm k fun b k => withRM c b k fun rm k => .ok (.setleRm8 rm) k
  | 15 => modrm k fun b k => withRM c b k fun rm k => .ok (.setgRm8 rm) k
  | _ => .undef false

/-- Two-byte opcodes 0F A0 to 0F AF (R221, R222). -/
noncomputable def twoA (c : Ctx) (lo : Nat) (k : List Byte) : Decoded :=
  match lo with
  | 0 => .ok .pushFs k
  | 1 => .ok .popFs k
  | 2 => .ok .cpuid k
  | 3 => modrm k fun b k => if c.os32 then withRM c b k fun rm k => .ok (.btRm32R32 rm (regField b)) k else withRM c b k fun rm k => .ok (.btRm16R16 rm (regField b)) k
  | 4 => modrm k fun b k => if c.os32 then withRM c b k fun rm k => imm8 k fun imm k => .ok (.shldRm32R32Imm8 rm (regField b) imm) k else withRM c b k fun rm k => imm8 k fun imm k => .ok (.shldRm16R16Imm8 rm (regField b) imm) k
  | 5 => modrm k fun b k => if c.os32 then withRM c b k fun rm k => .ok (.shldRm32R32Cl rm (regField b)) k else withRM c b k fun rm k => .ok (.shldRm16R16Cl rm (regField b)) k
  | 8 => .ok .pushGs k
  | 9 => .ok .popGs k
  | 10 => .ok .rsm k
  | 11 => modrm k fun b k => if c.os32 then withRM c b k fun rm k => .ok (.btsRm32R32 rm (regField b)) k else withRM c b k fun rm k => .ok (.btsRm16R16 rm (regField b)) k
  | 12 => modrm k fun b k => if c.os32 then withRM c b k fun rm k => imm8 k fun imm k => .ok (.shrdRm32R32Imm8 rm (regField b) imm) k else withRM c b k fun rm k => imm8 k fun imm k => .ok (.shrdRm16R16Imm8 rm (regField b) imm) k
  | 13 => modrm k fun b k => if c.os32 then withRM c b k fun rm k => .ok (.shrdRm32R32Cl rm (regField b)) k else withRM c b k fun rm k => .ok (.shrdRm16R16Cl rm (regField b)) k
  | 15 => modrm k fun b k => if c.os32 then withRM c b k fun rm k => .ok (.imulR32Rm32 (regField b) rm) k else withRM c b k fun rm k => .ok (.imulR16Rm16 (regField b) rm) k
  | _ => .undef false

/-- Two-byte opcodes 0F B0 to 0F BF (R221, R222). -/
noncomputable def twoB (c : Ctx) (lo : Nat) (k : List Byte) : Decoded :=
  match lo with
  | 0 => modrm k fun b k => withRM c b k fun rm k => .ok (.cmpxchgRm8R8 rm (regField b)) k
  | 1 => modrm k fun b k => if c.os32 then withRM c b k fun rm k => .ok (.cmpxchgRm32R32 rm (regField b)) k else withRM c b k fun rm k => .ok (.cmpxchgRm16R16 rm (regField b)) k
  | 2 => modrm k fun b k => if c.os32 then withEa c b k fun ea k => .ok (.lssR32M16x32 (regField b) ea) k else withEa c b k fun ea k => .ok (.lssR16M16x16 (regField b) ea) k
  | 3 => modrm k fun b k => if c.os32 then withRM c b k fun rm k => .ok (.btrRm32R32 rm (regField b)) k else withRM c b k fun rm k => .ok (.btrRm16R16 rm (regField b)) k
  | 4 => modrm k fun b k => if c.os32 then withEa c b k fun ea k => .ok (.lfsR32M16x32 (regField b) ea) k else withEa c b k fun ea k => .ok (.lfsR16M16x16 (regField b) ea) k
  | 5 => modrm k fun b k => if c.os32 then withEa c b k fun ea k => .ok (.lgsR32M16x32 (regField b) ea) k else withEa c b k fun ea k => .ok (.lgsR16M16x16 (regField b) ea) k
  | 6 => modrm k fun b k => if c.os32 then withRM c b k fun rm k => .ok (.movzxR32Rm8 (regField b) rm) k else withRM c b k fun rm k => .ok (.movzxR16Rm8 (regField b) rm) k
  | 7 => modrm k fun b k => withRM c b k fun rm k => .ok (.movzxR32Rm16 (regField b) rm) k
  | 10 => modrm k fun b k =>
    match (regField b).toNat with
    | 4 => if c.os32 then withRM c b k fun rm k => imm8 k fun imm k => .ok (.btRm32Imm8 rm imm) k else withRM c b k fun rm k => imm8 k fun imm k => .ok (.btRm16Imm8 rm imm) k
    | 5 => if c.os32 then withRM c b k fun rm k => imm8 k fun imm k => .ok (.btsRm32Imm8 rm imm) k else withRM c b k fun rm k => imm8 k fun imm k => .ok (.btsRm16Imm8 rm imm) k
    | 6 => if c.os32 then withRM c b k fun rm k => imm8 k fun imm k => .ok (.btrRm32Imm8 rm imm) k else withRM c b k fun rm k => imm8 k fun imm k => .ok (.btrRm16Imm8 rm imm) k
    | 7 => if c.os32 then withRM c b k fun rm k => imm8 k fun imm k => .ok (.btcRm32Imm8 rm imm) k else withRM c b k fun rm k => imm8 k fun imm k => .ok (.btcRm16Imm8 rm imm) k
    | _ => .undef false
  | 11 => modrm k fun b k => if c.os32 then withRM c b k fun rm k => .ok (.btcRm32R32 rm (regField b)) k else withRM c b k fun rm k => .ok (.btcRm16R16 rm (regField b)) k
  | 12 => modrm k fun b k => if c.os32 then withRM c b k fun rm k => .ok (.bsfR32Rm32 (regField b) rm) k else withRM c b k fun rm k => .ok (.bsfR16Rm16 (regField b) rm) k
  | 13 => modrm k fun b k => if c.os32 then withRM c b k fun rm k => .ok (.bsrR32Rm32 (regField b) rm) k else withRM c b k fun rm k => .ok (.bsrR16Rm16 (regField b) rm) k
  | 14 => modrm k fun b k => if c.os32 then withRM c b k fun rm k => .ok (.movsxR32Rm8 (regField b) rm) k else withRM c b k fun rm k => .ok (.movsxR16Rm8 (regField b) rm) k
  | 15 => modrm k fun b k => withRM c b k fun rm k => .ok (.movsxR32Rm16 (regField b) rm) k
  | _ => .undef false

/-- Two-byte opcodes 0F C0 to 0F CF (R221, R222). -/
noncomputable def twoC (c : Ctx) (lo : Nat) (k : List Byte) : Decoded :=
  match lo with
  | 0 => modrm k fun b k => withRM c b k fun rm k => .ok (.xaddRm8R8 rm (regField b)) k
  | 1 => modrm k fun b k => if c.os32 then withRM c b k fun rm k => .ok (.xaddRm32R32 rm (regField b)) k else withRM c b k fun rm k => .ok (.xaddRm16R16 rm (regField b)) k
  | 7 => modrm k fun b k =>
    match (regField b).toNat with
    | 1 => withEa c b k fun ea k => .ok (.cmpxchg8bM64 ea) k
    | _ => .undef false
  | 8 => .ok (.bswapR32 0#3) k
  | 9 => .ok (.bswapR32 1#3) k
  | 10 => .ok (.bswapR32 2#3) k
  | 11 => .ok (.bswapR32 3#3) k
  | 12 => .ok (.bswapR32 4#3) k
  | 13 => .ok (.bswapR32 5#3) k
  | 14 => .ok (.bswapR32 6#3) k
  | 15 => .ok (.bswapR32 7#3) k
  | _ => .undef false

/-- Two-byte opcodes 0F D0 to 0F DF (R221, R222). -/
noncomputable def twoD (_ : Ctx) (_ : Nat) (_ : List Byte) : Decoded := .undef false

/-- Two-byte opcodes 0F E0 to 0F EF (R221, R222). -/
noncomputable def twoE (_ : Ctx) (_ : Nat) (_ : List Byte) : Decoded := .undef false

/-- Two-byte opcodes 0F F0 to 0F FF (R221, R222). -/
noncomputable def twoF (_ : Ctx) (_ : Nat) (_ : List Byte) : Decoded := .undef false

/-- The two-byte map (R221), by the second byte. -/
noncomputable def decodeTwo (c : Ctx) (op : Byte) (k : List Byte) : Decoded :=
  let lo := op.toNat % 16
  match op.toNat / 16 with
  | 0 => two0 c lo k
  | 1 => two1 c lo k
  | 2 => two2 c lo k
  | 3 => two3 c lo k
  | 4 => two4 c lo k
  | 5 => two5 c lo k
  | 6 => two6 c lo k
  | 7 => two7 c lo k
  | 8 => two8 c lo k
  | 9 => two9 c lo k
  | 10 => twoA c lo k
  | 11 => twoB c lo k
  | 12 => twoC c lo k
  | 13 => twoD c lo k
  | 14 => twoE c lo k
  | 15 => twoF c lo k
  | _ => .undef false

/-- One-byte opcodes 00 to 0F (R220, R222). -/
noncomputable def one0 (c : Ctx) (lo : Nat) (k : List Byte) : Decoded :=
  match lo with
  | 0 => modrm k fun b k => withRM c b k fun rm k => .ok (.addRm8R8 rm (regField b)) k
  | 1 => modrm k fun b k => if c.os32 then withRM c b k fun rm k => .ok (.addRm32R32 rm (regField b)) k else withRM c b k fun rm k => .ok (.addRm16R16 rm (regField b)) k
  | 2 => modrm k fun b k => withRM c b k fun rm k => .ok (.addR8Rm8 (regField b) rm) k
  | 3 => modrm k fun b k => if c.os32 then withRM c b k fun rm k => .ok (.addR32Rm32 (regField b) rm) k else withRM c b k fun rm k => .ok (.addR16Rm16 (regField b) rm) k
  | 4 => imm8 k fun imm k => .ok (.addAlImm8 imm) k
  | 5 => if c.os32 then imm32 k fun imm k => .ok (.addEaxImm32 imm) k else imm16 k fun imm k => .ok (.addAxImm16 imm) k
  | 6 => .ok .pushEs k
  | 7 => .ok .popEs k
  | 8 => modrm k fun b k => withRM c b k fun rm k => .ok (.orRm8R8 rm (regField b)) k
  | 9 => modrm k fun b k => if c.os32 then withRM c b k fun rm k => .ok (.orRm32R32 rm (regField b)) k else withRM c b k fun rm k => .ok (.orRm16R16 rm (regField b)) k
  | 10 => modrm k fun b k => withRM c b k fun rm k => .ok (.orR8Rm8 (regField b) rm) k
  | 11 => modrm k fun b k => if c.os32 then withRM c b k fun rm k => .ok (.orR32Rm32 (regField b) rm) k else withRM c b k fun rm k => .ok (.orR16Rm16 (regField b) rm) k
  | 12 => imm8 k fun imm k => .ok (.orAlImm8 imm) k
  | 13 => if c.os32 then imm32 k fun imm k => .ok (.orEaxImm32 imm) k else imm16 k fun imm k => .ok (.orAxImm16 imm) k
  | 14 => .ok .pushCs k
  | 15 => imm8 k fun op k => decodeTwo c op k
  | _ => .undef false

/-- One-byte opcodes 10 to 1F (R220, R222). -/
noncomputable def one1 (c : Ctx) (lo : Nat) (k : List Byte) : Decoded :=
  match lo with
  | 0 => modrm k fun b k => withRM c b k fun rm k => .ok (.adcRm8R8 rm (regField b)) k
  | 1 => modrm k fun b k => if c.os32 then withRM c b k fun rm k => .ok (.adcRm32R32 rm (regField b)) k else withRM c b k fun rm k => .ok (.adcRm16R16 rm (regField b)) k
  | 2 => modrm k fun b k => withRM c b k fun rm k => .ok (.adcR8Rm8 (regField b) rm) k
  | 3 => modrm k fun b k => if c.os32 then withRM c b k fun rm k => .ok (.adcR32Rm32 (regField b) rm) k else withRM c b k fun rm k => .ok (.adcR16Rm16 (regField b) rm) k
  | 4 => imm8 k fun imm k => .ok (.adcAlImm8 imm) k
  | 5 => if c.os32 then imm32 k fun imm k => .ok (.adcEaxImm32 imm) k else imm16 k fun imm k => .ok (.adcAxImm16 imm) k
  | 6 => .ok .pushSs k
  | 7 => .ok .popSs k
  | 8 => modrm k fun b k => withRM c b k fun rm k => .ok (.sbbRm8R8 rm (regField b)) k
  | 9 => modrm k fun b k => if c.os32 then withRM c b k fun rm k => .ok (.sbbRm32R32 rm (regField b)) k else withRM c b k fun rm k => .ok (.sbbRm16R16 rm (regField b)) k
  | 10 => modrm k fun b k => withRM c b k fun rm k => .ok (.sbbR8Rm8 (regField b) rm) k
  | 11 => modrm k fun b k => if c.os32 then withRM c b k fun rm k => .ok (.sbbR32Rm32 (regField b) rm) k else withRM c b k fun rm k => .ok (.sbbR16Rm16 (regField b) rm) k
  | 12 => imm8 k fun imm k => .ok (.sbbAlImm8 imm) k
  | 13 => if c.os32 then imm32 k fun imm k => .ok (.sbbEaxImm32 imm) k else imm16 k fun imm k => .ok (.sbbAxImm16 imm) k
  | 14 => .ok .pushDs k
  | 15 => .ok .popDs k
  | _ => .undef false

/-- One-byte opcodes 20 to 2F (R220, R222). -/
noncomputable def one2 (c : Ctx) (lo : Nat) (k : List Byte) : Decoded :=
  match lo with
  | 0 => modrm k fun b k => withRM c b k fun rm k => .ok (.andRm8R8 rm (regField b)) k
  | 1 => modrm k fun b k => if c.os32 then withRM c b k fun rm k => .ok (.andRm32R32 rm (regField b)) k else withRM c b k fun rm k => .ok (.andRm16R16 rm (regField b)) k
  | 2 => modrm k fun b k => withRM c b k fun rm k => .ok (.andR8Rm8 (regField b) rm) k
  | 3 => modrm k fun b k => if c.os32 then withRM c b k fun rm k => .ok (.andR32Rm32 (regField b) rm) k else withRM c b k fun rm k => .ok (.andR16Rm16 (regField b) rm) k
  | 4 => imm8 k fun imm k => .ok (.andAlImm8 imm) k
  | 5 => if c.os32 then imm32 k fun imm k => .ok (.andEaxImm32 imm) k else imm16 k fun imm k => .ok (.andAxImm16 imm) k
  | 6 => .ok .segEs k
  | 7 => .ok .daa k
  | 8 => modrm k fun b k => withRM c b k fun rm k => .ok (.subRm8R8 rm (regField b)) k
  | 9 => modrm k fun b k => if c.os32 then withRM c b k fun rm k => .ok (.subRm32R32 rm (regField b)) k else withRM c b k fun rm k => .ok (.subRm16R16 rm (regField b)) k
  | 10 => modrm k fun b k => withRM c b k fun rm k => .ok (.subR8Rm8 (regField b) rm) k
  | 11 => modrm k fun b k => if c.os32 then withRM c b k fun rm k => .ok (.subR32Rm32 (regField b) rm) k else withRM c b k fun rm k => .ok (.subR16Rm16 (regField b) rm) k
  | 12 => imm8 k fun imm k => .ok (.subAlImm8 imm) k
  | 13 => if c.os32 then imm32 k fun imm k => .ok (.subEaxImm32 imm) k else imm16 k fun imm k => .ok (.subAxImm16 imm) k
  | 14 => .ok .segCs k
  | 15 => .ok .das k
  | _ => .undef false

/-- One-byte opcodes 30 to 3F (R220, R222). -/
noncomputable def one3 (c : Ctx) (lo : Nat) (k : List Byte) : Decoded :=
  match lo with
  | 0 => modrm k fun b k => withRM c b k fun rm k => .ok (.xorRm8R8 rm (regField b)) k
  | 1 => modrm k fun b k => if c.os32 then withRM c b k fun rm k => .ok (.xorRm32R32 rm (regField b)) k else withRM c b k fun rm k => .ok (.xorRm16R16 rm (regField b)) k
  | 2 => modrm k fun b k => withRM c b k fun rm k => .ok (.xorR8Rm8 (regField b) rm) k
  | 3 => modrm k fun b k => if c.os32 then withRM c b k fun rm k => .ok (.xorR32Rm32 (regField b) rm) k else withRM c b k fun rm k => .ok (.xorR16Rm16 (regField b) rm) k
  | 4 => imm8 k fun imm k => .ok (.xorAlImm8 imm) k
  | 5 => if c.os32 then imm32 k fun imm k => .ok (.xorEaxImm32 imm) k else imm16 k fun imm k => .ok (.xorAxImm16 imm) k
  | 6 => .ok .segSs k
  | 7 => .ok .aaa k
  | 8 => modrm k fun b k => withRM c b k fun rm k => .ok (.cmpRm8R8 rm (regField b)) k
  | 9 => modrm k fun b k => if c.os32 then withRM c b k fun rm k => .ok (.cmpRm32R32 rm (regField b)) k else withRM c b k fun rm k => .ok (.cmpRm16R16 rm (regField b)) k
  | 10 => modrm k fun b k => withRM c b k fun rm k => .ok (.cmpR8Rm8 (regField b) rm) k
  | 11 => modrm k fun b k => if c.os32 then withRM c b k fun rm k => .ok (.cmpR32Rm32 (regField b) rm) k else withRM c b k fun rm k => .ok (.cmpR16Rm16 (regField b) rm) k
  | 12 => imm8 k fun imm k => .ok (.cmpAlImm8 imm) k
  | 13 => if c.os32 then imm32 k fun imm k => .ok (.cmpEaxImm32 imm) k else imm16 k fun imm k => .ok (.cmpAxImm16 imm) k
  | 14 => .ok .segDs k
  | 15 => .ok .aas k
  | _ => .undef false

/-- One-byte opcodes 40 to 4F (R220, R222). -/
noncomputable def one4 (c : Ctx) (lo : Nat) (k : List Byte) : Decoded :=
  match lo with
  | 0 => if c.os32 then .ok (.incR32 0#3) k else .ok (.incR16 0#3) k
  | 1 => if c.os32 then .ok (.incR32 1#3) k else .ok (.incR16 1#3) k
  | 2 => if c.os32 then .ok (.incR32 2#3) k else .ok (.incR16 2#3) k
  | 3 => if c.os32 then .ok (.incR32 3#3) k else .ok (.incR16 3#3) k
  | 4 => if c.os32 then .ok (.incR32 4#3) k else .ok (.incR16 4#3) k
  | 5 => if c.os32 then .ok (.incR32 5#3) k else .ok (.incR16 5#3) k
  | 6 => if c.os32 then .ok (.incR32 6#3) k else .ok (.incR16 6#3) k
  | 7 => if c.os32 then .ok (.incR32 7#3) k else .ok (.incR16 7#3) k
  | 8 => if c.os32 then .ok (.decR32 0#3) k else .ok (.decR16 0#3) k
  | 9 => if c.os32 then .ok (.decR32 1#3) k else .ok (.decR16 1#3) k
  | 10 => if c.os32 then .ok (.decR32 2#3) k else .ok (.decR16 2#3) k
  | 11 => if c.os32 then .ok (.decR32 3#3) k else .ok (.decR16 3#3) k
  | 12 => if c.os32 then .ok (.decR32 4#3) k else .ok (.decR16 4#3) k
  | 13 => if c.os32 then .ok (.decR32 5#3) k else .ok (.decR16 5#3) k
  | 14 => if c.os32 then .ok (.decR32 6#3) k else .ok (.decR16 6#3) k
  | 15 => if c.os32 then .ok (.decR32 7#3) k else .ok (.decR16 7#3) k
  | _ => .undef false

/-- One-byte opcodes 50 to 5F (R220, R222). -/
noncomputable def one5 (c : Ctx) (lo : Nat) (k : List Byte) : Decoded :=
  match lo with
  | 0 => if c.os32 then .ok (.pushR32 0#3) k else .ok (.pushR16 0#3) k
  | 1 => if c.os32 then .ok (.pushR32 1#3) k else .ok (.pushR16 1#3) k
  | 2 => if c.os32 then .ok (.pushR32 2#3) k else .ok (.pushR16 2#3) k
  | 3 => if c.os32 then .ok (.pushR32 3#3) k else .ok (.pushR16 3#3) k
  | 4 => if c.os32 then .ok (.pushR32 4#3) k else .ok (.pushR16 4#3) k
  | 5 => if c.os32 then .ok (.pushR32 5#3) k else .ok (.pushR16 5#3) k
  | 6 => if c.os32 then .ok (.pushR32 6#3) k else .ok (.pushR16 6#3) k
  | 7 => if c.os32 then .ok (.pushR32 7#3) k else .ok (.pushR16 7#3) k
  | 8 => if c.os32 then .ok (.popR32 0#3) k else .ok (.popR16 0#3) k
  | 9 => if c.os32 then .ok (.popR32 1#3) k else .ok (.popR16 1#3) k
  | 10 => if c.os32 then .ok (.popR32 2#3) k else .ok (.popR16 2#3) k
  | 11 => if c.os32 then .ok (.popR32 3#3) k else .ok (.popR16 3#3) k
  | 12 => if c.os32 then .ok (.popR32 4#3) k else .ok (.popR16 4#3) k
  | 13 => if c.os32 then .ok (.popR32 5#3) k else .ok (.popR16 5#3) k
  | 14 => if c.os32 then .ok (.popR32 6#3) k else .ok (.popR16 6#3) k
  | 15 => if c.os32 then .ok (.popR32 7#3) k else .ok (.popR16 7#3) k
  | _ => .undef false

/-- One-byte opcodes 60 to 6F (R220, R222). -/
noncomputable def one6 (c : Ctx) (lo : Nat) (k : List Byte) : Decoded :=
  match lo with
  | 0 => if c.os32 then .ok .pushad k else .ok .pusha k
  | 1 => if c.os32 then .ok .popad k else .ok .popa k
  | 2 => modrm k fun b k => if c.os32 then withEa c b k fun ea k => .ok (.boundR32M32a32 (regField b) ea) k else withEa c b k fun ea k => .ok (.boundR16M16a16 (regField b) ea) k
  | 3 => modrm k fun b k => withRM c b k fun rm k => .ok (.arplRm16R16 rm (regField b)) k
  | 4 => .ok .segFs k
  | 5 => .ok .segGs k
  | 6 => .ok .opSize k
  | 7 => .ok .addrSize k
  | 8 => if c.os32 then imm32 k fun imm k => .ok (.pushImm32 imm) k else imm16 k fun imm k => .ok (.pushImm16 imm) k
  | 9 => modrm k fun b k => if c.os32 then withRM c b k fun rm k => imm32 k fun imm k => .ok (.imulR32Rm32Imm32 (regField b) rm imm) k else withRM c b k fun rm k => imm16 k fun imm k => .ok (.imulR16Rm16Imm16 (regField b) rm imm) k
  | 10 => imm8 k fun imm k => .ok (.pushImm8 imm) k
  | 11 => modrm k fun b k => if c.os32 then withRM c b k fun rm k => imm8 k fun imm k => .ok (.imulR32Rm32Imm8 (regField b) rm imm) k else withRM c b k fun rm k => imm8 k fun imm k => .ok (.imulR16Rm16Imm8 (regField b) rm imm) k
  | 12 => .ok .insb k
  | 13 => if c.os32 then .ok .insd k else .ok .insw k
  | 14 => .ok .outsb k
  | 15 => if c.os32 then .ok .outsd k else .ok .outsw k
  | _ => .undef false

/-- One-byte opcodes 70 to 7F (R220, R222). -/
noncomputable def one7 (_ : Ctx) (lo : Nat) (k : List Byte) : Decoded :=
  match lo with
  | 0 => imm8 k fun rel k => .ok (.joRel8 rel) k
  | 1 => imm8 k fun rel k => .ok (.jnoRel8 rel) k
  | 2 => imm8 k fun rel k => .ok (.jbRel8 rel) k
  | 3 => imm8 k fun rel k => .ok (.jaeRel8 rel) k
  | 4 => imm8 k fun rel k => .ok (.jeRel8 rel) k
  | 5 => imm8 k fun rel k => .ok (.jneRel8 rel) k
  | 6 => imm8 k fun rel k => .ok (.jbeRel8 rel) k
  | 7 => imm8 k fun rel k => .ok (.jaRel8 rel) k
  | 8 => imm8 k fun rel k => .ok (.jsRel8 rel) k
  | 9 => imm8 k fun rel k => .ok (.jnsRel8 rel) k
  | 10 => imm8 k fun rel k => .ok (.jpRel8 rel) k
  | 11 => imm8 k fun rel k => .ok (.jnpRel8 rel) k
  | 12 => imm8 k fun rel k => .ok (.jlRel8 rel) k
  | 13 => imm8 k fun rel k => .ok (.jgeRel8 rel) k
  | 14 => imm8 k fun rel k => .ok (.jleRel8 rel) k
  | 15 => imm8 k fun rel k => .ok (.jgRel8 rel) k
  | _ => .undef false

/-- One-byte opcodes 80 to 8F (R220, R222). -/
noncomputable def one8 (c : Ctx) (lo : Nat) (k : List Byte) : Decoded :=
  match lo with
  | 0 => modrm k fun b k =>
    match (regField b).toNat with
    | 0 => withRM c b k fun rm k => imm8 k fun imm k => .ok (.addRm8Imm8 rm imm) k
    | 1 => withRM c b k fun rm k => imm8 k fun imm k => .ok (.orRm8Imm8 rm imm) k
    | 2 => withRM c b k fun rm k => imm8 k fun imm k => .ok (.adcRm8Imm8 rm imm) k
    | 3 => withRM c b k fun rm k => imm8 k fun imm k => .ok (.sbbRm8Imm8 rm imm) k
    | 4 => withRM c b k fun rm k => imm8 k fun imm k => .ok (.andRm8Imm8 rm imm) k
    | 5 => withRM c b k fun rm k => imm8 k fun imm k => .ok (.subRm8Imm8 rm imm) k
    | 6 => withRM c b k fun rm k => imm8 k fun imm k => .ok (.xorRm8Imm8 rm imm) k
    | 7 => withRM c b k fun rm k => imm8 k fun imm k => .ok (.cmpRm8Imm8 rm imm) k
    | _ => .undef false
  | 1 => modrm k fun b k =>
    match (regField b).toNat with
    | 0 => if c.os32 then withRM c b k fun rm k => imm32 k fun imm k => .ok (.addRm32Imm32 rm imm) k else withRM c b k fun rm k => imm16 k fun imm k => .ok (.addRm16Imm16 rm imm) k
    | 1 => if c.os32 then withRM c b k fun rm k => imm32 k fun imm k => .ok (.orRm32Imm32 rm imm) k else withRM c b k fun rm k => imm16 k fun imm k => .ok (.orRm16Imm16 rm imm) k
    | 2 => if c.os32 then withRM c b k fun rm k => imm32 k fun imm k => .ok (.adcRm32Imm32 rm imm) k else withRM c b k fun rm k => imm16 k fun imm k => .ok (.adcRm16Imm16 rm imm) k
    | 3 => if c.os32 then withRM c b k fun rm k => imm32 k fun imm k => .ok (.sbbRm32Imm32 rm imm) k else withRM c b k fun rm k => imm16 k fun imm k => .ok (.sbbRm16Imm16 rm imm) k
    | 4 => if c.os32 then withRM c b k fun rm k => imm32 k fun imm k => .ok (.andRm32Imm32 rm imm) k else withRM c b k fun rm k => imm16 k fun imm k => .ok (.andRm16Imm16 rm imm) k
    | 5 => if c.os32 then withRM c b k fun rm k => imm32 k fun imm k => .ok (.subRm32Imm32 rm imm) k else withRM c b k fun rm k => imm16 k fun imm k => .ok (.subRm16Imm16 rm imm) k
    | 6 => if c.os32 then withRM c b k fun rm k => imm32 k fun imm k => .ok (.xorRm32Imm32 rm imm) k else withRM c b k fun rm k => imm16 k fun imm k => .ok (.xorRm16Imm16 rm imm) k
    | 7 => if c.os32 then withRM c b k fun rm k => imm32 k fun imm k => .ok (.cmpRm32Imm32 rm imm) k else withRM c b k fun rm k => imm16 k fun imm k => .ok (.cmpRm16Imm16 rm imm) k
    | _ => .undef false
  | 3 => modrm k fun b k =>
    match (regField b).toNat with
    | 0 => if c.os32 then withRM c b k fun rm k => imm8 k fun imm k => .ok (.addRm32Imm8 rm imm) k else withRM c b k fun rm k => imm8 k fun imm k => .ok (.addRm16Imm8 rm imm) k
    | 1 => if c.os32 then withRM c b k fun rm k => imm8 k fun imm k => .ok (.orRm32Imm8 rm imm) k else withRM c b k fun rm k => imm8 k fun imm k => .ok (.orRm16Imm8 rm imm) k
    | 2 => if c.os32 then withRM c b k fun rm k => imm8 k fun imm k => .ok (.adcRm32Imm8 rm imm) k else withRM c b k fun rm k => imm8 k fun imm k => .ok (.adcRm16Imm8 rm imm) k
    | 3 => if c.os32 then withRM c b k fun rm k => imm8 k fun imm k => .ok (.sbbRm32Imm8 rm imm) k else withRM c b k fun rm k => imm8 k fun imm k => .ok (.sbbRm16Imm8 rm imm) k
    | 4 => if c.os32 then withRM c b k fun rm k => imm8 k fun imm k => .ok (.andRm32Imm8 rm imm) k else withRM c b k fun rm k => imm8 k fun imm k => .ok (.andRm16Imm8 rm imm) k
    | 5 => if c.os32 then withRM c b k fun rm k => imm8 k fun imm k => .ok (.subRm32Imm8 rm imm) k else withRM c b k fun rm k => imm8 k fun imm k => .ok (.subRm16Imm8 rm imm) k
    | 6 => if c.os32 then withRM c b k fun rm k => imm8 k fun imm k => .ok (.xorRm32Imm8 rm imm) k else withRM c b k fun rm k => imm8 k fun imm k => .ok (.xorRm16Imm8 rm imm) k
    | 7 => if c.os32 then withRM c b k fun rm k => imm8 k fun imm k => .ok (.cmpRm32Imm8 rm imm) k else withRM c b k fun rm k => imm8 k fun imm k => .ok (.cmpRm16Imm8 rm imm) k
    | _ => .undef false
  | 4 => modrm k fun b k => withRM c b k fun rm k => .ok (.testRm8R8 rm (regField b)) k
  | 5 => modrm k fun b k => if c.os32 then withRM c b k fun rm k => .ok (.testRm32R32 rm (regField b)) k else withRM c b k fun rm k => .ok (.testRm16R16 rm (regField b)) k
  | 6 => modrm k fun b k => withRM c b k fun rm k => .ok (.xchgRm8R8 rm (regField b)) k
  | 7 => modrm k fun b k => if c.os32 then withRM c b k fun rm k => .ok (.xchgRm32R32 rm (regField b)) k else withRM c b k fun rm k => .ok (.xchgRm16R16 rm (regField b)) k
  | 8 => modrm k fun b k => withRM c b k fun rm k => .ok (.movRm8R8 rm (regField b)) k
  | 9 => modrm k fun b k => if c.os32 then withRM c b k fun rm k => .ok (.movRm32R32 rm (regField b)) k else withRM c b k fun rm k => .ok (.movRm16R16 rm (regField b)) k
  | 10 => modrm k fun b k => withRM c b k fun rm k => .ok (.movR8Rm8 (regField b) rm) k
  | 11 => modrm k fun b k => if c.os32 then withRM c b k fun rm k => .ok (.movR32Rm32 (regField b) rm) k else withRM c b k fun rm k => .ok (.movR16Rm16 (regField b) rm) k
  | 12 => modrm k fun b k => withSeg b fun sr => withRM c b k fun rm k => .ok (.movRm16Sreg rm sr) k
  | 13 => modrm k fun b k => if c.os32 then withEa c b k fun ea k => .ok (.leaR32M (regField b) ea) k else withEa c b k fun ea k => .ok (.leaR16M (regField b) ea) k
  | 14 => modrm k fun b k => withSeg b fun sr => withRM c b k fun rm k => .ok (.movSregRm16 sr rm) k
  | 15 => modrm k fun b k =>
    match (regField b).toNat with
    | 0 => if c.os32 then withRM c b k fun rm k => .ok (.popM32 rm) k else withRM c b k fun rm k => .ok (.popM16 rm) k
    | _ => .undef false
  | _ => .undef false

/-- One-byte opcodes 90 to 9F (R220, R222). -/
noncomputable def one9 (c : Ctx) (lo : Nat) (k : List Byte) : Decoded :=
  match lo with
  | 0 => .ok .nop k
  | 1 => if c.os32 then .ok (.xchgEaxR32 1#3) k else .ok (.xchgAxR16 1#3) k
  | 2 => if c.os32 then .ok (.xchgEaxR32 2#3) k else .ok (.xchgAxR16 2#3) k
  | 3 => if c.os32 then .ok (.xchgEaxR32 3#3) k else .ok (.xchgAxR16 3#3) k
  | 4 => if c.os32 then .ok (.xchgEaxR32 4#3) k else .ok (.xchgAxR16 4#3) k
  | 5 => if c.os32 then .ok (.xchgEaxR32 5#3) k else .ok (.xchgAxR16 5#3) k
  | 6 => if c.os32 then .ok (.xchgEaxR32 6#3) k else .ok (.xchgAxR16 6#3) k
  | 7 => if c.os32 then .ok (.xchgEaxR32 7#3) k else .ok (.xchgAxR16 7#3) k
  | 8 => if c.os32 then .ok .cwde k else .ok .cbw k
  | 9 => if c.os32 then .ok .cdq k else .ok .cwd k
  | 10 => if c.os32 then imm32 k fun off k => imm16 k fun sel k => .ok (.callPtr16x32 sel off) k else imm16 k fun off k => imm16 k fun sel k => .ok (.callPtr16x16 sel off) k
  | 11 => waitOr c k
  | 12 => if c.os32 then .ok .pushfd k else .ok .pushf k
  | 13 => if c.os32 then .ok .popfd k else .ok .popf k
  | 14 => .ok .sahf k
  | 15 => .ok .lahf k
  | _ => .undef false

/-- One-byte opcodes A0 to AF (R220, R222). -/
noncomputable def oneA (c : Ctx) (lo : Nat) (k : List Byte) : Decoded :=
  match lo with
  | 0 => moffs c k fun mo k => .ok (.movAlMoffs8 mo) k
  | 1 => if c.os32 then moffs c k fun mo k => .ok (.movEaxMoffs32 mo) k else moffs c k fun mo k => .ok (.movAxMoffs16 mo) k
  | 2 => moffs c k fun mo k => .ok (.movMoffs8Al mo) k
  | 3 => if c.os32 then moffs c k fun mo k => .ok (.movMoffs32Eax mo) k else moffs c k fun mo k => .ok (.movMoffs16Ax mo) k
  | 4 => .ok .movsb k
  | 5 => if c.os32 then .ok .movsd k else .ok .movsw k
  | 6 => .ok .cmpsb k
  | 7 => if c.os32 then .ok .cmpsd k else .ok .cmpsw k
  | 8 => imm8 k fun imm k => .ok (.testAlImm8 imm) k
  | 9 => if c.os32 then imm32 k fun imm k => .ok (.testEaxImm32 imm) k else imm16 k fun imm k => .ok (.testAxImm16 imm) k
  | 10 => .ok .stosb k
  | 11 => if c.os32 then .ok .stosd k else .ok .stosw k
  | 12 => .ok .lodsb k
  | 13 => if c.os32 then .ok .lodsd k else .ok .lodsw k
  | 14 => .ok .scasb k
  | 15 => if c.os32 then .ok .scasd k else .ok .scasw k
  | _ => .undef false

/-- One-byte opcodes B0 to BF (R220, R222). -/
noncomputable def oneB (c : Ctx) (lo : Nat) (k : List Byte) : Decoded :=
  match lo with
  | 0 => imm8 k fun imm k => .ok (.movR8Imm8 0#3 imm) k
  | 1 => imm8 k fun imm k => .ok (.movR8Imm8 1#3 imm) k
  | 2 => imm8 k fun imm k => .ok (.movR8Imm8 2#3 imm) k
  | 3 => imm8 k fun imm k => .ok (.movR8Imm8 3#3 imm) k
  | 4 => imm8 k fun imm k => .ok (.movR8Imm8 4#3 imm) k
  | 5 => imm8 k fun imm k => .ok (.movR8Imm8 5#3 imm) k
  | 6 => imm8 k fun imm k => .ok (.movR8Imm8 6#3 imm) k
  | 7 => imm8 k fun imm k => .ok (.movR8Imm8 7#3 imm) k
  | 8 => if c.os32 then imm32 k fun imm k => .ok (.movR32Imm32 0#3 imm) k else imm16 k fun imm k => .ok (.movR16Imm16 0#3 imm) k
  | 9 => if c.os32 then imm32 k fun imm k => .ok (.movR32Imm32 1#3 imm) k else imm16 k fun imm k => .ok (.movR16Imm16 1#3 imm) k
  | 10 => if c.os32 then imm32 k fun imm k => .ok (.movR32Imm32 2#3 imm) k else imm16 k fun imm k => .ok (.movR16Imm16 2#3 imm) k
  | 11 => if c.os32 then imm32 k fun imm k => .ok (.movR32Imm32 3#3 imm) k else imm16 k fun imm k => .ok (.movR16Imm16 3#3 imm) k
  | 12 => if c.os32 then imm32 k fun imm k => .ok (.movR32Imm32 4#3 imm) k else imm16 k fun imm k => .ok (.movR16Imm16 4#3 imm) k
  | 13 => if c.os32 then imm32 k fun imm k => .ok (.movR32Imm32 5#3 imm) k else imm16 k fun imm k => .ok (.movR16Imm16 5#3 imm) k
  | 14 => if c.os32 then imm32 k fun imm k => .ok (.movR32Imm32 6#3 imm) k else imm16 k fun imm k => .ok (.movR16Imm16 6#3 imm) k
  | 15 => if c.os32 then imm32 k fun imm k => .ok (.movR32Imm32 7#3 imm) k else imm16 k fun imm k => .ok (.movR16Imm16 7#3 imm) k
  | _ => .undef false

/-- One-byte opcodes C0 to CF (R220, R222). -/
noncomputable def oneC (c : Ctx) (lo : Nat) (k : List Byte) : Decoded :=
  match lo with
  | 0 => modrm k fun b k =>
    match (regField b).toNat with
    | 0 => withRM c b k fun rm k => imm8 k fun imm k => .ok (.rolRm8Imm8 rm imm) k
    | 1 => withRM c b k fun rm k => imm8 k fun imm k => .ok (.rorRm8Imm8 rm imm) k
    | 2 => withRM c b k fun rm k => imm8 k fun imm k => .ok (.rclRm8Imm8 rm imm) k
    | 3 => withRM c b k fun rm k => imm8 k fun imm k => .ok (.rcrRm8Imm8 rm imm) k
    | 4 => withRM c b k fun rm k => imm8 k fun imm k => .ok (.salRm8Imm8 rm imm) k
    | 5 => withRM c b k fun rm k => imm8 k fun imm k => .ok (.shrRm8Imm8 rm imm) k
    | 7 => withRM c b k fun rm k => imm8 k fun imm k => .ok (.sarRm8Imm8 rm imm) k
    | _ => .undef false
  | 1 => modrm k fun b k =>
    match (regField b).toNat with
    | 0 => if c.os32 then withRM c b k fun rm k => imm8 k fun imm k => .ok (.rolRm32Imm8 rm imm) k else withRM c b k fun rm k => imm8 k fun imm k => .ok (.rolRm16Imm8 rm imm) k
    | 1 => if c.os32 then withRM c b k fun rm k => imm8 k fun imm k => .ok (.rorRm32Imm8 rm imm) k else withRM c b k fun rm k => imm8 k fun imm k => .ok (.rorRm16Imm8 rm imm) k
    | 2 => if c.os32 then withRM c b k fun rm k => imm8 k fun imm k => .ok (.rclRm32Imm8 rm imm) k else withRM c b k fun rm k => imm8 k fun imm k => .ok (.rclRm16Imm8 rm imm) k
    | 3 => if c.os32 then withRM c b k fun rm k => imm8 k fun imm k => .ok (.rcrRm32Imm8 rm imm) k else withRM c b k fun rm k => imm8 k fun imm k => .ok (.rcrRm16Imm8 rm imm) k
    | 4 => if c.os32 then withRM c b k fun rm k => imm8 k fun imm k => .ok (.salRm32Imm8 rm imm) k else withRM c b k fun rm k => imm8 k fun imm k => .ok (.salRm16Imm8 rm imm) k
    | 5 => if c.os32 then withRM c b k fun rm k => imm8 k fun imm k => .ok (.shrRm32Imm8 rm imm) k else withRM c b k fun rm k => imm8 k fun imm k => .ok (.shrRm16Imm8 rm imm) k
    | 7 => if c.os32 then withRM c b k fun rm k => imm8 k fun imm k => .ok (.sarRm32Imm8 rm imm) k else withRM c b k fun rm k => imm8 k fun imm k => .ok (.sarRm16Imm8 rm imm) k
    | _ => .undef false
  | 2 => imm16 k fun imm k => .ok (.retNearImm16 imm) k
  | 3 => .ok .retNear k
  | 4 => modrm k fun b k => if c.os32 then withEa c b k fun ea k => .ok (.lesR32M16x32 (regField b) ea) k else withEa c b k fun ea k => .ok (.lesR16M16x16 (regField b) ea) k
  | 5 => modrm k fun b k => if c.os32 then withEa c b k fun ea k => .ok (.ldsR32M16x32 (regField b) ea) k else withEa c b k fun ea k => .ok (.ldsR16M16x16 (regField b) ea) k
  | 6 => modrm k fun b k =>
    match (regField b).toNat with
    | 0 => withRM c b k fun rm k => imm8 k fun imm k => .ok (.movRm8Imm8 rm imm) k
    | _ => .undef false
  | 7 => modrm k fun b k =>
    match (regField b).toNat with
    | 0 => if c.os32 then withRM c b k fun rm k => imm32 k fun imm k => .ok (.movRm32Imm32 rm imm) k else withRM c b k fun rm k => imm16 k fun imm k => .ok (.movRm16Imm16 rm imm) k
    | _ => .undef false
  | 8 => imm16 k fun size k => imm8 k fun level k => .ok (.enterImm16Imm8 size level) k
  | 9 => .ok .leave k
  | 10 => imm16 k fun imm k => .ok (.retFarImm16 imm) k
  | 11 => .ok .retFar k
  | 12 => .ok .int3 k
  | 13 => imm8 k fun imm k => .ok (.intImm8 imm) k
  | 14 => .ok .into k
  | 15 => if c.os32 then .ok .iretd k else .ok .iret k
  | _ => .undef false

/-- One-byte opcodes D0 to DF (R220, R222). -/
noncomputable def oneD (c : Ctx) (lo : Nat) (k : List Byte) : Decoded :=
  match lo with
  | 0 => modrm k fun b k =>
    match (regField b).toNat with
    | 0 => withRM c b k fun rm k => .ok (.rolRm8One rm) k
    | 1 => withRM c b k fun rm k => .ok (.rorRm8One rm) k
    | 2 => withRM c b k fun rm k => .ok (.rclRm8One rm) k
    | 3 => withRM c b k fun rm k => .ok (.rcrRm8One rm) k
    | 4 => withRM c b k fun rm k => .ok (.salRm8One rm) k
    | 5 => withRM c b k fun rm k => .ok (.shrRm8One rm) k
    | 7 => withRM c b k fun rm k => .ok (.sarRm8One rm) k
    | _ => .undef false
  | 1 => modrm k fun b k =>
    match (regField b).toNat with
    | 0 => if c.os32 then withRM c b k fun rm k => .ok (.rolRm32One rm) k else withRM c b k fun rm k => .ok (.rolRm16One rm) k
    | 1 => if c.os32 then withRM c b k fun rm k => .ok (.rorRm32One rm) k else withRM c b k fun rm k => .ok (.rorRm16One rm) k
    | 2 => if c.os32 then withRM c b k fun rm k => .ok (.rclRm32One rm) k else withRM c b k fun rm k => .ok (.rclRm16One rm) k
    | 3 => if c.os32 then withRM c b k fun rm k => .ok (.rcrRm32One rm) k else withRM c b k fun rm k => .ok (.rcrRm16One rm) k
    | 4 => if c.os32 then withRM c b k fun rm k => .ok (.salRm32One rm) k else withRM c b k fun rm k => .ok (.salRm16One rm) k
    | 5 => if c.os32 then withRM c b k fun rm k => .ok (.shrRm32One rm) k else withRM c b k fun rm k => .ok (.shrRm16One rm) k
    | 7 => if c.os32 then withRM c b k fun rm k => .ok (.sarRm32One rm) k else withRM c b k fun rm k => .ok (.sarRm16One rm) k
    | _ => .undef false
  | 2 => modrm k fun b k =>
    match (regField b).toNat with
    | 0 => withRM c b k fun rm k => .ok (.rolRm8Cl rm) k
    | 1 => withRM c b k fun rm k => .ok (.rorRm8Cl rm) k
    | 2 => withRM c b k fun rm k => .ok (.rclRm8Cl rm) k
    | 3 => withRM c b k fun rm k => .ok (.rcrRm8Cl rm) k
    | 4 => withRM c b k fun rm k => .ok (.salRm8Cl rm) k
    | 5 => withRM c b k fun rm k => .ok (.shrRm8Cl rm) k
    | 7 => withRM c b k fun rm k => .ok (.sarRm8Cl rm) k
    | _ => .undef false
  | 3 => modrm k fun b k =>
    match (regField b).toNat with
    | 0 => if c.os32 then withRM c b k fun rm k => .ok (.rolRm32Cl rm) k else withRM c b k fun rm k => .ok (.rolRm16Cl rm) k
    | 1 => if c.os32 then withRM c b k fun rm k => .ok (.rorRm32Cl rm) k else withRM c b k fun rm k => .ok (.rorRm16Cl rm) k
    | 2 => if c.os32 then withRM c b k fun rm k => .ok (.rclRm32Cl rm) k else withRM c b k fun rm k => .ok (.rclRm16Cl rm) k
    | 3 => if c.os32 then withRM c b k fun rm k => .ok (.rcrRm32Cl rm) k else withRM c b k fun rm k => .ok (.rcrRm16Cl rm) k
    | 4 => if c.os32 then withRM c b k fun rm k => .ok (.salRm32Cl rm) k else withRM c b k fun rm k => .ok (.salRm16Cl rm) k
    | 5 => if c.os32 then withRM c b k fun rm k => .ok (.shrRm32Cl rm) k else withRM c b k fun rm k => .ok (.shrRm16Cl rm) k
    | 7 => if c.os32 then withRM c b k fun rm k => .ok (.sarRm32Cl rm) k else withRM c b k fun rm k => .ok (.sarRm16Cl rm) k
    | _ => .undef false
  | 4 => imm8 k fun imm k => .ok (.aamImm8 imm) k
  | 5 => imm8 k fun imm k => .ok (.aadImm8 imm) k
  | 7 => .ok .xlat k
  | 8 => modrm k fun b k => escD8 c b k
  | 9 => modrm k fun b k => escD9 c b k
  | 10 => modrm k fun b k => escDA c b k
  | 11 => modrm k fun b k => escDB c b k
  | 12 => modrm k fun b k => escDC c b k
  | 13 => modrm k fun b k => escDD c b k
  | 14 => modrm k fun b k => escDE c b k
  | 15 => modrm k fun b k => escDF c b k
  | _ => .undef false

/-- One-byte opcodes E0 to EF (R220, R222). -/
noncomputable def oneE (c : Ctx) (lo : Nat) (k : List Byte) : Decoded :=
  match lo with
  | 0 => imm8 k fun rel k => .ok (.loopneRel8 rel) k
  | 1 => imm8 k fun rel k => .ok (.loopeRel8 rel) k
  | 2 => imm8 k fun rel k => .ok (.loopRel8 rel) k
  | 3 => if c.as32 then imm8 k fun rel k => .ok (.jecxzRel8 rel) k else imm8 k fun rel k => .ok (.jcxzRel8 rel) k
  | 4 => imm8 k fun imm k => .ok (.inAlImm8 imm) k
  | 5 => if c.os32 then imm8 k fun imm k => .ok (.inEaxImm8 imm) k else imm8 k fun imm k => .ok (.inAxImm8 imm) k
  | 6 => imm8 k fun imm k => .ok (.outImm8Al imm) k
  | 7 => if c.os32 then imm8 k fun imm k => .ok (.outImm8Eax imm) k else imm8 k fun imm k => .ok (.outImm8Ax imm) k
  | 8 => if c.os32 then imm32 k fun rel k => .ok (.callRel32 rel) k else imm16 k fun rel k => .ok (.callRel16 rel) k
  | 9 => if c.os32 then imm32 k fun rel k => .ok (.jmpRel32 rel) k else imm16 k fun rel k => .ok (.jmpRel16 rel) k
  | 10 => if c.os32 then imm32 k fun off k => imm16 k fun sel k => .ok (.jmpPtr16x32 sel off) k else imm16 k fun off k => imm16 k fun sel k => .ok (.jmpPtr16x16 sel off) k
  | 11 => imm8 k fun rel k => .ok (.jmpRel8 rel) k
  | 12 => .ok .inAlDx k
  | 13 => if c.os32 then .ok .inEaxDx k else .ok .inAxDx k
  | 14 => .ok .outDxAl k
  | 15 => if c.os32 then .ok .outDxEax k else .ok .outDxAx k
  | _ => .undef false

/-- One-byte opcodes F0 to FF (R220, R222). -/
noncomputable def oneF (c : Ctx) (lo : Nat) (k : List Byte) : Decoded :=
  match lo with
  | 0 => .ok .lock k
  | 2 => .ok .repne k
  | 3 => .ok .rep k
  | 4 => .ok .hlt k
  | 5 => .ok .cmc k
  | 6 => modrm k fun b k =>
    match (regField b).toNat with
    | 0 => withRM c b k fun rm k => imm8 k fun imm k => .ok (.testRm8Imm8 rm imm) k
    | 2 => withRM c b k fun rm k => .ok (.notRm8 rm) k
    | 3 => withRM c b k fun rm k => .ok (.negRm8 rm) k
    | 4 => withRM c b k fun rm k => .ok (.mulRm8 rm) k
    | 5 => withRM c b k fun rm k => .ok (.imulRm8 rm) k
    | 6 => withRM c b k fun rm k => .ok (.divRm8 rm) k
    | 7 => withRM c b k fun rm k => .ok (.idivRm8 rm) k
    | _ => .undef false
  | 7 => modrm k fun b k =>
    match (regField b).toNat with
    | 0 => if c.os32 then withRM c b k fun rm k => imm32 k fun imm k => .ok (.testRm32Imm32 rm imm) k else withRM c b k fun rm k => imm16 k fun imm k => .ok (.testRm16Imm16 rm imm) k
    | 2 => if c.os32 then withRM c b k fun rm k => .ok (.notRm32 rm) k else withRM c b k fun rm k => .ok (.notRm16 rm) k
    | 3 => if c.os32 then withRM c b k fun rm k => .ok (.negRm32 rm) k else withRM c b k fun rm k => .ok (.negRm16 rm) k
    | 4 => if c.os32 then withRM c b k fun rm k => .ok (.mulRm32 rm) k else withRM c b k fun rm k => .ok (.mulRm16 rm) k
    | 5 => if c.os32 then withRM c b k fun rm k => .ok (.imulRm32 rm) k else withRM c b k fun rm k => .ok (.imulRm16 rm) k
    | 6 => if c.os32 then withRM c b k fun rm k => .ok (.divRm32 rm) k else withRM c b k fun rm k => .ok (.divRm16 rm) k
    | 7 => if c.os32 then withRM c b k fun rm k => .ok (.idivRm32 rm) k else withRM c b k fun rm k => .ok (.idivRm16 rm) k
    | _ => .undef false
  | 8 => .ok .clc k
  | 9 => .ok .stc k
  | 10 => .ok .cli k
  | 11 => .ok .sti k
  | 12 => .ok .cld k
  | 13 => .ok .std k
  | 14 => modrm k fun b k =>
    match (regField b).toNat with
    | 0 => withRM c b k fun rm k => .ok (.incRm8 rm) k
    | 1 => withRM c b k fun rm k => .ok (.decRm8 rm) k
    | _ => .undef false
  | 15 => modrm k fun b k =>
    match (regField b).toNat with
    | 0 => if c.os32 then withRM c b k fun rm k => .ok (.incRm32 rm) k else withRM c b k fun rm k => .ok (.incRm16 rm) k
    | 1 => if c.os32 then withRM c b k fun rm k => .ok (.decRm32 rm) k else withRM c b k fun rm k => .ok (.decRm16 rm) k
    | 2 => if c.os32 then withRM c b k fun rm k => .ok (.callRm32 rm) k else withRM c b k fun rm k => .ok (.callRm16 rm) k
    | 3 => if c.os32 then withEa c b k fun ea k => .ok (.callM16x32 ea) k else withEa c b k fun ea k => .ok (.callM16x16 ea) k
    | 4 => if c.os32 then withRM c b k fun rm k => .ok (.jmpRm32 rm) k else withRM c b k fun rm k => .ok (.jmpRm16 rm) k
    | 5 => if c.os32 then withEa c b k fun ea k => .ok (.jmpM16x32 ea) k else withEa c b k fun ea k => .ok (.jmpM16x16 ea) k
    | 6 => if c.os32 then withRM c b k fun rm k => .ok (.pushRm32 rm) k else withRM c b k fun rm k => .ok (.pushRm16 rm) k
    | _ => .undef false
  | _ => .undef false

/-- The decoder: the instruction at the start of the bytes, which follow the prefixes already read (R171). A prefix
byte is itself an entry of the table. -/
noncomputable def decode (c : Ctx) : List Byte → Decoded
  | [] => .short
  | op :: k =>
    let lo := op.toNat % 16
    match op.toNat / 16 with
    | 0 => one0 c lo k
    | 1 => one1 c lo k
    | 2 => one2 c lo k
    | 3 => one3 c lo k
    | 4 => one4 c lo k
    | 5 => one5 c lo k
    | 6 => one6 c lo k
    | 7 => one7 c lo k
    | 8 => one8 c lo k
    | 9 => one9 c lo k
    | 10 => oneA c lo k
    | 11 => oneB c lo k
    | 12 => oneC c lo k
    | 13 => oneD c lo k
    | 14 => oneE c lo k
    | 15 => oneF c lo k
    | _ => .undef false

/-- The context of an unprefixed instruction in a 16-bit code segment, as after RESET (10_state.md R41). -/
def ctx16 : Ctx := { os32 := false, as32 := false, plain := true }

/-- Byte `j` of an instruction whose bits are `w` and whose table row has `nbits` bits; the bytes above are 0. -/
def tableByte (nbits w j : Nat) : Byte := if 8 * j < nbits then BitVec.ofNat 8 (w >>> (8 * j)) else 0#8

/-- The bytes of such an instruction as memory holds them, up to the longest instruction, 15 bytes (R171). -/
def tableBytes (nbits w : Nat) : List Byte := (List.range 15).map (tableByte nbits w)

/-- The instruction that the decoder reads from the bits of a row of spec/opcode_table.json, in the context after
RESET. A row with OS = 32 or AS = 32 shares its bits with its 16-bit neighbour, which is what is read there (log 9). -/
noncomputable def decodeTableWord (nbits w : Nat) : Option Instr :=
  match decode ctx16 (tableBytes nbits w) with
  | .ok i _ => some i
  | _ => none

/-- The bytes of a word, low-order byte first (R214). -/
def le16 (v : Word) : List Byte := [v.extractLsb' 0 8, v.extractLsb' 8 8]

/-- The bytes of a doubleword, low-order byte first (R214). -/
def le32 (v : DWord) : List Byte :=
  [v.extractLsb' 0 8, v.extractLsb' 8 8, v.extractLsb' 16 8, v.extractLsb' 24 8]

/-- A ModR/M byte (R181), and by the same layout a SIB byte (R182). -/
def packByte (hi : BitVec 2) (mid lo : BitVec 3) : Byte := hi ++ mid ++ lo

/-- ModR/M, SIB and displacement of a memory operand, `reg` in the reg field (Tables 11-1 to 11-3). -/
def encEa (reg : BitVec 3) : Ea → List Byte
  | .a16 rm .none => [packByte 0#2 reg rm]
  | .a16 rm (.d8 d) => [packByte 1#2 reg rm, d]
  | .a16 rm (.d16 d) => packByte 2#2 reg rm :: le16 d
  | .abs16 d => packByte 0#2 reg 6#3 :: le16 d
  | .a32 base .none => [packByte 0#2 reg base]
  | .a32 base (.d8 d) => [packByte 1#2 reg base, d]
  | .a32 base (.d32 d) => packByte 2#2 reg base :: le32 d
  | .abs32 d => packByte 0#2 reg 5#3 :: le32 d
  | .sib sc ix base .none => [packByte 0#2 reg 4#3, packByte sc ix base]
  | .sib sc ix base (.d8 d) => [packByte 1#2 reg 4#3, packByte sc ix base, d]
  | .sib sc ix base (.d32 d) => packByte 2#2 reg 4#3 :: packByte sc ix base :: le32 d
  | .sibNoBase sc ix d => packByte 0#2 reg 4#3 :: packByte sc ix 5#3 :: le32 d

/-- An r/m operand, `reg` in the reg field. -/
def encRM (reg : BitVec 3) : RM → List Byte
  | .reg r => [packByte 3#2 reg r]
  | .mem e => encEa reg e

/-- A moffs field (R216). -/
def encMoffs : Moffs → List Byte
  | .o16 o => le16 o
  | .o32 o => le32 o

/-- The code of a segment register (R184). -/
def segCode : SegReg → BitVec 3
  | .es => 0#3
  | .cs => 1#3
  | .ss => 2#3
  | .ds => 3#3
  | .fs => 4#3
  | .gs => 5#3

/-- An opcode byte with a 3-bit code in its low bits (`+rb`, `+rw`, `+rd`, `+i`; R214). -/
def plusCode (op : Byte) (r : BitVec 3) : Byte := op + r.setWidth 8

/-- The bytes of an instruction after its prefixes, written from the opcode column of its row (R214, R217). -/
def encode : Instr → List Byte
  | .lock => [0xf0#8]
  | .repne => [0xf2#8]
  | .rep => [0xf3#8]
  | .segCs => [0x2e#8]
  | .segSs => [0x36#8]
  | .segDs => [0x3e#8]
  | .segEs => [0x26#8]
  | .segFs => [0x64#8]
  | .segGs => [0x65#8]
  | .opSize => [0x66#8]
  | .addrSize => [0x67#8]
  | .bswapR32 r => [0x0f#8, plusCode 0xc8#8 r]
  | .cbw => [0x98#8]
  | .cwde => [0x98#8]
  | .cmovoR16Rm16 r rm => [0x0f#8, 0x40#8] ++ encRM r rm
  | .cmovnoR16Rm16 r rm => [0x0f#8, 0x41#8] ++ encRM r rm
  | .cmovbR16Rm16 r rm => [0x0f#8, 0x42#8] ++ encRM r rm
  | .cmovaeR16Rm16 r rm => [0x0f#8, 0x43#8] ++ encRM r rm
  | .cmoveR16Rm16 r rm => [0x0f#8, 0x44#8] ++ encRM r rm
  | .cmovneR16Rm16 r rm => [0x0f#8, 0x45#8] ++ encRM r rm
  | .cmovbeR16Rm16 r rm => [0x0f#8, 0x46#8] ++ encRM r rm
  | .cmovaR16Rm16 r rm => [0x0f#8, 0x47#8] ++ encRM r rm
  | .cmovsR16Rm16 r rm => [0x0f#8, 0x48#8] ++ encRM r rm
  | .cmovnsR16Rm16 r rm => [0x0f#8, 0x49#8] ++ encRM r rm
  | .cmovpR16Rm16 r rm => [0x0f#8, 0x4a#8] ++ encRM r rm
  | .cmovnpR16Rm16 r rm => [0x0f#8, 0x4b#8] ++ encRM r rm
  | .cmovlR16Rm16 r rm => [0x0f#8, 0x4c#8] ++ encRM r rm
  | .cmovgeR16Rm16 r rm => [0x0f#8, 0x4d#8] ++ encRM r rm
  | .cmovleR16Rm16 r rm => [0x0f#8, 0x4e#8] ++ encRM r rm
  | .cmovgR16Rm16 r rm => [0x0f#8, 0x4f#8] ++ encRM r rm
  | .cmovoR32Rm32 r rm => [0x0f#8, 0x40#8] ++ encRM r rm
  | .cmovnoR32Rm32 r rm => [0x0f#8, 0x41#8] ++ encRM r rm
  | .cmovbR32Rm32 r rm => [0x0f#8, 0x42#8] ++ encRM r rm
  | .cmovaeR32Rm32 r rm => [0x0f#8, 0x43#8] ++ encRM r rm
  | .cmoveR32Rm32 r rm => [0x0f#8, 0x44#8] ++ encRM r rm
  | .cmovneR32Rm32 r rm => [0x0f#8, 0x45#8] ++ encRM r rm
  | .cmovbeR32Rm32 r rm => [0x0f#8, 0x46#8] ++ encRM r rm
  | .cmovaR32Rm32 r rm => [0x0f#8, 0x47#8] ++ encRM r rm
  | .cmovsR32Rm32 r rm => [0x0f#8, 0x48#8] ++ encRM r rm
  | .cmovnsR32Rm32 r rm => [0x0f#8, 0x49#8] ++ encRM r rm
  | .cmovpR32Rm32 r rm => [0x0f#8, 0x4a#8] ++ encRM r rm
  | .cmovnpR32Rm32 r rm => [0x0f#8, 0x4b#8] ++ encRM r rm
  | .cmovlR32Rm32 r rm => [0x0f#8, 0x4c#8] ++ encRM r rm
  | .cmovgeR32Rm32 r rm => [0x0f#8, 0x4d#8] ++ encRM r rm
  | .cmovleR32Rm32 r rm => [0x0f#8, 0x4e#8] ++ encRM r rm
  | .cmovgR32Rm32 r rm => [0x0f#8, 0x4f#8] ++ encRM r rm
  | .cmpxchgRm8R8 rm r => [0x0f#8, 0xb0#8] ++ encRM r rm
  | .cmpxchgRm16R16 rm r => [0x0f#8, 0xb1#8] ++ encRM r rm
  | .cmpxchgRm32R32 rm r => [0x0f#8, 0xb1#8] ++ encRM r rm
  | .cmpxchg8bM64 ea => [0x0f#8, 0xc7#8] ++ encEa 1#3 ea
  | .cwd => [0x99#8]
  | .cdq => [0x99#8]
  | .movRm8R8 rm r => [0x88#8] ++ encRM r rm
  | .movRm16R16 rm r => [0x89#8] ++ encRM r rm
  | .movRm32R32 rm r => [0x89#8] ++ encRM r rm
  | .movR8Rm8 r rm => [0x8a#8] ++ encRM r rm
  | .movR16Rm16 r rm => [0x8b#8] ++ encRM r rm
  | .movR32Rm32 r rm => [0x8b#8] ++ encRM r rm
  | .movRm16Sreg rm sr => [0x8c#8] ++ encRM (segCode sr) rm
  | .movSregRm16 sr rm => [0x8e#8] ++ encRM (segCode sr) rm
  | .movAlMoffs8 mo => [0xa0#8] ++ encMoffs mo
  | .movAxMoffs16 mo => [0xa1#8] ++ encMoffs mo
  | .movEaxMoffs32 mo => [0xa1#8] ++ encMoffs mo
  | .movMoffs8Al mo => [0xa2#8] ++ encMoffs mo
  | .movMoffs16Ax mo => [0xa3#8] ++ encMoffs mo
  | .movMoffs32Eax mo => [0xa3#8] ++ encMoffs mo
  | .movR8Imm8 r imm => [plusCode 0xb0#8 r] ++ [imm]
  | .movR16Imm16 r imm => [plusCode 0xb8#8 r] ++ le16 imm
  | .movR32Imm32 r imm => [plusCode 0xb8#8 r] ++ le32 imm
  | .movRm8Imm8 rm imm => [0xc6#8] ++ encRM 0#3 rm ++ [imm]
  | .movRm16Imm16 rm imm => [0xc7#8] ++ encRM 0#3 rm ++ le16 imm
  | .movRm32Imm32 rm imm => [0xc7#8] ++ encRM 0#3 rm ++ le32 imm
  | .movsxR16Rm8 r rm => [0x0f#8, 0xbe#8] ++ encRM r rm
  | .movsxR32Rm8 r rm => [0x0f#8, 0xbe#8] ++ encRM r rm
  | .movsxR32Rm16 r rm => [0x0f#8, 0xbf#8] ++ encRM r rm
  | .movzxR16Rm8 r rm => [0x0f#8, 0xb6#8] ++ encRM r rm
  | .movzxR32Rm8 r rm => [0x0f#8, 0xb6#8] ++ encRM r rm
  | .movzxR32Rm16 r rm => [0x0f#8, 0xb7#8] ++ encRM r rm
  | .popM16 rm => [0x8f#8] ++ encRM 0#3 rm
  | .popM32 rm => [0x8f#8] ++ encRM 0#3 rm
  | .popR16 r => [plusCode 0x58#8 r]
  | .popR32 r => [plusCode 0x58#8 r]
  | .popDs => [0x1f#8]
  | .popEs => [0x07#8]
  | .popSs => [0x17#8]
  | .popFs => [0x0f#8, 0xa1#8]
  | .popGs => [0x0f#8, 0xa9#8]
  | .popa => [0x61#8]
  | .popad => [0x61#8]
  | .pushRm16 rm => [0xff#8] ++ encRM 6#3 rm
  | .pushRm32 rm => [0xff#8] ++ encRM 6#3 rm
  | .pushR16 r => [plusCode 0x50#8 r]
  | .pushR32 r => [plusCode 0x50#8 r]
  | .pushImm8 imm => [0x6a#8] ++ [imm]
  | .pushImm16 imm => [0x68#8] ++ le16 imm
  | .pushImm32 imm => [0x68#8] ++ le32 imm
  | .pushCs => [0x0e#8]
  | .pushSs => [0x16#8]
  | .pushDs => [0x1e#8]
  | .pushEs => [0x06#8]
  | .pushFs => [0x0f#8, 0xa0#8]
  | .pushGs => [0x0f#8, 0xa8#8]
  | .pusha => [0x60#8]
  | .pushad => [0x60#8]
  | .xaddRm8R8 rm r => [0x0f#8, 0xc0#8] ++ encRM r rm
  | .xaddRm16R16 rm r => [0x0f#8, 0xc1#8] ++ encRM r rm
  | .xaddRm32R32 rm r => [0x0f#8, 0xc1#8] ++ encRM r rm
  | .xchgAxR16 r => [plusCode 0x90#8 r]
  | .xchgEaxR32 r => [plusCode 0x90#8 r]
  | .xchgRm8R8 rm r => [0x86#8] ++ encRM r rm
  | .xchgRm16R16 rm r => [0x87#8] ++ encRM r rm
  | .xchgRm32R32 rm r => [0x87#8] ++ encRM r rm
  | .xlat => [0xd7#8]
  | .aaa => [0x37#8]
  | .aadImm8 imm => [0xd5#8] ++ [imm]
  | .aamImm8 imm => [0xd4#8] ++ [imm]
  | .aas => [0x3f#8]
  | .adcAlImm8 imm => [0x14#8] ++ [imm]
  | .adcAxImm16 imm => [0x15#8] ++ le16 imm
  | .adcEaxImm32 imm => [0x15#8] ++ le32 imm
  | .adcRm8Imm8 rm imm => [0x80#8] ++ encRM 2#3 rm ++ [imm]
  | .adcRm16Imm16 rm imm => [0x81#8] ++ encRM 2#3 rm ++ le16 imm
  | .adcRm32Imm32 rm imm => [0x81#8] ++ encRM 2#3 rm ++ le32 imm
  | .adcRm16Imm8 rm imm => [0x83#8] ++ encRM 2#3 rm ++ [imm]
  | .adcRm32Imm8 rm imm => [0x83#8] ++ encRM 2#3 rm ++ [imm]
  | .adcRm8R8 rm r => [0x10#8] ++ encRM r rm
  | .adcRm16R16 rm r => [0x11#8] ++ encRM r rm
  | .adcRm32R32 rm r => [0x11#8] ++ encRM r rm
  | .adcR8Rm8 r rm => [0x12#8] ++ encRM r rm
  | .adcR16Rm16 r rm => [0x13#8] ++ encRM r rm
  | .adcR32Rm32 r rm => [0x13#8] ++ encRM r rm
  | .addAlImm8 imm => [0x04#8] ++ [imm]
  | .addAxImm16 imm => [0x05#8] ++ le16 imm
  | .addEaxImm32 imm => [0x05#8] ++ le32 imm
  | .addRm8Imm8 rm imm => [0x80#8] ++ encRM 0#3 rm ++ [imm]
  | .addRm16Imm16 rm imm => [0x81#8] ++ encRM 0#3 rm ++ le16 imm
  | .addRm32Imm32 rm imm => [0x81#8] ++ encRM 0#3 rm ++ le32 imm
  | .addRm16Imm8 rm imm => [0x83#8] ++ encRM 0#3 rm ++ [imm]
  | .addRm32Imm8 rm imm => [0x83#8] ++ encRM 0#3 rm ++ [imm]
  | .addRm8R8 rm r => [0x00#8] ++ encRM r rm
  | .addRm16R16 rm r => [0x01#8] ++ encRM r rm
  | .addRm32R32 rm r => [0x01#8] ++ encRM r rm
  | .addR8Rm8 r rm => [0x02#8] ++ encRM r rm
  | .addR16Rm16 r rm => [0x03#8] ++ encRM r rm
  | .addR32Rm32 r rm => [0x03#8] ++ encRM r rm
  | .cmpAlImm8 imm => [0x3c#8] ++ [imm]
  | .cmpAxImm16 imm => [0x3d#8] ++ le16 imm
  | .cmpEaxImm32 imm => [0x3d#8] ++ le32 imm
  | .cmpRm8Imm8 rm imm => [0x80#8] ++ encRM 7#3 rm ++ [imm]
  | .cmpRm16Imm16 rm imm => [0x81#8] ++ encRM 7#3 rm ++ le16 imm
  | .cmpRm32Imm32 rm imm => [0x81#8] ++ encRM 7#3 rm ++ le32 imm
  | .cmpRm16Imm8 rm imm => [0x83#8] ++ encRM 7#3 rm ++ [imm]
  | .cmpRm32Imm8 rm imm => [0x83#8] ++ encRM 7#3 rm ++ [imm]
  | .cmpRm8R8 rm r => [0x38#8] ++ encRM r rm
  | .cmpRm16R16 rm r => [0x39#8] ++ encRM r rm
  | .cmpRm32R32 rm r => [0x39#8] ++ encRM r rm
  | .cmpR8Rm8 r rm => [0x3a#8] ++ encRM r rm
  | .cmpR16Rm16 r rm => [0x3b#8] ++ encRM r rm
  | .cmpR32Rm32 r rm => [0x3b#8] ++ encRM r rm
  | .daa => [0x27#8]
  | .das => [0x2f#8]
  | .decRm8 rm => [0xfe#8] ++ encRM 1#3 rm
  | .decRm16 rm => [0xff#8] ++ encRM 1#3 rm
  | .decRm32 rm => [0xff#8] ++ encRM 1#3 rm
  | .decR16 r => [plusCode 0x48#8 r]
  | .decR32 r => [plusCode 0x48#8 r]
  | .divRm8 rm => [0xf6#8] ++ encRM 6#3 rm
  | .divRm16 rm => [0xf7#8] ++ encRM 6#3 rm
  | .divRm32 rm => [0xf7#8] ++ encRM 6#3 rm
  | .idivRm8 rm => [0xf6#8] ++ encRM 7#3 rm
  | .idivRm16 rm => [0xf7#8] ++ encRM 7#3 rm
  | .idivRm32 rm => [0xf7#8] ++ encRM 7#3 rm
  | .imulRm8 rm => [0xf6#8] ++ encRM 5#3 rm
  | .imulRm16 rm => [0xf7#8] ++ encRM 5#3 rm
  | .imulRm32 rm => [0xf7#8] ++ encRM 5#3 rm
  | .imulR16Rm16 r rm => [0x0f#8, 0xaf#8] ++ encRM r rm
  | .imulR32Rm32 r rm => [0x0f#8, 0xaf#8] ++ encRM r rm
  | .imulR16Rm16Imm8 r rm imm => [0x6b#8] ++ encRM r rm ++ [imm]
  | .imulR32Rm32Imm8 r rm imm => [0x6b#8] ++ encRM r rm ++ [imm]
  | .imulR16Rm16Imm16 r rm imm => [0x69#8] ++ encRM r rm ++ le16 imm
  | .imulR32Rm32Imm32 r rm imm => [0x69#8] ++ encRM r rm ++ le32 imm
  | .incRm8 rm => [0xfe#8] ++ encRM 0#3 rm
  | .incRm16 rm => [0xff#8] ++ encRM 0#3 rm
  | .incRm32 rm => [0xff#8] ++ encRM 0#3 rm
  | .incR16 r => [plusCode 0x40#8 r]
  | .incR32 r => [plusCode 0x40#8 r]
  | .mulRm8 rm => [0xf6#8] ++ encRM 4#3 rm
  | .mulRm16 rm => [0xf7#8] ++ encRM 4#3 rm
  | .mulRm32 rm => [0xf7#8] ++ encRM 4#3 rm
  | .negRm8 rm => [0xf6#8] ++ encRM 3#3 rm
  | .negRm16 rm => [0xf7#8] ++ encRM 3#3 rm
  | .negRm32 rm => [0xf7#8] ++ encRM 3#3 rm
  | .sbbAlImm8 imm => [0x1c#8] ++ [imm]
  | .sbbAxImm16 imm => [0x1d#8] ++ le16 imm
  | .sbbEaxImm32 imm => [0x1d#8] ++ le32 imm
  | .sbbRm8Imm8 rm imm => [0x80#8] ++ encRM 3#3 rm ++ [imm]
  | .sbbRm16Imm16 rm imm => [0x81#8] ++ encRM 3#3 rm ++ le16 imm
  | .sbbRm32Imm32 rm imm => [0x81#8] ++ encRM 3#3 rm ++ le32 imm
  | .sbbRm16Imm8 rm imm => [0x83#8] ++ encRM 3#3 rm ++ [imm]
  | .sbbRm32Imm8 rm imm => [0x83#8] ++ encRM 3#3 rm ++ [imm]
  | .sbbRm8R8 rm r => [0x18#8] ++ encRM r rm
  | .sbbRm16R16 rm r => [0x19#8] ++ encRM r rm
  | .sbbRm32R32 rm r => [0x19#8] ++ encRM r rm
  | .sbbR8Rm8 r rm => [0x1a#8] ++ encRM r rm
  | .sbbR16Rm16 r rm => [0x1b#8] ++ encRM r rm
  | .sbbR32Rm32 r rm => [0x1b#8] ++ encRM r rm
  | .subAlImm8 imm => [0x2c#8] ++ [imm]
  | .subAxImm16 imm => [0x2d#8] ++ le16 imm
  | .subEaxImm32 imm => [0x2d#8] ++ le32 imm
  | .subRm8Imm8 rm imm => [0x80#8] ++ encRM 5#3 rm ++ [imm]
  | .subRm16Imm16 rm imm => [0x81#8] ++ encRM 5#3 rm ++ le16 imm
  | .subRm32Imm32 rm imm => [0x81#8] ++ encRM 5#3 rm ++ le32 imm
  | .subRm16Imm8 rm imm => [0x83#8] ++ encRM 5#3 rm ++ [imm]
  | .subRm32Imm8 rm imm => [0x83#8] ++ encRM 5#3 rm ++ [imm]
  | .subRm8R8 rm r => [0x28#8] ++ encRM r rm
  | .subRm16R16 rm r => [0x29#8] ++ encRM r rm
  | .subRm32R32 rm r => [0x29#8] ++ encRM r rm
  | .subR8Rm8 r rm => [0x2a#8] ++ encRM r rm
  | .subR16Rm16 r rm => [0x2b#8] ++ encRM r rm
  | .subR32Rm32 r rm => [0x2b#8] ++ encRM r rm
  | .andAlImm8 imm => [0x24#8] ++ [imm]
  | .andAxImm16 imm => [0x25#8] ++ le16 imm
  | .andEaxImm32 imm => [0x25#8] ++ le32 imm
  | .andRm8Imm8 rm imm => [0x80#8] ++ encRM 4#3 rm ++ [imm]
  | .andRm16Imm16 rm imm => [0x81#8] ++ encRM 4#3 rm ++ le16 imm
  | .andRm32Imm32 rm imm => [0x81#8] ++ encRM 4#3 rm ++ le32 imm
  | .andRm16Imm8 rm imm => [0x83#8] ++ encRM 4#3 rm ++ [imm]
  | .andRm32Imm8 rm imm => [0x83#8] ++ encRM 4#3 rm ++ [imm]
  | .andRm8R8 rm r => [0x20#8] ++ encRM r rm
  | .andRm16R16 rm r => [0x21#8] ++ encRM r rm
  | .andRm32R32 rm r => [0x21#8] ++ encRM r rm
  | .andR8Rm8 r rm => [0x22#8] ++ encRM r rm
  | .andR16Rm16 r rm => [0x23#8] ++ encRM r rm
  | .andR32Rm32 r rm => [0x23#8] ++ encRM r rm
  | .bsfR16Rm16 r rm => [0x0f#8, 0xbc#8] ++ encRM r rm
  | .bsfR32Rm32 r rm => [0x0f#8, 0xbc#8] ++ encRM r rm
  | .bsrR16Rm16 r rm => [0x0f#8, 0xbd#8] ++ encRM r rm
  | .bsrR32Rm32 r rm => [0x0f#8, 0xbd#8] ++ encRM r rm
  | .btRm16R16 rm r => [0x0f#8, 0xa3#8] ++ encRM r rm
  | .btRm32R32 rm r => [0x0f#8, 0xa3#8] ++ encRM r rm
  | .btRm16Imm8 rm imm => [0x0f#8, 0xba#8] ++ encRM 4#3 rm ++ [imm]
  | .btRm32Imm8 rm imm => [0x0f#8, 0xba#8] ++ encRM 4#3 rm ++ [imm]
  | .btcRm16R16 rm r => [0x0f#8, 0xbb#8] ++ encRM r rm
  | .btcRm32R32 rm r => [0x0f#8, 0xbb#8] ++ encRM r rm
  | .btcRm16Imm8 rm imm => [0x0f#8, 0xba#8] ++ encRM 7#3 rm ++ [imm]
  | .btcRm32Imm8 rm imm => [0x0f#8, 0xba#8] ++ encRM 7#3 rm ++ [imm]
  | .btrRm16R16 rm r => [0x0f#8, 0xb3#8] ++ encRM r rm
  | .btrRm32R32 rm r => [0x0f#8, 0xb3#8] ++ encRM r rm
  | .btrRm16Imm8 rm imm => [0x0f#8, 0xba#8] ++ encRM 6#3 rm ++ [imm]
  | .btrRm32Imm8 rm imm => [0x0f#8, 0xba#8] ++ encRM 6#3 rm ++ [imm]
  | .btsRm16R16 rm r => [0x0f#8, 0xab#8] ++ encRM r rm
  | .btsRm32R32 rm r => [0x0f#8, 0xab#8] ++ encRM r rm
  | .btsRm16Imm8 rm imm => [0x0f#8, 0xba#8] ++ encRM 5#3 rm ++ [imm]
  | .btsRm32Imm8 rm imm => [0x0f#8, 0xba#8] ++ encRM 5#3 rm ++ [imm]
  | .notRm8 rm => [0xf6#8] ++ encRM 2#3 rm
  | .notRm16 rm => [0xf7#8] ++ encRM 2#3 rm
  | .notRm32 rm => [0xf7#8] ++ encRM 2#3 rm
  | .orAlImm8 imm => [0x0c#8] ++ [imm]
  | .orAxImm16 imm => [0x0d#8] ++ le16 imm
  | .orEaxImm32 imm => [0x0d#8] ++ le32 imm
  | .orRm8Imm8 rm imm => [0x80#8] ++ encRM 1#3 rm ++ [imm]
  | .orRm16Imm16 rm imm => [0x81#8] ++ encRM 1#3 rm ++ le16 imm
  | .orRm32Imm32 rm imm => [0x81#8] ++ encRM 1#3 rm ++ le32 imm
  | .orRm16Imm8 rm imm => [0x83#8] ++ encRM 1#3 rm ++ [imm]
  | .orRm32Imm8 rm imm => [0x83#8] ++ encRM 1#3 rm ++ [imm]
  | .orRm8R8 rm r => [0x08#8] ++ encRM r rm
  | .orRm16R16 rm r => [0x09#8] ++ encRM r rm
  | .orRm32R32 rm r => [0x09#8] ++ encRM r rm
  | .orR8Rm8 r rm => [0x0a#8] ++ encRM r rm
  | .orR16Rm16 r rm => [0x0b#8] ++ encRM r rm
  | .orR32Rm32 r rm => [0x0b#8] ++ encRM r rm
  | .rolRm8One rm => [0xd0#8] ++ encRM 0#3 rm
  | .rolRm8Cl rm => [0xd2#8] ++ encRM 0#3 rm
  | .rolRm8Imm8 rm imm => [0xc0#8] ++ encRM 0#3 rm ++ [imm]
  | .rolRm16One rm => [0xd1#8] ++ encRM 0#3 rm
  | .rolRm32One rm => [0xd1#8] ++ encRM 0#3 rm
  | .rolRm16Cl rm => [0xd3#8] ++ encRM 0#3 rm
  | .rolRm32Cl rm => [0xd3#8] ++ encRM 0#3 rm
  | .rolRm16Imm8 rm imm => [0xc1#8] ++ encRM 0#3 rm ++ [imm]
  | .rolRm32Imm8 rm imm => [0xc1#8] ++ encRM 0#3 rm ++ [imm]
  | .rorRm8One rm => [0xd0#8] ++ encRM 1#3 rm
  | .rorRm8Cl rm => [0xd2#8] ++ encRM 1#3 rm
  | .rorRm8Imm8 rm imm => [0xc0#8] ++ encRM 1#3 rm ++ [imm]
  | .rorRm16One rm => [0xd1#8] ++ encRM 1#3 rm
  | .rorRm32One rm => [0xd1#8] ++ encRM 1#3 rm
  | .rorRm16Cl rm => [0xd3#8] ++ encRM 1#3 rm
  | .rorRm32Cl rm => [0xd3#8] ++ encRM 1#3 rm
  | .rorRm16Imm8 rm imm => [0xc1#8] ++ encRM 1#3 rm ++ [imm]
  | .rorRm32Imm8 rm imm => [0xc1#8] ++ encRM 1#3 rm ++ [imm]
  | .rclRm8One rm => [0xd0#8] ++ encRM 2#3 rm
  | .rclRm8Cl rm => [0xd2#8] ++ encRM 2#3 rm
  | .rclRm8Imm8 rm imm => [0xc0#8] ++ encRM 2#3 rm ++ [imm]
  | .rclRm16One rm => [0xd1#8] ++ encRM 2#3 rm
  | .rclRm32One rm => [0xd1#8] ++ encRM 2#3 rm
  | .rclRm16Cl rm => [0xd3#8] ++ encRM 2#3 rm
  | .rclRm32Cl rm => [0xd3#8] ++ encRM 2#3 rm
  | .rclRm16Imm8 rm imm => [0xc1#8] ++ encRM 2#3 rm ++ [imm]
  | .rclRm32Imm8 rm imm => [0xc1#8] ++ encRM 2#3 rm ++ [imm]
  | .rcrRm8One rm => [0xd0#8] ++ encRM 3#3 rm
  | .rcrRm8Cl rm => [0xd2#8] ++ encRM 3#3 rm
  | .rcrRm8Imm8 rm imm => [0xc0#8] ++ encRM 3#3 rm ++ [imm]
  | .rcrRm16One rm => [0xd1#8] ++ encRM 3#3 rm
  | .rcrRm32One rm => [0xd1#8] ++ encRM 3#3 rm
  | .rcrRm16Cl rm => [0xd3#8] ++ encRM 3#3 rm
  | .rcrRm32Cl rm => [0xd3#8] ++ encRM 3#3 rm
  | .rcrRm16Imm8 rm imm => [0xc1#8] ++ encRM 3#3 rm ++ [imm]
  | .rcrRm32Imm8 rm imm => [0xc1#8] ++ encRM 3#3 rm ++ [imm]
  | .salRm8One rm => [0xd0#8] ++ encRM 4#3 rm
  | .salRm8Cl rm => [0xd2#8] ++ encRM 4#3 rm
  | .salRm8Imm8 rm imm => [0xc0#8] ++ encRM 4#3 rm ++ [imm]
  | .salRm16One rm => [0xd1#8] ++ encRM 4#3 rm
  | .salRm32One rm => [0xd1#8] ++ encRM 4#3 rm
  | .salRm16Cl rm => [0xd3#8] ++ encRM 4#3 rm
  | .salRm32Cl rm => [0xd3#8] ++ encRM 4#3 rm
  | .salRm16Imm8 rm imm => [0xc1#8] ++ encRM 4#3 rm ++ [imm]
  | .salRm32Imm8 rm imm => [0xc1#8] ++ encRM 4#3 rm ++ [imm]
  | .shrRm8One rm => [0xd0#8] ++ encRM 5#3 rm
  | .shrRm8Cl rm => [0xd2#8] ++ encRM 5#3 rm
  | .shrRm8Imm8 rm imm => [0xc0#8] ++ encRM 5#3 rm ++ [imm]
  | .shrRm16One rm => [0xd1#8] ++ encRM 5#3 rm
  | .shrRm32One rm => [0xd1#8] ++ encRM 5#3 rm
  | .shrRm16Cl rm => [0xd3#8] ++ encRM 5#3 rm
  | .shrRm32Cl rm => [0xd3#8] ++ encRM 5#3 rm
  | .shrRm16Imm8 rm imm => [0xc1#8] ++ encRM 5#3 rm ++ [imm]
  | .shrRm32Imm8 rm imm => [0xc1#8] ++ encRM 5#3 rm ++ [imm]
  | .sarRm8One rm => [0xd0#8] ++ encRM 7#3 rm
  | .sarRm8Cl rm => [0xd2#8] ++ encRM 7#3 rm
  | .sarRm8Imm8 rm imm => [0xc0#8] ++ encRM 7#3 rm ++ [imm]
  | .sarRm16One rm => [0xd1#8] ++ encRM 7#3 rm
  | .sarRm32One rm => [0xd1#8] ++ encRM 7#3 rm
  | .sarRm16Cl rm => [0xd3#8] ++ encRM 7#3 rm
  | .sarRm32Cl rm => [0xd3#8] ++ encRM 7#3 rm
  | .sarRm16Imm8 rm imm => [0xc1#8] ++ encRM 7#3 rm ++ [imm]
  | .sarRm32Imm8 rm imm => [0xc1#8] ++ encRM 7#3 rm ++ [imm]
  | .setoRm8 rm => [0x0f#8, 0x90#8] ++ encRM 0#3 rm
  | .setnoRm8 rm => [0x0f#8, 0x91#8] ++ encRM 0#3 rm
  | .setbRm8 rm => [0x0f#8, 0x92#8] ++ encRM 0#3 rm
  | .setaeRm8 rm => [0x0f#8, 0x93#8] ++ encRM 0#3 rm
  | .seteRm8 rm => [0x0f#8, 0x94#8] ++ encRM 0#3 rm
  | .setneRm8 rm => [0x0f#8, 0x95#8] ++ encRM 0#3 rm
  | .setbeRm8 rm => [0x0f#8, 0x96#8] ++ encRM 0#3 rm
  | .setaRm8 rm => [0x0f#8, 0x97#8] ++ encRM 0#3 rm
  | .setsRm8 rm => [0x0f#8, 0x98#8] ++ encRM 0#3 rm
  | .setnsRm8 rm => [0x0f#8, 0x99#8] ++ encRM 0#3 rm
  | .setpRm8 rm => [0x0f#8, 0x9a#8] ++ encRM 0#3 rm
  | .setnpRm8 rm => [0x0f#8, 0x9b#8] ++ encRM 0#3 rm
  | .setlRm8 rm => [0x0f#8, 0x9c#8] ++ encRM 0#3 rm
  | .setgeRm8 rm => [0x0f#8, 0x9d#8] ++ encRM 0#3 rm
  | .setleRm8 rm => [0x0f#8, 0x9e#8] ++ encRM 0#3 rm
  | .setgRm8 rm => [0x0f#8, 0x9f#8] ++ encRM 0#3 rm
  | .shldRm16R16Imm8 rm r imm => [0x0f#8, 0xa4#8] ++ encRM r rm ++ [imm]
  | .shldRm32R32Imm8 rm r imm => [0x0f#8, 0xa4#8] ++ encRM r rm ++ [imm]
  | .shldRm16R16Cl rm r => [0x0f#8, 0xa5#8] ++ encRM r rm
  | .shldRm32R32Cl rm r => [0x0f#8, 0xa5#8] ++ encRM r rm
  | .shrdRm16R16Imm8 rm r imm => [0x0f#8, 0xac#8] ++ encRM r rm ++ [imm]
  | .shrdRm32R32Imm8 rm r imm => [0x0f#8, 0xac#8] ++ encRM r rm ++ [imm]
  | .shrdRm16R16Cl rm r => [0x0f#8, 0xad#8] ++ encRM r rm
  | .shrdRm32R32Cl rm r => [0x0f#8, 0xad#8] ++ encRM r rm
  | .testAlImm8 imm => [0xa8#8] ++ [imm]
  | .testAxImm16 imm => [0xa9#8] ++ le16 imm
  | .testEaxImm32 imm => [0xa9#8] ++ le32 imm
  | .testRm8Imm8 rm imm => [0xf6#8] ++ encRM 0#3 rm ++ [imm]
  | .testRm16Imm16 rm imm => [0xf7#8] ++ encRM 0#3 rm ++ le16 imm
  | .testRm32Imm32 rm imm => [0xf7#8] ++ encRM 0#3 rm ++ le32 imm
  | .testRm8R8 rm r => [0x84#8] ++ encRM r rm
  | .testRm16R16 rm r => [0x85#8] ++ encRM r rm
  | .testRm32R32 rm r => [0x85#8] ++ encRM r rm
  | .xorAlImm8 imm => [0x34#8] ++ [imm]
  | .xorAxImm16 imm => [0x35#8] ++ le16 imm
  | .xorEaxImm32 imm => [0x35#8] ++ le32 imm
  | .xorRm8Imm8 rm imm => [0x80#8] ++ encRM 6#3 rm ++ [imm]
  | .xorRm16Imm16 rm imm => [0x81#8] ++ encRM 6#3 rm ++ le16 imm
  | .xorRm32Imm32 rm imm => [0x81#8] ++ encRM 6#3 rm ++ le32 imm
  | .xorRm16Imm8 rm imm => [0x83#8] ++ encRM 6#3 rm ++ [imm]
  | .xorRm32Imm8 rm imm => [0x83#8] ++ encRM 6#3 rm ++ [imm]
  | .xorRm8R8 rm r => [0x30#8] ++ encRM r rm
  | .xorRm16R16 rm r => [0x31#8] ++ encRM r rm
  | .xorRm32R32 rm r => [0x31#8] ++ encRM r rm
  | .xorR8Rm8 r rm => [0x32#8] ++ encRM r rm
  | .xorR16Rm16 r rm => [0x33#8] ++ encRM r rm
  | .xorR32Rm32 r rm => [0x33#8] ++ encRM r rm
  | .callRel16 rel => [0xe8#8] ++ le16 rel
  | .callRel32 rel => [0xe8#8] ++ le32 rel
  | .callRm16 rm => [0xff#8] ++ encRM 2#3 rm
  | .callRm32 rm => [0xff#8] ++ encRM 2#3 rm
  | .callPtr16x16 sel off => [0x9a#8] ++ le16 off ++ le16 sel
  | .callPtr16x32 sel off => [0x9a#8] ++ le32 off ++ le16 sel
  | .callM16x16 ea => [0xff#8] ++ encEa 3#3 ea
  | .callM16x32 ea => [0xff#8] ++ encEa 3#3 ea
  | .int3 => [0xcc#8]
  | .intImm8 imm => [0xcd#8] ++ [imm]
  | .into => [0xce#8]
  | .iret => [0xcf#8]
  | .iretd => [0xcf#8]
  | .joRel8 rel => [0x70#8] ++ [rel]
  | .jnoRel8 rel => [0x71#8] ++ [rel]
  | .jbRel8 rel => [0x72#8] ++ [rel]
  | .jaeRel8 rel => [0x73#8] ++ [rel]
  | .jeRel8 rel => [0x74#8] ++ [rel]
  | .jneRel8 rel => [0x75#8] ++ [rel]
  | .jbeRel8 rel => [0x76#8] ++ [rel]
  | .jaRel8 rel => [0x77#8] ++ [rel]
  | .jsRel8 rel => [0x78#8] ++ [rel]
  | .jnsRel8 rel => [0x79#8] ++ [rel]
  | .jpRel8 rel => [0x7a#8] ++ [rel]
  | .jnpRel8 rel => [0x7b#8] ++ [rel]
  | .jlRel8 rel => [0x7c#8] ++ [rel]
  | .jgeRel8 rel => [0x7d#8] ++ [rel]
  | .jleRel8 rel => [0x7e#8] ++ [rel]
  | .jgRel8 rel => [0x7f#8] ++ [rel]
  | .joRel16 rel => [0x0f#8, 0x80#8] ++ le16 rel
  | .jnoRel16 rel => [0x0f#8, 0x81#8] ++ le16 rel
  | .jbRel16 rel => [0x0f#8, 0x82#8] ++ le16 rel
  | .jaeRel16 rel => [0x0f#8, 0x83#8] ++ le16 rel
  | .jeRel16 rel => [0x0f#8, 0x84#8] ++ le16 rel
  | .jneRel16 rel => [0x0f#8, 0x85#8] ++ le16 rel
  | .jbeRel16 rel => [0x0f#8, 0x86#8] ++ le16 rel
  | .jaRel16 rel => [0x0f#8, 0x87#8] ++ le16 rel
  | .jsRel16 rel => [0x0f#8, 0x88#8] ++ le16 rel
  | .jnsRel16 rel => [0x0f#8, 0x89#8] ++ le16 rel
  | .jpRel16 rel => [0x0f#8, 0x8a#8] ++ le16 rel
  | .jnpRel16 rel => [0x0f#8, 0x8b#8] ++ le16 rel
  | .jlRel16 rel => [0x0f#8, 0x8c#8] ++ le16 rel
  | .jgeRel16 rel => [0x0f#8, 0x8d#8] ++ le16 rel
  | .jleRel16 rel => [0x0f#8, 0x8e#8] ++ le16 rel
  | .jgRel16 rel => [0x0f#8, 0x8f#8] ++ le16 rel
  | .joRel32 rel => [0x0f#8, 0x80#8] ++ le32 rel
  | .jnoRel32 rel => [0x0f#8, 0x81#8] ++ le32 rel
  | .jbRel32 rel => [0x0f#8, 0x82#8] ++ le32 rel
  | .jaeRel32 rel => [0x0f#8, 0x83#8] ++ le32 rel
  | .jeRel32 rel => [0x0f#8, 0x84#8] ++ le32 rel
  | .jneRel32 rel => [0x0f#8, 0x85#8] ++ le32 rel
  | .jbeRel32 rel => [0x0f#8, 0x86#8] ++ le32 rel
  | .jaRel32 rel => [0x0f#8, 0x87#8] ++ le32 rel
  | .jsRel32 rel => [0x0f#8, 0x88#8] ++ le32 rel
  | .jnsRel32 rel => [0x0f#8, 0x89#8] ++ le32 rel
  | .jpRel32 rel => [0x0f#8, 0x8a#8] ++ le32 rel
  | .jnpRel32 rel => [0x0f#8, 0x8b#8] ++ le32 rel
  | .jlRel32 rel => [0x0f#8, 0x8c#8] ++ le32 rel
  | .jgeRel32 rel => [0x0f#8, 0x8d#8] ++ le32 rel
  | .jleRel32 rel => [0x0f#8, 0x8e#8] ++ le32 rel
  | .jgRel32 rel => [0x0f#8, 0x8f#8] ++ le32 rel
  | .jcxzRel8 rel => [0xe3#8] ++ [rel]
  | .jecxzRel8 rel => [0xe3#8] ++ [rel]
  | .jmpRel8 rel => [0xeb#8] ++ [rel]
  | .jmpRel16 rel => [0xe9#8] ++ le16 rel
  | .jmpRel32 rel => [0xe9#8] ++ le32 rel
  | .jmpRm16 rm => [0xff#8] ++ encRM 4#3 rm
  | .jmpRm32 rm => [0xff#8] ++ encRM 4#3 rm
  | .jmpPtr16x16 sel off => [0xea#8] ++ le16 off ++ le16 sel
  | .jmpPtr16x32 sel off => [0xea#8] ++ le32 off ++ le16 sel
  | .jmpM16x16 ea => [0xff#8] ++ encEa 5#3 ea
  | .jmpM16x32 ea => [0xff#8] ++ encEa 5#3 ea
  | .retNear => [0xc3#8]
  | .retNearImm16 imm => [0xc2#8] ++ le16 imm
  | .retFar => [0xcb#8]
  | .retFarImm16 imm => [0xca#8] ++ le16 imm
  | .boundR16M16a16 r ea => [0x62#8] ++ encEa r ea
  | .boundR32M32a32 r ea => [0x62#8] ++ encEa r ea
  | .enterImm16Imm8 size level => [0xc8#8] ++ le16 size ++ [level]
  | .leave => [0xc9#8]
  | .loopRel8 rel => [0xe2#8] ++ [rel]
  | .loopeRel8 rel => [0xe1#8] ++ [rel]
  | .loopneRel8 rel => [0xe0#8] ++ [rel]
  | .ud2 => [0x0f#8, 0x0b#8]
  | .cmpsb => [0xa6#8]
  | .cmpsw => [0xa7#8]
  | .cmpsd => [0xa7#8]
  | .inAlImm8 imm => [0xe4#8] ++ [imm]
  | .inAxImm8 imm => [0xe5#8] ++ [imm]
  | .inEaxImm8 imm => [0xe5#8] ++ [imm]
  | .inAlDx => [0xec#8]
  | .inAxDx => [0xed#8]
  | .inEaxDx => [0xed#8]
  | .insb => [0x6c#8]
  | .insw => [0x6d#8]
  | .insd => [0x6d#8]
  | .lodsb => [0xac#8]
  | .lodsw => [0xad#8]
  | .lodsd => [0xad#8]
  | .movsb => [0xa4#8]
  | .movsw => [0xa5#8]
  | .movsd => [0xa5#8]
  | .outImm8Al imm => [0xe6#8] ++ [imm]
  | .outImm8Ax imm => [0xe7#8] ++ [imm]
  | .outImm8Eax imm => [0xe7#8] ++ [imm]
  | .outDxAl => [0xee#8]
  | .outDxAx => [0xef#8]
  | .outDxEax => [0xef#8]
  | .outsb => [0x6e#8]
  | .outsw => [0x6f#8]
  | .outsd => [0x6f#8]
  | .scasb => [0xae#8]
  | .scasw => [0xaf#8]
  | .scasd => [0xaf#8]
  | .stosb => [0xaa#8]
  | .stosw => [0xab#8]
  | .stosd => [0xab#8]
  | .clc => [0xf8#8]
  | .cld => [0xfc#8]
  | .cli => [0xfa#8]
  | .cmc => [0xf5#8]
  | .lahf => [0x9f#8]
  | .ldsR16M16x16 r ea => [0xc5#8] ++ encEa r ea
  | .ldsR32M16x32 r ea => [0xc5#8] ++ encEa r ea
  | .lssR16M16x16 r ea => [0x0f#8, 0xb2#8] ++ encEa r ea
  | .lssR32M16x32 r ea => [0x0f#8, 0xb2#8] ++ encEa r ea
  | .lesR16M16x16 r ea => [0xc4#8] ++ encEa r ea
  | .lesR32M16x32 r ea => [0xc4#8] ++ encEa r ea
  | .lfsR16M16x16 r ea => [0x0f#8, 0xb4#8] ++ encEa r ea
  | .lfsR32M16x32 r ea => [0x0f#8, 0xb4#8] ++ encEa r ea
  | .lgsR16M16x16 r ea => [0x0f#8, 0xb5#8] ++ encEa r ea
  | .lgsR32M16x32 r ea => [0x0f#8, 0xb5#8] ++ encEa r ea
  | .leaR16M r ea => [0x8d#8] ++ encEa r ea
  | .leaR32M r ea => [0x8d#8] ++ encEa r ea
  | .cpuid => [0x0f#8, 0xa2#8]
  | .nop => [0x90#8]
  | .popf => [0x9d#8]
  | .popfd => [0x9d#8]
  | .pushf => [0x9c#8]
  | .pushfd => [0x9c#8]
  | .sahf => [0x9e#8]
  | .stc => [0xf9#8]
  | .std => [0xfd#8]
  | .sti => [0xfb#8]
  | .feni => [0xdb#8, 0xe0#8]
  | .fdisi => [0xdb#8, 0xe1#8]
  | .fsetpm => [0xdb#8, 0xe4#8]
  | .fbldM80dec ea => [0xdf#8] ++ encEa 4#3 ea
  | .fbstpM80bcd ea => [0xdf#8] ++ encEa 6#3 ea
  | .fcmovbSt0Sti i => [0xda#8, plusCode 0xc0#8 i]
  | .fcmoveSt0Sti i => [0xda#8, plusCode 0xc8#8 i]
  | .fcmovbeSt0Sti i => [0xda#8, plusCode 0xd0#8 i]
  | .fcmovuSt0Sti i => [0xda#8, plusCode 0xd8#8 i]
  | .fcmovnbSt0Sti i => [0xdb#8, plusCode 0xc0#8 i]
  | .fcmovneSt0Sti i => [0xdb#8, plusCode 0xc8#8 i]
  | .fcmovnbeSt0Sti i => [0xdb#8, plusCode 0xd0#8 i]
  | .fcmovnuSt0Sti i => [0xdb#8, plusCode 0xd8#8 i]
  | .fcomM32real ea => [0xd8#8] ++ encEa 2#3 ea
  | .fcomM64real ea => [0xdc#8] ++ encEa 2#3 ea
  | .fcomSti i => [0xd8#8, plusCode 0xd0#8 i]
  | .fcompM32real ea => [0xd8#8] ++ encEa 3#3 ea
  | .fcompM64real ea => [0xdc#8] ++ encEa 3#3 ea
  | .fcompSti i => [0xd8#8, plusCode 0xd8#8 i]
  | .fcompp => [0xde#8, 0xd9#8]
  | .fcomiSt0Sti i => [0xdb#8, plusCode 0xf0#8 i]
  | .fcomipSt0Sti i => [0xdf#8, plusCode 0xf0#8 i]
  | .fucomiSt0Sti i => [0xdb#8, plusCode 0xe8#8 i]
  | .fucomipSt0Sti i => [0xdf#8, plusCode 0xe8#8 i]
  | .ficomM16int ea => [0xde#8] ++ encEa 2#3 ea
  | .ficomM32int ea => [0xda#8] ++ encEa 2#3 ea
  | .ficompM16int ea => [0xde#8] ++ encEa 3#3 ea
  | .ficompM32int ea => [0xda#8] ++ encEa 3#3 ea
  | .fildM16int ea => [0xdf#8] ++ encEa 0#3 ea
  | .fildM32int ea => [0xdb#8] ++ encEa 0#3 ea
  | .fildM64int ea => [0xdf#8] ++ encEa 5#3 ea
  | .fistM16int ea => [0xdf#8] ++ encEa 2#3 ea
  | .fistM32int ea => [0xdb#8] ++ encEa 2#3 ea
  | .fistpM16int ea => [0xdf#8] ++ encEa 3#3 ea
  | .fistpM32int ea => [0xdb#8] ++ encEa 3#3 ea
  | .fistpM64int ea => [0xdf#8] ++ encEa 7#3 ea
  | .fldM32real ea => [0xd9#8] ++ encEa 0#3 ea
  | .fldM64real ea => [0xdd#8] ++ encEa 0#3 ea
  | .fldM80real ea => [0xdb#8] ++ encEa 5#3 ea
  | .fldSti i => [0xd9#8, plusCode 0xc0#8 i]
  | .fld1 => [0xd9#8, 0xe8#8]
  | .fldl2t => [0xd9#8, 0xe9#8]
  | .fldl2e => [0xd9#8, 0xea#8]
  | .fldpi => [0xd9#8, 0xeb#8]
  | .fldlg2 => [0xd9#8, 0xec#8]
  | .fldln2 => [0xd9#8, 0xed#8]
  | .fldz => [0xd9#8, 0xee#8]
  | .fstM32real ea => [0xd9#8] ++ encEa 2#3 ea
  | .fstM64real ea => [0xdd#8] ++ encEa 2#3 ea
  | .fstSti i => [0xdd#8, plusCode 0xd0#8 i]
  | .fstpM32real ea => [0xd9#8] ++ encEa 3#3 ea
  | .fstpM64real ea => [0xdd#8] ++ encEa 3#3 ea
  | .fstpM80real ea => [0xdb#8] ++ encEa 7#3 ea
  | .fstpSti i => [0xdd#8, plusCode 0xd8#8 i]
  | .ftst => [0xd9#8, 0xe4#8]
  | .fucomSti i => [0xdd#8, plusCode 0xe0#8 i]
  | .fucompSti i => [0xdd#8, plusCode 0xe8#8 i]
  | .fucompp => [0xda#8, 0xe9#8]
  | .fxam => [0xd9#8, 0xe5#8]
  | .fxchSti i => [0xd9#8, plusCode 0xc8#8 i]
  | .fabs => [0xd9#8, 0xe1#8]
  | .faddM32real ea => [0xd8#8] ++ encEa 0#3 ea
  | .faddM64real ea => [0xdc#8] ++ encEa 0#3 ea
  | .faddSt0Sti i => [0xd8#8, plusCode 0xc0#8 i]
  | .faddStiSt0 i => [0xdc#8, plusCode 0xc0#8 i]
  | .faddpStiSt0 i => [0xde#8, plusCode 0xc0#8 i]
  | .fiaddM32int ea => [0xda#8] ++ encEa 0#3 ea
  | .fiaddM16int ea => [0xde#8] ++ encEa 0#3 ea
  | .fchs => [0xd9#8, 0xe0#8]
  | .fdivM32real ea => [0xd8#8] ++ encEa 6#3 ea
  | .fdivM64real ea => [0xdc#8] ++ encEa 6#3 ea
  | .fdivSt0Sti i => [0xd8#8, plusCode 0xf0#8 i]
  | .fdivStiSt0 i => [0xdc#8, plusCode 0xf8#8 i]
  | .fdivpStiSt0 i => [0xde#8, plusCode 0xf8#8 i]
  | .fidivM32int ea => [0xda#8] ++ encEa 6#3 ea
  | .fidivM16int ea => [0xde#8] ++ encEa 6#3 ea
  | .fdivrM32real ea => [0xd8#8] ++ encEa 7#3 ea
  | .fdivrM64real ea => [0xdc#8] ++ encEa 7#3 ea
  | .fdivrSt0Sti i => [0xd8#8, plusCode 0xf8#8 i]
  | .fdivrStiSt0 i => [0xdc#8, plusCode 0xf0#8 i]
  | .fdivrpStiSt0 i => [0xde#8, plusCode 0xf0#8 i]
  | .fidivrM32int ea => [0xda#8] ++ encEa 7#3 ea
  | .fidivrM16int ea => [0xde#8] ++ encEa 7#3 ea
  | .fmulM32real ea => [0xd8#8] ++ encEa 1#3 ea
  | .fmulM64real ea => [0xdc#8] ++ encEa 1#3 ea
  | .fmulSt0Sti i => [0xd8#8, plusCode 0xc8#8 i]
  | .fmulStiSt0 i => [0xdc#8, plusCode 0xc8#8 i]
  | .fmulpStiSt0 i => [0xde#8, plusCode 0xc8#8 i]
  | .fimulM32int ea => [0xda#8] ++ encEa 1#3 ea
  | .fimulM16int ea => [0xde#8] ++ encEa 1#3 ea
  | .fprem => [0xd9#8, 0xf8#8]
  | .fprem1 => [0xd9#8, 0xf5#8]
  | .frndint => [0xd9#8, 0xfc#8]
  | .fscale => [0xd9#8, 0xfd#8]
  | .fsqrt => [0xd9#8, 0xfa#8]
  | .fsubM32real ea => [0xd8#8] ++ encEa 4#3 ea
  | .fsubM64real ea => [0xdc#8] ++ encEa 4#3 ea
  | .fsubSt0Sti i => [0xd8#8, plusCode 0xe0#8 i]
  | .fsubStiSt0 i => [0xdc#8, plusCode 0xe8#8 i]
  | .fsubpStiSt0 i => [0xde#8, plusCode 0xe8#8 i]
  | .fisubM32int ea => [0xda#8] ++ encEa 4#3 ea
  | .fisubM16int ea => [0xde#8] ++ encEa 4#3 ea
  | .fsubrM32real ea => [0xd8#8] ++ encEa 5#3 ea
  | .fsubrM64real ea => [0xdc#8] ++ encEa 5#3 ea
  | .fsubrSt0Sti i => [0xd8#8, plusCode 0xe8#8 i]
  | .fsubrStiSt0 i => [0xdc#8, plusCode 0xe0#8 i]
  | .fsubrpStiSt0 i => [0xde#8, plusCode 0xe0#8 i]
  | .fisubrM32int ea => [0xda#8] ++ encEa 5#3 ea
  | .fisubrM16int ea => [0xde#8] ++ encEa 5#3 ea
  | .fxtract => [0xd9#8, 0xf4#8]
  | .f2xm1 => [0xd9#8, 0xf0#8]
  | .fcos => [0xd9#8, 0xff#8]
  | .fpatan => [0xd9#8, 0xf3#8]
  | .fptan => [0xd9#8, 0xf2#8]
  | .fsin => [0xd9#8, 0xfe#8]
  | .fsincos => [0xd9#8, 0xfb#8]
  | .fyl2x => [0xd9#8, 0xf1#8]
  | .fyl2xp1 => [0xd9#8, 0xf9#8]
  | .fnclex => [0xdb#8, 0xe2#8]
  | .fclex => [0x9b#8, 0xdb#8, 0xe2#8]
  | .fdecstp => [0xd9#8, 0xf6#8]
  | .ffreeSti i => [0xdd#8, plusCode 0xc0#8 i]
  | .fincstp => [0xd9#8, 0xf7#8]
  | .fninit => [0xdb#8, 0xe3#8]
  | .finit => [0x9b#8, 0xdb#8, 0xe3#8]
  | .fldcwM2byte ea => [0xd9#8] ++ encEa 5#3 ea
  | .fldenvMEnv ea => [0xd9#8] ++ encEa 4#3 ea
  | .fnop => [0xd9#8, 0xd0#8]
  | .frstorMState ea => [0xdd#8] ++ encEa 4#3 ea
  | .fnsaveMState ea => [0xdd#8] ++ encEa 6#3 ea
  | .fsaveMState ea => [0x9b#8, 0xdd#8] ++ encEa 6#3 ea
  | .fnstcwM2byte ea => [0xd9#8] ++ encEa 7#3 ea
  | .fstcwM2byte ea => [0x9b#8, 0xd9#8] ++ encEa 7#3 ea
  | .fnstenvMEnv ea => [0xd9#8] ++ encEa 6#3 ea
  | .fstenvMEnv ea => [0x9b#8, 0xd9#8] ++ encEa 6#3 ea
  | .fnstswM2byte ea => [0xdd#8] ++ encEa 7#3 ea
  | .fnstswAx => [0xdf#8, 0xe0#8]
  | .fstswM2byte ea => [0x9b#8, 0xdd#8] ++ encEa 7#3 ea
  | .fstswAx => [0x9b#8, 0xdf#8, 0xe0#8]
  | .wait => [0x9b#8]
  | .arplRm16R16 rm r => [0x63#8] ++ encRM r rm
  | .clts => [0x0f#8, 0x06#8]
  | .hlt => [0xf4#8]
  | .invd => [0x0f#8, 0x08#8]
  | .invlpgM ea => [0x0f#8, 0x01#8] ++ encEa 7#3 ea
  | .larR16Rm16 r rm => [0x0f#8, 0x02#8] ++ encRM r rm
  | .larR32Rm32 r rm => [0x0f#8, 0x02#8] ++ encRM r rm
  | .lgdtM16a32 ea => [0x0f#8, 0x01#8] ++ encEa 2#3 ea
  | .lidtM16a32 ea => [0x0f#8, 0x01#8] ++ encEa 3#3 ea
  | .lldtRm16 rm => [0x0f#8, 0x00#8] ++ encRM 2#3 rm
  | .lmswRm16 rm => [0x0f#8, 0x01#8] ++ encRM 6#3 rm
  | .lslR16Rm16 r rm => [0x0f#8, 0x03#8] ++ encRM r rm
  | .lslR32Rm32 r rm => [0x0f#8, 0x03#8] ++ encRM r rm
  | .ltrRm16 rm => [0x0f#8, 0x00#8] ++ encRM 3#3 rm
  | .movCRnR32 n r => [0x0f#8, 0x22#8] ++ [packByte 3#2 n r]
  | .movR32CRn r n => [0x0f#8, 0x20#8] ++ [packByte 3#2 n r]
  | .movR32DRn r n => [0x0f#8, 0x21#8] ++ [packByte 3#2 n r]
  | .movDRnR32 n r => [0x0f#8, 0x23#8] ++ [packByte 3#2 n r]
  | .rdmsr => [0x0f#8, 0x32#8]
  | .rdpmc => [0x0f#8, 0x33#8]
  | .rdtsc => [0x0f#8, 0x31#8]
  | .rsm => [0x0f#8, 0xaa#8]
  | .sgdtM ea => [0x0f#8, 0x01#8] ++ encEa 0#3 ea
  | .sidtM ea => [0x0f#8, 0x01#8] ++ encEa 1#3 ea
  | .sldtRm16 rm => [0x0f#8, 0x00#8] ++ encRM 0#3 rm
  | .sldtRm32 rm => [0x0f#8, 0x00#8] ++ encRM 0#3 rm
  | .smswRm16 rm => [0x0f#8, 0x01#8] ++ encRM 4#3 rm
  | .smswR32M16 rm => [0x0f#8, 0x01#8] ++ encRM 4#3 rm
  | .strRm16 rm => [0x0f#8, 0x00#8] ++ encRM 1#3 rm
  | .verrRm16 rm => [0x0f#8, 0x00#8] ++ encRM 4#3 rm
  | .verwRm16 rm => [0x0f#8, 0x00#8] ++ encRM 5#3 rm
  | .wbinvd => [0x0f#8, 0x09#8]
  | .wrmsr => [0x0f#8, 0x30#8]

end Sys2Proof
end

