-- ==== Sys2Proof/Machine/FpuNum.lean ====
section
/-! DEFINITION. Floating-point numerics (46_fpu_numerics.md R530 to R548, R550): value classes, exact values, rounding, and
what one arithmetic operation, load or store answers with which exception flags. -/

namespace Sys2Proof.Machine

/-! ## Extended-real values and their classes (R531, R532) -/

/-- The sign bit. -/
def xSign (x : Ext) : Bool := x.getLsbD 79
/-- The biased exponent. -/
def xExp (x : Ext) : Nat := (x.extractLsb' 64 15).toNat
/-- The 64-bit significand. -/
def xSig (x : Ext) : Nat := (x.extractLsb' 0 64).toNat

/-- An extended real from sign, biased exponent and significand. -/
def mkExt (sign : Bool) (e sig : Nat) : Ext := BitVec.ofBool sign ++ BitVec.ofNat 15 e ++ BitVec.ofNat 64 sig

/-- `Class(x)` (R532). -/
inductive FpClass where
  | zero | denormal | normal | infinity | snan | qnan | unsupported
deriving DecidableEq, Repr

/-- The integer bit J. -/
def xInteger (x : Ext) : Bool := x.getLsbD 63

/-- The class of an extended real (R531, R532). A pseudo-denormal is a denormal. -/
def classOf (x : Ext) : FpClass :=
  if xExp x = 0 then (if xSig x = 0 then .zero else .denormal)
  else if !xInteger x then .unsupported
  else if xExp x = 0x7FFF then
    (if xSig x = 2 ^ 63 then .infinity else if x.getLsbD 62 then .qnan else .snan)
  else .normal

/-- A NaN. -/
def isNan (x : Ext) : Bool := classOf x == .snan || classOf x == .qnan
/-- An infinity. -/
def isInf (x : Ext) : Bool := classOf x == .infinity
/-- A zero. -/
def isZero (x : Ext) : Bool := classOf x == .zero

/-- A signed zero. -/
def zeroExt (sign : Bool) : Ext := mkExt sign 0 0
/-- A signed infinity. -/
def infExt (sign : Bool) : Ext := mkExt sign 0x7FFF (2 ^ 63)
/-- +1.0. -/
def oneExt : Ext := mkExt false 0x3FFF (2 ^ 63)
/-- The real indefinite (R531). -/
def indefinite : Ext := mkExt true 0x7FFF (3 * 2 ^ 62)
/-- An SNaN converted into a QNaN: bit 62 set (R543). -/
def quiet (x : Ext) : Ext := x ||| (1#80 <<< 62)
/-- The sign replaced. -/
def withSign (x : Ext) (sign : Bool) : Ext := BitVec.ofBool sign ++ x.extractLsb' 0 79
/-- The sign flipped. -/
def negExt (x : Ext) : Ext := withSign x (!xSign x)

/-- Of two NaNs the one with the larger significand; with equal significands the positive one (R543, D76). -/
def largerNan (a b : Ext) : Ext :=
  if xSig b < xSig a then a else if xSig a < xSig b then b else if xSign a then b else a

/-- The NaN result of an operation with a NaN operand (R543, Table 7-18). -/
def nanResult : List Ext → Ext
  | [a] => quiet a
  | [a, b] =>
    if isNan a && isNan b then
      (if classOf a == .snan && classOf b == .qnan then b
       else if classOf a == .qnan && classOf b == .snan then a
       else quiet (largerNan a b))
    else if isNan a then quiet a
    else quiet b
  | _ => indefinite

/-! ## Exact values -/

/-- The exact number (-1)^sign * mant * 2^exp. -/
structure Dyadic where
  sign : Bool
  mant : Nat
  exp : Int
deriving DecidableEq, Repr

/-- The number of bits of a natural number. -/
def bitLength (n : Nat) : Nat := if n = 0 then 0 else n.log2 + 1

/-- The value of a zero, denormal or normal extended real (R531, R532). -/
def valueOf (x : Ext) : Dyadic := { sign := xSign x, mant := xSig x, exp := (max (xExp x) 1 : Nat) - 16446 }

/-- The signed mantissa at a smaller exponent. -/
def Dyadic.scaled (d : Dyadic) (e : Int) : Int :=
  let m : Nat := d.mant * 2 ^ (d.exp - e).toNat
  if d.sign then -(m : Int) else m

/-- Unbiased exponent of a number that is not zero: 2^k <= |d| < 2^(k+1). -/
def Dyadic.top (d : Dyadic) : Int := d.exp + bitLength d.mant - 1

/-- A number from a signed mantissa. -/
def Dyadic.ofInt (n : Int) (e : Int) : Dyadic := { sign := decide (n < 0), mant := n.natAbs, exp := e }

/-- The order of two values that are no NaN, in the affine sense, -0 = +0 (R533): a key that rises with the value. -/
def orderKey (x : Ext) : Int :=
  let k : Int := (max (xExp x) 1 * 2 ^ 64 + xSig x : Nat) - 2 ^ 64
  if xSign x then -k else k

/-- An integer as an extended real, exact for 64 bits (R548). -/
def extOfInt (n : Int) : Ext :=
  let m := n.natAbs
  if m = 0 then zeroExt false
  else mkExt (decide (n < 0)) (16382 + bitLength m) (m * 2 ^ (64 - bitLength m))

/-! ## Rounding (R544) -/

/-- RC: bits 11:10 of the control word (10_state.md R101). -/
def rcOf (cw : Word) : BitVec 2 := cw.extractLsb' 10 2

/-- RC = 01B, toward -infinity. -/
def roundDown (cw : Word) : Bool := rcOf cw == 1#2

/-- A rounded number: mant * 2^exp, whether it is inexact, and whether its magnitude was increased. -/
structure Rounded where
  mant : Nat
  exp : Int
  inexact : Bool
  up : Bool
deriving DecidableEq, Repr

/-- Does a remainder `r` of `2^k` above the quotient `q` round the magnitude up (R544, Table 7-5)? -/
def roundsUp (rc : BitVec 2) (sign : Bool) (q r k : Nat) : Bool :=
  match rc.toNat with
  | 0 => decide (2 ^ k < 2 * r) || (decide (2 * r = 2 ^ k) && decide (q % 2 = 1))
  | 1 => sign && decide (r ≠ 0)
  | 2 => !sign && decide (r ≠ 0)
  | _ => false

/-- Round a number to a multiple of 2^e. -/
def Dyadic.roundAt (d : Dyadic) (rc : BitVec 2) (e : Int) : Rounded :=
  if e ≤ d.exp then { mant := d.mant * 2 ^ (d.exp - e).toNat, exp := e, inexact := false, up := false }
  else
    let k := (e - d.exp).toNat
    let q := d.mant / 2 ^ k
    let r := d.mant % 2 ^ k
    let up := roundsUp rc d.sign q r k
    { mant := if up then q + 1 else q, exp := e, inexact := decide (r ≠ 0), up := up }

/-- Round a number that is not zero to `p` significand bits, the exponent unbounded. -/
def Dyadic.roundTo (d : Dyadic) (rc : BitVec 2) (p : Nat) : Rounded :=
  let r := d.roundAt rc (d.top - p + 1)
  if r.mant = 2 ^ p then { r with mant := 2 ^ (p - 1), exp := r.exp + 1 } else r

/-- Unbiased exponent of a rounded number of `p` bits. -/
def Rounded.top (r : Rounded) (p : Nat) : Int := r.exp + p - 1

/-- In an overflow, is the rounded result the infinity and not the largest finite number (R546, Table 7-22)? -/
def overflowsToInf (rc : BitVec 2) (sign : Bool) : Bool :=
  match rc.toNat with
  | 0 => true
  | 1 => sign
  | 2 => !sign
  | _ => false

/-! ## What an operation answers -/

/-- The answer of one operation: the exception flags it sets, C1, and the value for the destination, which is absent
where an unmasked exception leaves everything as it was (R549). `usesPc` tells that precision control was applied. -/
structure Calc (α : Type) where
  ie : Bool
  de : Bool
  ze : Bool
  oe : Bool
  ue : Bool
  pe : Bool
  c1 : Bool
  usesPc : Bool
  val : Option α
deriving DecidableEq, Repr

/-- No exception. -/
def Calc.pure {α : Type} (v : α) : Calc α :=
  { ie := false, de := false, ze := false, oe := false, ue := false, pe := false, c1 := false, usesPc := false,
    val := some v }

/-- The mask bits (10_state.md R101). -/
def maskI (cw : Word) : Bool := cw.getLsbD 0
/-- DM. -/
def maskD (cw : Word) : Bool := cw.getLsbD 1
/-- ZM. -/
def maskZ (cw : Word) : Bool := cw.getLsbD 2
/-- OM. -/
def maskO (cw : Word) : Bool := cw.getLsbD 3
/-- UM. -/
def maskU (cw : Word) : Bool := cw.getLsbD 4

/-- #IA with a masked response (R543). -/
def Calc.invalid {α : Type} (cw : Word) (v : α) : Calc α :=
  { Calc.pure v with ie := true, val := if maskI cw then some v else none }

/-- #Z with a masked response (R547). -/
def Calc.zeroDivide {α : Type} (cw : Word) (v : α) : Calc α :=
  { Calc.pure v with ze := true, val := if maskZ cw then some v else none }

/-- A denormal operand: #D, and masked the operation goes on (R545). -/
def Calc.withDenormal {α : Type} (cw : Word) (den : Bool) (c : Calc α) : Calc α :=
  if !den then c
  else if maskD cw then { c with de := true }
  else { c with de := true, ze := false, oe := false, ue := false, pe := false, c1 := false, usesPc := false,
                val := none }

/-- A register from a rounded number of `p` bits and its sign, exponent within range. -/
def packReg (sign : Bool) (r : Rounded) (p : Nat) : Ext :=
  mkExt sign (r.top p + 16383).toNat (r.mant * 2 ^ (64 - p))

/-- The largest finite number of `p` bits. -/
def maxExt (sign : Bool) (p : Nat) : Ext := mkExt sign 0x7FFE ((2 ^ p - 1) * 2 ^ (64 - p))

/-- A register result whose exponent is adjusted by 24576 for an unmasked overflow or underflow (R546); FSCALE can leave
even that range, and then the result is an infinity or a zero. -/
def packAdjusted (sign : Bool) (r : Rounded) (p : Nat) (adjust : Int) : Ext :=
  let k := r.top p + adjust
  if 16383 < k then infExt sign
  else if k < -16382 then zeroExt sign
  else packReg sign { r with exp := r.exp + adjust } p

/-- `Round(v)` for a register result of `p` bits that is not zero, with #O, #U and #P (R544, R546). After an unmasked overflow or
underflow #P and C1 tell of the rounding of the significand alone, also where FSCALE then stores an infinity or a zero, of which
R659 can be read either way (DESIGN CHOICE, log 46). -/
def regResult (cw : Word) (p : Nat) (d : Dyadic) : Calc Ext :=
  let rc := rcOf cw
  let r := d.roundTo rc p
  let base : Calc Ext := { Calc.pure (packReg d.sign r p) with usesPc := true }
  if 16383 < r.top p then
    if maskO cw then
      let inf := overflowsToInf rc d.sign
      { base with oe := true, pe := true, c1 := inf,
                  val := some (if inf then infExt d.sign else maxExt d.sign p) }
    else { base with oe := true, pe := r.inexact, c1 := r.up,
                     val := some (packAdjusted d.sign r p (-24576)) }
  else if r.top p < -16382 then
    if maskU cw then
      let t := d.roundAt rc (-16381 - p)
      let sig := t.mant * 2 ^ (64 - p)
      { base with ue := t.inexact, pe := t.inexact, c1 := t.up,
                  val := some (mkExt d.sign (if 2 ^ 63 ≤ sig then 1 else 0) sig) }
    else { base with ue := true, pe := r.inexact, c1 := r.up,
                     val := some (packAdjusted d.sign r p 24576) }
  else { base with pe := r.inexact, c1 := r.up }

/-! ## Operands and arithmetic operations -/

/-- An operand: its value in extended-real format, and whether it is a denormal in the format it comes from (R545). -/
structure FpOperand where
  val : Ext
  den : Bool
deriving DecidableEq, Repr

/-- A register as an operand. -/
def regOperand (x : Ext) : FpOperand := { val := x, den := classOf x == .denormal }

/-- `ConvertExtendedReal` of a real format with `eb` exponent bits and `fb` fraction bits (R548). -/
def widenReal (eb fb v : Nat) : FpOperand :=
  let sign := decide (v / 2 ^ (eb + fb) % 2 = 1)
  let e := v / 2 ^ fb % 2 ^ eb
  let f := v % 2 ^ fb
  let bias := 2 ^ (eb - 1) - 1
  if e = 2 ^ eb - 1 then { val := mkExt sign 0x7FFF (2 ^ 63 + f * 2 ^ (63 - fb)), den := false }
  else if e = 0 then
    if f = 0 then { val := zeroExt sign, den := false }
    else { val := mkExt sign (16383 + bitLength f - bias - fb) (f * 2 ^ (64 - bitLength f)), den := true }
  else { val := mkExt sign (16383 + e - bias) (2 ^ 63 + f * 2 ^ (63 - fb)), den := false }

/-- The exact outcome of an operation on operands that are no NaN and supported, before rounding. -/
inductive RawResult where
  /-- #IA, with the real indefinite. -/
  | invalid
  /-- #Z, with its masked result. -/
  | zeroDivide (r : Ext)
  /-- A result that is not rounded. -/
  | exact (r : Ext)
  /-- A result rounded already: its value, whether it is inexact, and C1. -/
  | rounded (r : Ext) (inexact up : Bool)
  /-- A number that is not zero, to be rounded to the precision of the instruction. -/
  | num (d : Dyadic)

/-- One arithmetic operation in the precedence of R550: unsupported operands, SNaNs, QNaNs, other invalid operations and
zero divide, denormal operands, then the result. -/
def arith (cw : Word) (p : Nat) (xs : List FpOperand) (raw : RawResult) : Calc Ext :=
  if xs.any fun x => classOf x.val == .unsupported then Calc.invalid cw indefinite
  else if xs.any fun x => classOf x.val == .snan then Calc.invalid cw (nanResult (xs.map (·.val)))
  else if xs.any fun x => classOf x.val == .qnan then Calc.pure (nanResult (xs.map (·.val)))
  else
    let den := xs.any (·.den)
    match raw with
    | .invalid => Calc.invalid cw indefinite
    | .zeroDivide r => Calc.zeroDivide cw r
    | .exact r => Calc.withDenormal cw den (Calc.pure r)
    | .rounded r inexact up => Calc.withDenormal cw den { Calc.pure r with pe := inexact, c1 := up }
    | .num d => Calc.withDenormal cw den (regResult cw p d)

/-- The precision by PC, bits 9:8 of the control word (10_state.md R101); 01B is reserved. -/
def pcBits (cw : Word) : Nat :=
  match (cw.extractLsb' 8 2).toNat with
  | 0 => 24
  | 2 => 53
  | _ => 64

/-- PC = 01B. -/
def pcReserved (cw : Word) : Bool := cw.extractLsb' 8 2 == 1#2

/-- a + b (48_fpu_arithmetic_1.md R651). -/
def rawAdd (cw : Word) (a b : Ext) : RawResult :=
  if isInf a then (if isInf b && xSign a != xSign b then .invalid else .exact a)
  else if isInf b then .exact b
  else if isZero a && isZero b && xSign a == xSign b then .exact a
  else
    let u := valueOf a
    let v := valueOf b
    let e := min u.exp v.exp
    let n := u.scaled e + v.scaled e
    if n = 0 then .exact (zeroExt (roundDown cw)) else .num (Dyadic.ofInt n e)

/-- a - b (R661). -/
def rawSub (cw : Word) (a b : Ext) : RawResult := rawAdd cw a (negExt b)

/-- a * b (R655). -/
def rawMul (a b : Ext) : RawResult :=
  let sign := xSign a != xSign b
  if (isInf a && isZero b) || (isZero a && isInf b) then .invalid
  else if isInf a || isInf b then .exact (infExt sign)
  else if isZero a || isZero b then .exact (zeroExt sign)
  else .num { sign := sign, mant := xSig a * xSig b, exp := (valueOf a).exp + (valueOf b).exp }

/-- The quotient of two naturals in `k` more bits, with a last bit that tells whether it is inexact; its unit is
2^-(k+1). -/
def quotient (a b k : Nat) : Nat :=
  let n := a * 2 ^ k
  2 * (n / b) + (if n % b = 0 then 0 else 1)

/-- a / b (R653). -/
def rawDiv (a b : Ext) : RawResult :=
  let sign := xSign a != xSign b
  if (isInf a && isInf b) || (isZero a && isZero b) then .invalid
  else if isInf a then .exact (infExt sign)
  else if isInf b || isZero a then .exact (zeroExt sign)
  else if isZero b then .zeroDivide (infExt sign)
  else .num { sign := sign, mant := quotient (xSig a) (xSig b) 130,
              exp := (valueOf a).exp - (valueOf b).exp - 131 }

/-- The integer square root from its bits below `k`: the largest `r + t` with `t < 2^k` and a square of at most `n`. -/
def sqrtFrom (n r : Nat) : Nat → Nat
  | 0 => r
  | k + 1 => if (r + 2 ^ k) * (r + 2 ^ k) ≤ n then sqrtFrom n (r + 2 ^ k) k else sqrtFrom n r k

/-- The square root of a (R660). -/
def rawSqrt (a : Ext) : RawResult :=
  if isZero a then .exact a
  else if xSign a then .invalid
  else if isInf a then .exact a
  else
    let d := valueOf a
    let k : Nat := if d.exp % 2 = 0 then 130 else 131
    let n := d.mant * 2 ^ k
    let r := sqrtFrom n 0 98
    .num { sign := false, mant := 2 * r + (if r * r = n then 0 else 1), exp := (d.exp - k) / 2 - 1 }

/-- `RoundToIntegralValue` (R658). -/
def rawRint (cw : Word) (a : Ext) : RawResult :=
  if isInf a || isZero a then .exact a
  else
    let d := valueOf a
    if 0 ≤ d.exp then .exact a
    else
      let r := d.roundAt (rcOf cw) 0
      .rounded (withSign (extOfInt r.mant) d.sign) r.inexact r.up

/-- The truncated value of ST(1) for FSCALE, cut at plus or minus 2^17, which leaves every range (R659). -/
def scaleCount (b : Ext) : Int :=
  let d := valueOf b
  let m : Nat := if 17 < d.top then 2 ^ 17 else (d.roundAt 3#2 0).mant
  if d.sign then -(m : Int) else m

/-- a * 2^trunc(b) (R659; an infinite b: 91_not_in_source.md FSCALE-INF). -/
def rawScale (a b : Ext) : RawResult :=
  if isInf b then
    if xSign b then (if isInf a then .invalid else .exact (zeroExt (xSign a)))
    else if isZero a then .invalid else .exact (infExt (xSign a))
  else if isInf a || isZero a then .exact a
  else .num { valueOf a with exp := (valueOf a).exp + scaleCount b }

/-! ## Remainders (R656, R657) -/

/-- The answer of FPREM and FPREM1: the result, whether the reduction is incomplete, and the quotient where there is
one. -/
structure Remainder where
  raw : RawResult
  incomplete : Bool
  q : Option Nat

/-- Numerator and denominator of a / b as naturals. -/
def ratio (a b : Dyadic) : Nat × Nat :=
  (a.mant * 2 ^ (a.exp - b.exp).toNat, b.mant * 2 ^ (b.exp - a.exp).toNat)

/-- The quotient n / d truncated, or rounded to nearest with ties to even. -/
def remQuotient (nearest : Bool) (n d : Nat) : Nat :=
  if nearest && (decide (d < 2 * (n % d)) || (decide (2 * (n % d) = d) && decide (n / d % 2 = 1))) then n / d + 1
  else n / d

/-- a - b * q, of the sign of a where it is zero. -/
def remainderOf (a b : Dyadic) (q : Nat) : RawResult :=
  let e := min a.exp b.exp
  let n : Int := (a.mant * 2 ^ (a.exp - e).toNat : Nat) - (b.mant * 2 ^ (b.exp - e).toNat * q : Nat)
  if n = 0 then .exact (zeroExt a.sign)
  else .num { sign := a.sign != decide (n < 0), mant := n.natAbs, exp := e }

/-- The remainder of two values that are no NaN; `step` is the number N between 32 and 63 (R656). With an infinite modulus it
is the dividend, whose magnitude is judged as that of any other result (R546). -/
def remainder (nearest : Bool) (step : Nat) (a b : Ext) : Remainder :=
  if isInf a || isZero b then { raw := .invalid, incomplete := false, q := none }
  else if isZero a then { raw := .exact a, incomplete := false, q := some 0 }
  else if isInf b then { raw := .num (valueOf a), incomplete := false, q := some 0 }
  else
    let x := valueOf a
    let y := valueOf b
    let gap := x.top - y.top
    if gap < 64 then
      let (n, d) := ratio x y
      let q := remQuotient nearest n d
      { raw := remainderOf x y q, incomplete := false, q := some q }
    else
      let z := { y with exp := y.exp + (gap - step) }
      let (n, d) := ratio x z
      { raw := remainderOf x z (n / d), incomplete := true, q := some 0 }

/-! ## Stores (R548; 47_fpu_data_transfer_compare.md R601, R607, R610) -/

/-- The bits of a real format with `eb` exponent bits and `fb` fraction bits. -/
def packReal (eb fb : Nat) (sign : Bool) (e f : Nat) : Nat := (if sign then 2 ^ (eb + fb) else 0) + e * 2 ^ fb + f

/-- A store that an unmasked #O or #U stops: only that flag is set (R544, R546). -/
def Calc.stopped {α : Type} (c : Calc α) : Calc α := { c with pe := false, c1 := false, val := none }

/-- A finite number that is not zero stored in a real format (R546, R610). -/
def storeNumber (cw : Word) (eb fb : Nat) (d : Dyadic) : Calc Nat :=
  let rc := rcOf cw
  let bias : Nat := 2 ^ (eb - 1) - 1
  let r := d.roundTo rc (fb + 1)
  let k := r.top (fb + 1)
  let base : Calc Nat :=
    { Calc.pure (packReal eb fb d.sign (k + bias).toNat (r.mant - 2 ^ fb)) with pe := r.inexact, c1 := r.up }
  if k > (bias : Int) then
    let inf := overflowsToInf rc d.sign
    if maskO cw then
      { base with oe := true, pe := true, c1 := inf,
                  val := some (if inf then packReal eb fb d.sign (2 ^ eb - 1) 0
                               else packReal eb fb d.sign (2 ^ eb - 2) (2 ^ fb - 1)) }
    else Calc.stopped { base with oe := true }
  else if k < 1 - (bias : Int) then
    let t := d.roundAt rc (1 - (bias : Int) - fb)
    if maskU cw then
      { base with ue := t.inexact, pe := t.inexact, c1 := t.up, val := some (packReal eb fb d.sign 0 t.mant) }
    else Calc.stopped { base with ue := true }
  else base

/-- The real indefinite of a format. -/
def indefiniteReal (eb fb : Nat) : Nat := packReal eb fb true (2 ^ eb - 1) (2 ^ (fb - 1))

/-- A NaN with its fraction cut to a format. -/
def packNan (eb fb : Nat) (x : Ext) : Nat :=
  packReal eb fb (xSign x) (2 ^ eb - 1) (xSig x % 2 ^ 63 / 2 ^ (63 - fb))

/-- FST and FSTP to single or double real (R610). -/
def storeReal (cw : Word) (eb fb : Nat) (x : Ext) : Calc Nat :=
  match classOf x with
  | .unsupported => Calc.invalid cw (indefiniteReal eb fb)
  | .snan => Calc.invalid cw (packNan eb fb (quiet x))
  | .qnan => Calc.pure (packNan eb fb x)
  | .infinity => Calc.pure (packReal eb fb (xSign x) (2 ^ eb - 1) 0)
  | .zero => Calc.pure (packReal eb fb (xSign x) 0 0)
  | .denormal => storeNumber cw eb fb (valueOf x)
  | .normal => storeNumber cw eb fb (valueOf x)

/-- The integer that a finite value rounds to. -/
def roundedInt (cw : Word) (x : Ext) : Rounded := (valueOf x).roundAt (rcOf cw) 0

/-- Is a value finite and supported? -/
def isFinite (x : Ext) : Bool := classOf x == .zero || classOf x == .denormal || classOf x == .normal

/-- FIST and FISTP to `n` bits (R607). -/
def storeInt (cw : Word) (n : Nat) (x : Ext) : Calc Nat :=
  let r := roundedInt cw x
  if !isFinite x || decide (if xSign x then 2 ^ (n - 1) < r.mant else 2 ^ (n - 1) ≤ r.mant) then
    Calc.invalid cw (2 ^ (n - 1))
  else { Calc.pure (if xSign x then (2 ^ n - r.mant) % 2 ^ n else r.mant) with pe := r.inexact, c1 := r.up }

/-- `n` decimal digits, two to a byte, the least significant lowest (R536). -/
def bcdDigits : Nat → Nat → Nat
  | 0, _ => 0
  | n + 1, v => v % 10 + 16 * bcdDigits n (v / 10)

/-- The packed BCD indefinite: bytes 9 and 8 are FFH, bytes 7 to 0 any value (R536; log 35). -/
def bcdIndefinite (low : QWord) : Nat := 0xFFFF * 2 ^ 64 + low.toNat

/-- FBSTP (R601). -/
def storeBcd (cw : Word) (low : QWord) (x : Ext) : Calc Nat :=
  let r := roundedInt cw x
  if !isFinite x || decide (10 ^ 18 ≤ r.mant) then Calc.invalid cw (bcdIndefinite low)
  else { Calc.pure ((if xSign x then 2 ^ 79 else 0) + bcdDigits 18 r.mant) with pe := r.inexact, c1 := r.up }

/-! ## Loads -/

/-- FLD of a single or double real (R608). -/
def loadReal (cw : Word) (x : FpOperand) : Calc Ext :=
  if classOf x.val == .snan then Calc.invalid cw (quiet x.val)
  else Calc.withDenormal cw x.den (Calc.pure x.val)

/-- The value of `n` decimal digits, or none where a digit is above 9 (R536). -/
def bcdValue : Nat → Nat → Option Nat
  | 0, _ => some 0
  | n + 1, v =>
    match bcdValue n (v / 16) with
    | none => none
    | some t => if v % 16 < 10 then some (v % 16 + 10 * t) else none

/-- FBLD of ten bytes; an invalid digit gives the free value (R600; 93_implementation_defined.md U-FBLD-INVALID). -/
def loadBcd (v : Nat) (free : Ext) : Ext :=
  match bcdValue 18 v with
  | none => free
  | some n => withSign (extOfInt n) (decide (v / 2 ^ 79 % 2 = 1))

/-! ## Comparison (47_fpu_data_transfer_compare.md R603 to R605, R611, R612) -/

/-- The relation of two operands as C3 C2 C0. -/
def relation (a b : Ext) : BitVec 3 :=
  if orderKey a < orderKey b then 1#3 else if orderKey b < orderKey a then 0#3 else 4#3

/-- A comparison: `quietOk` holds for the unordered ones, where a QNaN raises nothing; `denormals` tells whether #D is
raised. -/
def compare (cw : Word) (quietOk denormals : Bool) (a b : FpOperand) : Calc (BitVec 3) :=
  let bad := fun x => classOf x == .unsupported || classOf x == .snan || (!quietOk && classOf x == .qnan)
  if bad a.val || bad b.val then Calc.invalid cw 7#3
  else if isNan a.val || isNan b.val then Calc.pure 7#3
  else Calc.withDenormal cw (denormals && (a.den || b.den)) (Calc.pure (relation a.val b.val))

end Sys2Proof.Machine
end

