-- ==== Sys2Proof/Machine/FpuStack.lean ====
section
/-! DEFINITION. The floating-point register stack (46_fpu_numerics.md R541), the common prologue of every floating-point
instruction (R540), stack faults (R542), and how an answer reaches registers, memory and the status word (R549). -/

namespace Sys2Proof.Machine

/-! ## The register stack (R541) -/

/-- The physical number of ST(i). -/
def Fpu.phys (f : Fpu) (i : Reg) : BitVec 3 := f.st.top + i

/-- The contents of ST(i). -/
def Fpu.reg (f : Fpu) (i : Reg) : Ext := f.regs.get ⟨(f.phys i).toNat, (f.phys i).isLt⟩

/-- Is ST(i) tagged empty? -/
def Fpu.isEmpty (f : Fpu) (i : Reg) : Bool := f.empty.get ⟨(f.phys i).toNat, (f.phys i).isLt⟩

/-- Write ST(i). -/
def Fpu.setReg (f : Fpu) (i : Reg) (v : Ext) : Fpu :=
  { f with regs := f.regs.set (f.phys i).toNat v (f.phys i).isLt,
           empty := f.empty.set (f.phys i).toNat false (f.phys i).isLt }

/-- Tag ST(i) empty. -/
def Fpu.free (f : Fpu) (i : Reg) : Fpu := { f with empty := f.empty.set (f.phys i).toNat true (f.phys i).isLt }

/-- Set TOP. -/
def Fpu.setTop (f : Fpu) (t : BitVec 3) : Fpu := { f with st := { f.st with top := t } }

/-- `PopRegisterStack`, `n` times. -/
def Fpu.pops (f : Fpu) : Nat → Fpu
  | 0 => f
  | n + 1 => Fpu.pops ((f.free 0#3).setTop (f.st.top + 1#3)) n

/-- Push a value, overwriting what the register held. -/
def Fpu.push (f : Fpu) (v : Ext) : Fpu := (f.setTop (f.st.top - 1#3)).setReg 0#3 v

/-- Change the FPU. -/
def modifyFpu (g : Fpu → Fpu) : M Unit := modify fun s => { s with fpu := g s.fpu }

/-! ## The status word (10_state.md R102, R103) -/

/-- ES: an exception flag is set whose mask is clear (R102, D69). B is the same bit. -/
def Fpu.es (f : Fpu) : Bool :=
  (f.st.ie && !f.cw.getLsbD 0) || (f.st.de && !f.cw.getLsbD 1) || (f.st.ze && !f.cw.getLsbD 2) ||
  (f.st.oe && !f.cw.getLsbD 3) || (f.st.ue && !f.cw.getLsbD 4) || (f.st.pe && !f.cw.getLsbD 5)

/-- The FERR# pin, an output of the processor (10_state.md R110): asserted where ES is set, whatever CR0.NE is. -/
def State.ferr (s : State) : Bool := s.fpu.es

/-- Add the flags of an answer, which are sticky, and set C1. -/
def FpuStatus.note {α : Type} (t : FpuStatus) (c : Calc α) : FpuStatus :=
  { t with ie := t.ie || c.ie, de := t.de || c.de, ze := t.ze || c.ze, oe := t.oe || c.oe, ue := t.ue || c.ue,
           pe := t.pe || c.pe, c1 := c.c1 }

/-- C3, C2 and C0 from three bits. -/
def FpuStatus.setC (t : FpuStatus) (c : BitVec 3) : FpuStatus :=
  { t with c3 := c.getLsbD 2, c2 := c.getLsbD 1, c0 := c.getLsbD 0 }

/-- C1. -/
def setC1 (b : Bool) : M Unit := modifyFpu fun f => { f with st := { f.st with c1 := b } }

/-- C3, C2 and C0. -/
def setC320 (c : BitVec 3) : M Unit := modifyFpu fun f => { f with st := f.st.setC c }

/-- C0, C2 and C3 become undefined (R103; log 26). -/
def undefC320 : M Unit := do
  let c ← freeBits 3
  setC320 c

/-- All four condition codes become undefined. -/
def undefC : M Unit := do
  undefC320
  let b ← freeBit
  setC1 b

/-! ## Prologue (R540, D75) -/

/-- #NM with EM or TS set (10_state.md R82). -/
def needFpu : M Unit := do
  let s ← get
  stopIf s.fpuOff excNM

/-- A pending unmasked exception before a waiting instruction (R549): #MF with NE = 1, nothing with IGNNE#, else the
processor waits for an interrupt. -/
def checkPending : M Unit := do
  let s ← get
  stopIf (s.fpu.es && s.cr0.getLsbD 5) excMF
  stopIf (s.fpu.es && !s.host.ignne && !s.cr0.getLsbD 5) .wait

/-- The prologue of a waiting instruction before its memory operand. -/
def fpuReady : M Unit := do
  needFpu
  checkPending

/-- Instruction pointer and opcode of an instruction without a memory operand; the data pointer becomes undefined
(10_state.md R105, R106; log 26). -/
def notePointers (op : BitVec 11) : M Unit := do
  let sel ← freeBits 16
  let off ← freeBits 32
  modify fun s => { s with
    fpu := { s.fpu with fcs := s.seg.cs.sel, fip := s.eip, fop := op, fds := sel, fdp := off } }

/-- Instruction, data pointer and opcode of an instruction with a memory operand (R105, R106). -/
def noteOperand (first digit : BitVec 3) (e : Ea) : M Unit := modify fun s => { s with
  fpu := { s.fpu with fcs := s.seg.cs.sel, fip := s.eip, fop := first ++ (encEa digit e).headD 0#8,
                      fds := s.selector (s.eaLoc e).seg, fdp := (s.eaLoc e).off } }

/-- A waiting instruction without a memory operand. -/
def fpuReg (op : BitVec 11) (body : M Unit) : M Unit := do
  fpuReady
  notePointers op
  body

/-- A waiting instruction with ST(i): the last three opcode bits are i. -/
def fpuSti (op : BitVec 11) (i : Reg) (body : M Unit) : M Unit := fpuReg (op ||| i.setWidth 11) body

/-- A waiting instruction that reads `n` bytes of memory, aligned on `al`. -/
def fpuLoad (first digit : BitVec 3) (n al : Nat) (e : Ea) (body : Nat → M Unit) : M Unit := do
  fpuReady
  let s ← get
  let v ← memRead (s.eaLoc e) n al
  noteOperand first digit e
  body v

/-- The state with the segment of a place laid so that offset 0 is that place and nothing is out of reach. -/
def State.within (s : State) (l : Loc) : State :=
  { s with
    seg := s.seg.set l.seg { s.seg.get l.seg with base := s.linear l, limit := 0xFFFFFFFF#32, ty := 3#4, s := true },
    flags := { s.flags with ac := false } }

/-- The stop of a store that is not possible as a whole: the value it would store is the one it stores where it is. -/
def State.storeStop (s : State) (l : Loc) (n : Nat) (body : Loc → M Unit) (e : Stop) : Stop :=
  match body { l with off := 0#32, wide := true } (s.within l) with
  | .ok (_, t) => s.splitStop l n (t.readLin (s.linear l) n) t.fresh e
  | .error _ => e

/-- A waiting instruction that writes `n` bytes of memory: the whole operand is checked before anything happens, and
where it does not fit its first part may be stored (R575 item m; log 34). -/
def fpuStore (first digit : BitVec 3) (n al : Nat) (e : Ea) (body : Loc → M Unit) : M Unit := do
  fpuReady
  let s ← get
  check ((writeFault s (s.eaLoc e) n al).map (s.storeStop (s.eaLoc e) n body))
  noteOperand first digit e
  body (s.eaLoc e)

/-! ## Stack faults (R542) -/

/-- IE and SF set, C1 by the kind of fault; then the masked response. -/
def stackFault (above : Bool) (masked : M Unit) : M Unit := do
  modifyFpu fun f => { f with st := { f.st with ie := true, sf := true, c1 := above } }
  let s ← get
  if maskI s.fpu.cw then masked else pure ()

/-! ## Answers -/

/-- An answer for register ST(dst), then pops. -/
def commitReg (dst : Reg) (n : Nat) (c : Calc Ext) : M Unit := modifyFpu fun f =>
  let g := { f with st := f.st.note c }
  match c.val with
  | none => g
  | some v => (g.setReg dst v).pops n

/-- An answer that is pushed. -/
def commitPush (c : Calc Ext) : M Unit := modifyFpu fun f =>
  let g := { f with st := f.st.note c }
  match c.val with
  | none => g
  | some v => g.push v

/-- Two answers: the first replaces ST(0), the second is pushed. -/
def commitPair (c : Calc (Ext × Ext)) : M Unit := modifyFpu fun f =>
  let g := { f with st := f.st.note c }
  match c.val with
  | none => g
  | some (a, b) => (g.setReg 0#3 a).push b

/-- An answer of `n` bytes for memory, then pops. -/
def commitStore (l : Loc) (n al k : Nat) (c : Calc Nat) : M Unit := do
  modifyFpu fun f => { f with st := f.st.note c }
  match c.val with
  | none => pure ()
  | some v =>
    memWrite l n al v
    modifyFpu fun f => f.pops k

/-- Push a value, or the stack overflow of R542. -/
def pushOp (c : Word → Calc Ext) : M Unit := do
  undefC320
  let s ← get
  if s.fpu.isEmpty 7#3 then commitPush (c s.fpu.cw)
  else stackFault true (modifyFpu fun f => f.push indefinite)

/-- Store ST(0), or the stack underflow with its indefinite. -/
def storeOp (l : Loc) (n al k : Nat) (indef : Nat) (c : Word → Ext → Calc Nat) : M Unit := do
  undefC320
  let s ← get
  if s.fpu.isEmpty 0#3 then
    stackFault false do
      memWrite l n al indef
      modifyFpu fun f => f.pops k
  else commitStore l n al k (c s.fpu.cw (s.fpu.reg 0#3))

/-- An operation on registers `srcs` with its result in ST(dst), then pops. With `pc` the precision is that of the PC
field, whose value 01B is reserved (93_implementation_defined.md U-PC-RESERVED; log 16). -/
def arithOp (pc : Bool) (dst : Reg) (n : Nat) (srcs : List Reg) (op : Word → Nat → Fpu → Calc Ext) : M Unit := do
  undefC320
  let s ← get
  if srcs.any s.fpu.isEmpty then stackFault false (modifyFpu fun f => (f.setReg dst indefinite).pops n)
  else
    let c := op s.fpu.cw (if pc then pcBits s.fpu.cw else 64) s.fpu
    stopIf (pc && pcReserved s.fpu.cw && c.usesPc) (.refuse .reservedPrecision)
    commitReg dst n c

end Sys2Proof.Machine
end

