-- ==== Sys2Proof/Machine/FpuData.lean ====
section
/-! DEFINITION. FPU data transfer, constants and comparison (47_fpu_data_transfer_compare.md R600 to R614). -/

namespace Sys2Proof.Machine

/-! ## Loads -/

/-- FLD of a single or double real (R608). -/
def fldReal (first digit : BitVec 3) (eb fb : Nat) (ea : Ea) : M Unit :=
  fpuLoad first digit ((eb + fb + 1) / 8) ((eb + fb + 1) / 8) ea fun v =>
    pushOp fun cw => loadReal cw (widenReal eb fb v)

/-- FLD of an extended real: a copy (R608, D31). -/
def fldExt (ea : Ea) : M Unit :=
  fpuLoad 3#3 5#3 10 8 ea fun v => pushOp fun _ => Calc.pure (BitVec.ofNat 80 v)

/-- FLD ST(i): the register is read before TOP changes (R608). -/
def fldSti (i : Reg) : M Unit :=
  fpuSti 0x1C0#11 i do
    let s ← get
    if s.fpu.isEmpty i then
      undefC320
      stackFault false (modifyFpu fun f => f.push indefinite)
    else pushOp fun _ => Calc.pure (s.fpu.reg i)

/-- The integer that `n` bits are in two's complement. -/
def signedOf (n v : Nat) : Int := (BitVec.ofNat n v).toInt

/-- FILD (R606). -/
def fildOp (first digit : BitVec 3) (n : Nat) (ea : Ea) : M Unit :=
  fpuLoad first digit (n / 8) (n / 8) ea fun v => pushOp fun _ => Calc.pure (extOfInt (signedOf n v))

/-- FBLD (R600). -/
def fbldOp (ea : Ea) : M Unit :=
  fpuLoad 7#3 4#3 10 8 ea fun v => do
    let u ← freeBits 80
    pushOp fun _ => Calc.pure (loadBcd v u)

/-- A constant: the significand nearest to it, and the two significands next to it below and above (R609). -/
structure FpuConstant where
  exp : Nat
  nearest : Nat
  below : Nat
  above : Nat

/-- log2 10. -/
def constL2T : FpuConstant :=
  { exp := 0x4000, nearest := 0xD49A784BCD1B8AFE, below := 0xD49A784BCD1B8AFE, above := 0xD49A784BCD1B8AFF }
/-- log2 e. -/
def constL2E : FpuConstant :=
  { exp := 0x3FFF, nearest := 0xB8AA3B295C17F0BC, below := 0xB8AA3B295C17F0BB, above := 0xB8AA3B295C17F0BC }
/-- log10 2. -/
def constLG2 : FpuConstant :=
  { exp := 0x3FFD, nearest := 0x9A209A84FBCFF799, below := 0x9A209A84FBCFF798, above := 0x9A209A84FBCFF799 }
/-- loge 2. -/
def constLN2 : FpuConstant :=
  { exp := 0x3FFE, nearest := 0xB17217F7D1CF79AC, below := 0xB17217F7D1CF79AB, above := 0xB17217F7D1CF79AC }

/-- A constant other than pi, which is not printed: the nearest value for RC = nearest, else either neighbour by the free
bit (R609; 93_implementation_defined.md U-FLD-CONST; log 29). -/
def roundConst (c : FpuConstant) (cw : Word) (free : Bool) : Ext :=
  mkExt false c.exp (if rcOf cw = 0#2 then c.nearest else if free then c.above else c.below)

/-- FLDL2T, FLDL2E, FLDLG2 and FLDLN2 (R609). -/
def fldConst (op : BitVec 11) (c : FpuConstant) : M Unit :=
  fpuReg op do
    let b ← freeBit
    pushOp fun cw => Calc.pure (roundConst c cw b)

/-- FLDPI (R609; 46_fpu_numerics.md R561): nearest and up give ...235H, down and chop ...234H. -/
def fldpiOp : M Unit :=
  fpuReg 0x1EB#11 (pushOp fun cw =>
    Calc.pure (mkExt false 0x4000 (if (rcOf cw).getLsbD 0 then 0xC90FDAA22168C234 else 0xC90FDAA22168C235)))

/-- FLD1 and FLDZ (R609). -/
def fldExact (op : BitVec 11) (x : Ext) : M Unit := fpuReg op (pushOp fun _ => Calc.pure x)

/-! ## Stores -/

/-- FST and FSTP of a single or double real (R610). -/
def fstReal (first digit : BitVec 3) (eb fb k : Nat) (ea : Ea) : M Unit :=
  fpuStore first digit ((eb + fb + 1) / 8) ((eb + fb + 1) / 8) ea fun l =>
    storeOp l ((eb + fb + 1) / 8) ((eb + fb + 1) / 8) k (indefiniteReal eb fb) fun cw x => storeReal cw eb fb x

/-- FSTP of an extended real: a copy (R610, D31). -/
def fstpExt (ea : Ea) : M Unit :=
  fpuStore 3#3 7#3 10 8 ea fun l => storeOp l 10 8 1 indefinite.toNat fun _ x => Calc.pure x.toNat

/-- FST and FSTP to ST(i): a copy (R610, D31). -/
def fstSti (op : BitVec 11) (k : Nat) (i : Reg) : M Unit :=
  fpuSti op i (arithOp false i k [0#3] fun _ _ f => Calc.pure (f.reg 0#3))

/-- FIST and FISTP of `n` bits (R607). -/
def fistOp (first digit : BitVec 3) (n k : Nat) (ea : Ea) : M Unit :=
  fpuStore first digit (n / 8) (n / 8) ea fun l =>
    storeOp l (n / 8) (n / 8) k (2 ^ (n - 1)) fun cw x => storeInt cw n x

/-- FBSTP (R601). -/
def fbstpOp (ea : Ea) : M Unit :=
  fpuStore 7#3 6#3 10 8 ea fun l => do
    let u ← freeBits 64
    storeOp l 10 8 1 (bcdIndefinite u) fun cw x => storeBcd cw u x

/-! ## Moves between registers -/

/-- FCMOVcc (R602, D28): both registers are tested before the condition. -/
def fcmovOp (op : BitVec 11) (cond : Flags → Bool) (i : Reg) : M Unit :=
  fpuSti op i do
    let s ← get
    arithOp false 0#3 0 [0#3, i] fun _ _ f => Calc.pure (if cond s.flags then f.reg i else f.reg 0#3)

/-- A register for FXCH: the indefinite where it is empty (R614). -/
def Fpu.filled (f : Fpu) (i : Reg) : Ext := if f.isEmpty i then indefinite else f.reg i

/-- FXCH (R614). -/
def fxchOp (i : Reg) : M Unit :=
  fpuSti 0x1C8#11 i do
    undefC320
    let s ← get
    let swap := modifyFpu fun f => (f.setReg 0#3 (s.fpu.filled i)).setReg i (s.fpu.filled 0#3)
    if s.fpu.isEmpty 0#3 || s.fpu.isEmpty i then stackFault false swap
    else
      setC1 false
      swap

/-! ## Comparison -/

/-- Compare ST(0) with an operand; `done` receives C3 C2 C0, and the pops follow (R603). -/
def compareWith (quietOk denormals : Bool) (k : Nat) (srcs : List Reg) (y : Fpu → FpOperand)
    (done : BitVec 3 → M Unit) : M Unit := do
  let s ← get
  let finish := fun r => do
    done r
    modifyFpu fun f => f.pops k
  if srcs.any s.fpu.isEmpty then stackFault false (finish 7#3)
  else
    let c := compare s.fpu.cw quietOk denormals (regOperand (s.fpu.reg 0#3)) (y s.fpu)
    modifyFpu fun f => { f with st := f.st.note c }
    match c.val with
    | none => pure ()
    | some r => finish r

/-- FCOM and FUCOM with ST(i) (R603, R612). -/
def fcomSt (op : BitVec 11) (quietOk : Bool) (k : Nat) (i : Reg) : M Unit :=
  fpuReg op (compareWith quietOk true k [0#3, i] (fun f => regOperand (f.reg i)) setC320)

/-- FCOM with a real in memory (R603). -/
def fcomReal (first digit : BitVec 3) (eb fb k : Nat) (ea : Ea) : M Unit :=
  fpuLoad first digit ((eb + fb + 1) / 8) ((eb + fb + 1) / 8) ea fun v =>
    compareWith false true k [0#3] (fun _ => widenReal eb fb v) setC320

/-- FICOM (R605). -/
def ficomOp (first digit : BitVec 3) (n k : Nat) (ea : Ea) : M Unit :=
  fpuLoad first digit (n / 8) (n / 8) ea fun v =>
    compareWith false true k [0#3] (fun _ => regOperand (extOfInt (signedOf n v))) setC320

/-- FTST (R611). -/
def ftstOp : M Unit :=
  fpuReg 0x1E4#11 (compareWith false true 0 [0#3] (fun _ => regOperand (zeroExt false)) setC320)

/-- ZF PF CF from C3 C2 C0 (R604, D29). -/
def setZpc (r : BitVec 3) : M Unit :=
  setFlags fun f => { f with zf := r.getLsbD 2, pf := r.getLsbD 1, cf := r.getLsbD 0 }

/-- FCOMI and FUCOMI (R604): no #D. -/
def fcomiOp (op : BitVec 11) (quietOk : Bool) (k : Nat) (i : Reg) : M Unit :=
  fpuSti op i (compareWith quietOk false k [0#3, i] (fun f => regOperand (f.reg i)) setZpc)

/-- The class of ST(0) as C3 C2 C0 (R613). -/
def examine (f : Fpu) : BitVec 3 :=
  if f.isEmpty 0#3 then 5#3
  else
    match classOf (f.reg 0#3) with
    | .unsupported => 0#3
    | .snan => 1#3
    | .qnan => 1#3
    | .normal => 2#3
    | .infinity => 3#3
    | .zero => 4#3
    | .denormal => 6#3

/-- FXAM (R613): C1 is the sign even of an empty register. -/
def fxamOp : M Unit :=
  fpuReg 0x1E5#11 do
    let s ← get
    setC320 (examine s.fpu)
    setC1 (xSign (s.fpu.reg 0#3))

/-- FBLD m80dec : `DF /4` (R600). -/
def execFbldM80dec (ea : Ea) (s : State) : Out := runSeq (fbldOp ea) s

/-- FBSTP m80bcd : `DF /6` (R601). -/
def execFbstpM80bcd (ea : Ea) (s : State) : Out := runSeq (fbstpOp ea) s

/-- FCMOVB ST(0),ST(i) : `DA C0+i` (R602). -/
def execFcmovbSt0Sti (i : Reg) (s : State) : Out := runSeq (fcmovOp 0x2C0#11 (fun f => f.cf) i) s

/-- FCMOVE ST(0),ST(i) : `DA C8+i` (R602). -/
def execFcmoveSt0Sti (i : Reg) (s : State) : Out := runSeq (fcmovOp 0x2C8#11 (fun f => f.zf) i) s

/-- FCMOVBE ST(0),ST(i) : `DA D0+i` (R602). -/
def execFcmovbeSt0Sti (i : Reg) (s : State) : Out := runSeq (fcmovOp 0x2D0#11 (fun f => f.cf || f.zf) i) s

/-- FCMOVU ST(0),ST(i) : `DA D8+i` (R602). -/
def execFcmovuSt0Sti (i : Reg) (s : State) : Out := runSeq (fcmovOp 0x2D8#11 (fun f => f.pf) i) s

/-- FCMOVNB ST(0),ST(i) : `DB C0+i` (R602). -/
def execFcmovnbSt0Sti (i : Reg) (s : State) : Out := runSeq (fcmovOp 0x3C0#11 (fun f => !f.cf) i) s

/-- FCMOVNE ST(0),ST(i) : `DB C8+i` (R602). -/
def execFcmovneSt0Sti (i : Reg) (s : State) : Out := runSeq (fcmovOp 0x3C8#11 (fun f => !f.zf) i) s

/-- FCMOVNBE ST(0),ST(i) : `DB D0+i` (R602). -/
def execFcmovnbeSt0Sti (i : Reg) (s : State) : Out := runSeq (fcmovOp 0x3D0#11 (fun f => !(f.cf || f.zf)) i) s

/-- FCMOVNU ST(0),ST(i) : `DB D8+i` (R602). -/
def execFcmovnuSt0Sti (i : Reg) (s : State) : Out := runSeq (fcmovOp 0x3D8#11 (fun f => !f.pf) i) s

/-- FCOM m32real : `D8 /2` (R603). -/
def execFcomM32real (ea : Ea) (s : State) : Out := runSeq (fcomReal 0#3 2#3 8 23 0 ea) s

/-- FCOM m64real : `DC /2` (R603). -/
def execFcomM64real (ea : Ea) (s : State) : Out := runSeq (fcomReal 4#3 2#3 11 52 0 ea) s

/-- FCOM ST(i) : `D8 D0+i` (R603). -/
def execFcomSti (i : Reg) (s : State) : Out := runSeq (fcomSt (0xD0#11 ||| i.setWidth 11) false 0 i) s

/-- FCOMP m32real : `D8 /3` (R603). -/
def execFcompM32real (ea : Ea) (s : State) : Out := runSeq (fcomReal 0#3 3#3 8 23 1 ea) s

/-- FCOMP m64real : `DC /3` (R603). -/
def execFcompM64real (ea : Ea) (s : State) : Out := runSeq (fcomReal 4#3 3#3 11 52 1 ea) s

/-- FCOMP ST(i) : `D8 D8+i` (R603). -/
def execFcompSti (i : Reg) (s : State) : Out := runSeq (fcomSt (0xD8#11 ||| i.setWidth 11) false 1 i) s

/-- FCOMPP : `DE D9` (R603). -/
def execFcompp (s : State) : Out := runSeq (fcomSt 0x6D9#11 false 2 1#3) s

/-- FCOMI ST,ST(i) : `DB F0+i` (R604). -/
def execFcomiSt0Sti (i : Reg) (s : State) : Out := runSeq (fcomiOp 0x3F0#11 false 0 i) s

/-- FCOMIP ST,ST(i) : `DF F0+i` (R604). -/
def execFcomipSt0Sti (i : Reg) (s : State) : Out := runSeq (fcomiOp 0x7F0#11 false 1 i) s

/-- FUCOMI ST,ST(i) : `DB E8+i` (R604). -/
def execFucomiSt0Sti (i : Reg) (s : State) : Out := runSeq (fcomiOp 0x3E8#11 true 0 i) s

/-- FUCOMIP ST,ST(i) : `DF E8+i` (R604). -/
def execFucomipSt0Sti (i : Reg) (s : State) : Out := runSeq (fcomiOp 0x7E8#11 true 1 i) s

/-- FICOM m16int : `DE /2` (R605). -/
def execFicomM16int (ea : Ea) (s : State) : Out := runSeq (ficomOp 6#3 2#3 16 0 ea) s

/-- FICOM m32int : `DA /2` (R605). -/
def execFicomM32int (ea : Ea) (s : State) : Out := runSeq (ficomOp 2#3 2#3 32 0 ea) s

/-- FICOMP m16int : `DE /3` (R605). -/
def execFicompM16int (ea : Ea) (s : State) : Out := runSeq (ficomOp 6#3 3#3 16 1 ea) s

/-- FICOMP m32int : `DA /3` (R605). -/
def execFicompM32int (ea : Ea) (s : State) : Out := runSeq (ficomOp 2#3 3#3 32 1 ea) s

/-- FILD m16int : `DF /0` (R606). -/
def execFildM16int (ea : Ea) (s : State) : Out := runSeq (fildOp 7#3 0#3 16 ea) s

/-- FILD m32int : `DB /0` (R606). -/
def execFildM32int (ea : Ea) (s : State) : Out := runSeq (fildOp 3#3 0#3 32 ea) s

/-- FILD m64int : `DF /5` (R606). -/
def execFildM64int (ea : Ea) (s : State) : Out := runSeq (fildOp 7#3 5#3 64 ea) s

/-- FIST m16int : `DF /2` (R607). -/
def execFistM16int (ea : Ea) (s : State) : Out := runSeq (fistOp 7#3 2#3 16 0 ea) s

/-- FIST m32int : `DB /2` (R607). -/
def execFistM32int (ea : Ea) (s : State) : Out := runSeq (fistOp 3#3 2#3 32 0 ea) s

/-- FISTP m16int : `DF /3` (R607). -/
def execFistpM16int (ea : Ea) (s : State) : Out := runSeq (fistOp 7#3 3#3 16 1 ea) s

/-- FISTP m32int : `DB /3` (R607). -/
def execFistpM32int (ea : Ea) (s : State) : Out := runSeq (fistOp 3#3 3#3 32 1 ea) s

/-- FISTP m64int : `DF /7` (R607). -/
def execFistpM64int (ea : Ea) (s : State) : Out := runSeq (fistOp 7#3 7#3 64 1 ea) s

/-- FLD m32real : `D9 /0` (R608). -/
def execFldM32real (ea : Ea) (s : State) : Out := runSeq (fldReal 1#3 0#3 8 23 ea) s

/-- FLD m64real : `DD /0` (R608). -/
def execFldM64real (ea : Ea) (s : State) : Out := runSeq (fldReal 5#3 0#3 11 52 ea) s

/-- FLD m80real : `DB /5` (R608). -/
def execFldM80real (ea : Ea) (s : State) : Out := runSeq (fldExt ea) s

/-- FLD ST(i) : `D9 C0+i` (R608). -/
def execFldSti (i : Reg) (s : State) : Out := runSeq (fldSti i) s

/-- FLD1 : `D9 E8` (R609). -/
def execFld1 (s : State) : Out := runSeq (fldExact 0x1E8#11 oneExt) s

/-- FLDL2T : `D9 E9` (R609). -/
def execFldl2t (s : State) : Out := runSeq (fldConst 0x1E9#11 constL2T) s

/-- FLDL2E : `D9 EA` (R609). -/
def execFldl2e (s : State) : Out := runSeq (fldConst 0x1EA#11 constL2E) s

/-- FLDPI : `D9 EB` (R609). -/
def execFldpi (s : State) : Out := runSeq fldpiOp s

/-- FLDLG2 : `D9 EC` (R609). -/
def execFldlg2 (s : State) : Out := runSeq (fldConst 0x1EC#11 constLG2) s

/-- FLDLN2 : `D9 ED` (R609). -/
def execFldln2 (s : State) : Out := runSeq (fldConst 0x1ED#11 constLN2) s

/-- FLDZ : `D9 EE` (R609). -/
def execFldz (s : State) : Out := runSeq (fldExact 0x1EE#11 (zeroExt false)) s

/-- FST m32real : `D9 /2` (R610). -/
def execFstM32real (ea : Ea) (s : State) : Out := runSeq (fstReal 1#3 2#3 8 23 0 ea) s

/-- FST m64real : `DD /2` (R610). -/
def execFstM64real (ea : Ea) (s : State) : Out := runSeq (fstReal 5#3 2#3 11 52 0 ea) s

/-- FST ST(i) : `DD D0+i` (R610). -/
def execFstSti (i : Reg) (s : State) : Out := runSeq (fstSti 0x5D0#11 0 i) s

/-- FSTP m32real : `D9 /3` (R610). -/
def execFstpM32real (ea : Ea) (s : State) : Out := runSeq (fstReal 1#3 3#3 8 23 1 ea) s

/-- FSTP m64real : `DD /3` (R610). -/
def execFstpM64real (ea : Ea) (s : State) : Out := runSeq (fstReal 5#3 3#3 11 52 1 ea) s

/-- FSTP m80real : `DB /7` (R610). -/
def execFstpM80real (ea : Ea) (s : State) : Out := runSeq (fstpExt ea) s

/-- FSTP ST(i) : `DD D8+i` (R610). -/
def execFstpSti (i : Reg) (s : State) : Out := runSeq (fstSti 0x5D8#11 1 i) s

/-- FTST : `D9 E4` (R611). -/
def execFtst (s : State) : Out := runSeq ftstOp s

/-- FUCOM ST(i) : `DD E0+i` (R612). -/
def execFucomSti (i : Reg) (s : State) : Out := runSeq (fcomSt (0x5E0#11 ||| i.setWidth 11) true 0 i) s

/-- FUCOMP ST(i) : `DD E8+i` (R612). -/
def execFucompSti (i : Reg) (s : State) : Out := runSeq (fcomSt (0x5E8#11 ||| i.setWidth 11) true 1 i) s

/-- FUCOMPP : `DA E9` (R612). -/
def execFucompp (s : State) : Out := runSeq (fcomSt 0x2E9#11 true 2 1#3) s

/-- FXAM : `D9 E5` (R613). -/
def execFxam (s : State) : Out := runSeq fxamOp s

/-- FXCH ST(i) : `D9 C8+i` (R614). -/
def execFxchSti (i : Reg) (s : State) : Out := runSeq (fxchOp i) s

end Sys2Proof.Machine
end

