-- ==== Sys2Proof/Machine/FpuArith.lean ====
section
/-! DEFINITION. FPU basic arithmetic (48_fpu_arithmetic_1.md R650 to R663). -/

namespace Sys2Proof.Machine

/-! ## The four operations (R651, R653 to R655, R661, R662) -/

/-- An operation on the destination and the source, in this order. -/
abbrev BinOp := Word → Ext → Ext → RawResult

/-- DEST + SRC. -/
def opAdd : BinOp := rawAdd
/-- DEST - SRC. -/
def opSub : BinOp := rawSub
/-- SRC - DEST. -/
def opSubR : BinOp := fun cw d s => rawSub cw s d
/-- DEST * SRC. -/
def opMul : BinOp := fun _ d s => rawMul d s
/-- DEST / SRC. -/
def opDiv : BinOp := fun _ d s => rawDiv d s
/-- SRC / DEST. -/
def opDivR : BinOp := fun _ d s => rawDiv s d

/-- ST(dst) with ST(src), then pops. -/
def binReg (op : BinOp) (dst src : Reg) (k : Nat) : M Unit :=
  arithOp true dst k [dst, src] fun cw p f =>
    arith cw p [regOperand (f.reg dst), regOperand (f.reg src)] (op cw (f.reg dst) (f.reg src))

/-- ST(0) with a memory operand. -/
def binMem (op : BinOp) (x : FpOperand) : M Unit :=
  arithOp true 0#3 0 [0#3] fun cw p f => arith cw p [regOperand (f.reg 0#3), x] (op cw (f.reg 0#3) x.val)

/-- ST(0) with a single or double real. -/
def binReal (op : BinOp) (first digit : BitVec 3) (eb fb : Nat) (ea : Ea) : M Unit :=
  fpuLoad first digit ((eb + fb + 1) / 8) ((eb + fb + 1) / 8) ea fun v => binMem op (widenReal eb fb v)

/-- ST(0) with an integer of `n` bits (10_state.md R101, D71). -/
def binInt (op : BinOp) (first digit : BitVec 3) (n : Nat) (ea : Ea) : M Unit :=
  fpuLoad first digit (n / 8) (n / 8) ea fun v => binMem op (regOperand (extOfInt (signedOf n v)))

/-- ST(0) <- ST(0) op ST(i). -/
def binTop (op : BinOp) (code : BitVec 11) (i : Reg) : M Unit := fpuSti code i (binReg op 0#3 i 0)

/-- ST(i) <- ST(i) op ST(0), then pops. -/
def binSti (op : BinOp) (code : BitVec 11) (k : Nat) (i : Reg) : M Unit := fpuSti code i (binReg op i 0#3 k)

/-! ## Operations on ST(0) -/

/-- FABS and FCHS: the sign bit alone (R650, R652). -/
def signOp (code : BitVec 11) (g : Ext → Ext) : M Unit :=
  fpuReg code (arithOp false 0#3 0 [0#3] fun _ _ f => Calc.pure (g (f.reg 0#3)))

/-- FSQRT (R660). -/
def fsqrtOp : M Unit :=
  fpuReg 0x1FA#11 (arithOp true 0#3 0 [0#3] fun cw p f =>
    arith cw p [regOperand (f.reg 0#3)] (rawSqrt (f.reg 0#3)))

/-- FRNDINT (R658). -/
def frndintOp : M Unit :=
  fpuReg 0x1FC#11 (arithOp false 0#3 0 [0#3] fun cw p f =>
    arith cw p [regOperand (f.reg 0#3)] (rawRint cw (f.reg 0#3)))

/-- FSCALE (R659). -/
def fscaleOp : M Unit :=
  fpuReg 0x1FD#11 (arithOp false 0#3 0 [0#3, 1#3] fun cw p f =>
    arith cw p [regOperand (f.reg 0#3), regOperand (f.reg 1#3)] (rawScale (f.reg 0#3) (f.reg 1#3)))

/-- The number N between 32 and 63 (R656, parameter FPREM_N; log 28). -/
def reductionStep (a b : Ext) : Nat := 32 + (Config.fpremStep a b).toNat

/-- C0 = Q2, C3 = Q1, C1 = Q0 and C2 = incomplete (R656); without a quotient C2 is clear and C0 and C3 stay undefined
(46_fpu_numerics.md R543; log 26). -/
def FpuStatus.setQuotient (t : FpuStatus) (q : Option Nat) (incomplete : Bool) : FpuStatus :=
  match q with
  | none => { t with c2 := false }
  | some n =>
    { t with c0 := decide (n / 4 % 2 = 1), c3 := decide (n / 2 % 2 = 1), c1 := decide (n % 2 = 1), c2 := incomplete }

/-- The register and the flags after FPREM and FPREM1. Where an unmasked #IA or #D stops them, C0, C2 and C3 are the free bits
drawn before: the spec does not say what they hold (DESIGN CHOICE, log 26). -/
def Fpu.commitRemainder (f : Fpu) (r : Remainder) (c : Calc Ext) : Fpu :=
  let g := { f with st := f.st.note c }
  match c.val with
  | none => g
  | some v => { g with st := g.st.setQuotient r.q r.incomplete }.setReg 0#3 v

/-- The remainder of two registers; NaNs and unsupported operands have no quotient. -/
def Fpu.remainderOf (f : Fpu) (nearest : Bool) : Remainder :=
  let a := f.reg 0#3
  let b := f.reg 1#3
  if isNan a || isNan b || classOf a == .unsupported || classOf b == .unsupported then
    { raw := .invalid, incomplete := false, q := none }
  else remainder nearest (reductionStep a b) a b

/-- FPREM and FPREM1 (R656, R657): on a stack underflow C1 = 0 and the other condition codes are undefined. -/
def fpremOp (code : BitVec 11) (nearest : Bool) : M Unit :=
  fpuReg code do
    undefC320
    let s ← get
    if s.fpu.isEmpty 0#3 || s.fpu.isEmpty 1#3 then
      stackFault false (modifyFpu fun f => f.setReg 0#3 indefinite)
    else
      let r := s.fpu.remainderOf nearest
      modifyFpu fun f => f.commitRemainder r
        (arith s.fpu.cw 64 [regOperand (s.fpu.reg 0#3), regOperand (s.fpu.reg 1#3)] r.raw)

/-- FXTRACT: exponent and significand (R663; an infinite source: log 40). -/
def extract (cw : Word) (x : Ext) : Calc (Ext × Ext) :=
  let d := valueOf x
  let parts := (extOfInt d.top, mkExt (xSign x) 0x3FFF (xSig x * 2 ^ (64 - bitLength (xSig x))))
  match classOf x with
  | .unsupported => Calc.invalid cw (indefinite, indefinite)
  | .snan => Calc.invalid cw (quiet x, quiet x)
  | .qnan => Calc.pure (x, x)
  | .zero => Calc.zeroDivide cw (infExt true, x)
  | .infinity => Calc.pure (infExt false, x)
  | .denormal => Calc.withDenormal cw true (Calc.pure parts)
  | .normal => Calc.pure parts

/-- FXTRACT (R663): underflow, then overflow, then the operation. -/
def fxtractOp : M Unit :=
  fpuReg 0x1F4#11 do
    undefC320
    let s ← get
    let faulty := modifyFpu fun f => (f.setReg 0#3 indefinite).push indefinite
    if s.fpu.isEmpty 0#3 then stackFault false faulty
    else if !s.fpu.isEmpty 7#3 then stackFault true faulty
    else commitPair (extract s.fpu.cw (s.fpu.reg 0#3))

/-- FABS : `D9 E1` (R650). -/
def execFabs (s : State) : Out := runSeq (signOp 0x1E1#11 fun x => withSign x false) s

/-- FADD m32real : `D8 /0` (R651). -/
def execFaddM32real (ea : Ea) (s : State) : Out := runSeq (binReal opAdd 0#3 0#3 8 23 ea) s

/-- FADD m64real : `DC /0` (R651). -/
def execFaddM64real (ea : Ea) (s : State) : Out := runSeq (binReal opAdd 4#3 0#3 11 52 ea) s

/-- FADD ST(0),ST(i) : `D8 C0+i` (R651). -/
def execFaddSt0Sti (i : Reg) (s : State) : Out := runSeq (binTop opAdd 0xC0#11 i) s

/-- FADD ST(i),ST(0) : `DC C0+i` (R651). -/
def execFaddStiSt0 (i : Reg) (s : State) : Out := runSeq (binSti opAdd 0x4C0#11 0 i) s

/-- FADDP ST(i),ST(0) : `DE C0+i` (R651). -/
def execFaddpStiSt0 (i : Reg) (s : State) : Out := runSeq (binSti opAdd 0x6C0#11 1 i) s

/-- FIADD m32int : `DA /0` (R651). -/
def execFiaddM32int (ea : Ea) (s : State) : Out := runSeq (binInt opAdd 2#3 0#3 32 ea) s

/-- FIADD m16int : `DE /0` (R651). -/
def execFiaddM16int (ea : Ea) (s : State) : Out := runSeq (binInt opAdd 6#3 0#3 16 ea) s

/-- FCHS : `D9 E0` (R652). -/
def execFchs (s : State) : Out := runSeq (signOp 0x1E0#11 negExt) s

/-- FDIV m32real : `D8 /6` (R653). -/
def execFdivM32real (ea : Ea) (s : State) : Out := runSeq (binReal opDiv 0#3 6#3 8 23 ea) s

/-- FDIV m64real : `DC /6` (R653). -/
def execFdivM64real (ea : Ea) (s : State) : Out := runSeq (binReal opDiv 4#3 6#3 11 52 ea) s

/-- FDIV ST(0),ST(i) : `D8 F0+i` (R653). -/
def execFdivSt0Sti (i : Reg) (s : State) : Out := runSeq (binTop opDiv 0xF0#11 i) s

/-- FDIV ST(i),ST(0) : `DC F8+i` (R653). -/
def execFdivStiSt0 (i : Reg) (s : State) : Out := runSeq (binSti opDiv 0x4F8#11 0 i) s

/-- FDIVP ST(i),ST(0) : `DE F8+i` (R653). -/
def execFdivpStiSt0 (i : Reg) (s : State) : Out := runSeq (binSti opDiv 0x6F8#11 1 i) s

/-- FIDIV m32int : `DA /6` (R653). -/
def execFidivM32int (ea : Ea) (s : State) : Out := runSeq (binInt opDiv 2#3 6#3 32 ea) s

/-- FIDIV m16int : `DE /6` (R653). -/
def execFidivM16int (ea : Ea) (s : State) : Out := runSeq (binInt opDiv 6#3 6#3 16 ea) s

/-- FDIVR m32real : `D8 /7` (R654). -/
def execFdivrM32real (ea : Ea) (s : State) : Out := runSeq (binReal opDivR 0#3 7#3 8 23 ea) s

/-- FDIVR m64real : `DC /7` (R654). -/
def execFdivrM64real (ea : Ea) (s : State) : Out := runSeq (binReal opDivR 4#3 7#3 11 52 ea) s

/-- FDIVR ST(0),ST(i) : `D8 F8+i` (R654). -/
def execFdivrSt0Sti (i : Reg) (s : State) : Out := runSeq (binTop opDivR 0xF8#11 i) s

/-- FDIVR ST(i),ST(0) : `DC F0+i` (R654). -/
def execFdivrStiSt0 (i : Reg) (s : State) : Out := runSeq (binSti opDivR 0x4F0#11 0 i) s

/-- FDIVRP ST(i),ST(0) : `DE F0+i` (R654). -/
def execFdivrpStiSt0 (i : Reg) (s : State) : Out := runSeq (binSti opDivR 0x6F0#11 1 i) s

/-- FIDIVR m32int : `DA /7` (R654). -/
def execFidivrM32int (ea : Ea) (s : State) : Out := runSeq (binInt opDivR 2#3 7#3 32 ea) s

/-- FIDIVR m16int : `DE /7` (R654). -/
def execFidivrM16int (ea : Ea) (s : State) : Out := runSeq (binInt opDivR 6#3 7#3 16 ea) s

/-- FMUL m32real : `D8 /1` (R655). -/
def execFmulM32real (ea : Ea) (s : State) : Out := runSeq (binReal opMul 0#3 1#3 8 23 ea) s

/-- FMUL m64real : `DC /1` (R655). -/
def execFmulM64real (ea : Ea) (s : State) : Out := runSeq (binReal opMul 4#3 1#3 11 52 ea) s

/-- FMUL ST(0),ST(i) : `D8 C8+i` (R655). -/
def execFmulSt0Sti (i : Reg) (s : State) : Out := runSeq (binTop opMul 0xC8#11 i) s

/-- FMUL ST(i),ST(0) : `DC C8+i` (R655). -/
def execFmulStiSt0 (i : Reg) (s : State) : Out := runSeq (binSti opMul 0x4C8#11 0 i) s

/-- FMULP ST(i),ST(0) : `DE C8+i` (R655). -/
def execFmulpStiSt0 (i : Reg) (s : State) : Out := runSeq (binSti opMul 0x6C8#11 1 i) s

/-- FIMUL m32int : `DA /1` (R655). -/
def execFimulM32int (ea : Ea) (s : State) : Out := runSeq (binInt opMul 2#3 1#3 32 ea) s

/-- FIMUL m16int : `DE /1` (R655). -/
def execFimulM16int (ea : Ea) (s : State) : Out := runSeq (binInt opMul 6#3 1#3 16 ea) s

/-- FPREM : `D9 F8` (R656). -/
def execFprem (s : State) : Out := runSeq (fpremOp 0x1F8#11 false) s

/-- FPREM1 : `D9 F5` (R657). -/
def execFprem1 (s : State) : Out := runSeq (fpremOp 0x1F5#11 true) s

/-- FRNDINT : `D9 FC` (R658). -/
def execFrndint (s : State) : Out := runSeq frndintOp s

/-- FSCALE : `D9 FD` (R659). -/
def execFscale (s : State) : Out := runSeq fscaleOp s

/-- FSQRT : `D9 FA` (R660). -/
def execFsqrt (s : State) : Out := runSeq fsqrtOp s

/-- FSUB m32real : `D8 /4` (R661). -/
def execFsubM32real (ea : Ea) (s : State) : Out := runSeq (binReal opSub 0#3 4#3 8 23 ea) s

/-- FSUB m64real : `DC /4` (R661). -/
def execFsubM64real (ea : Ea) (s : State) : Out := runSeq (binReal opSub 4#3 4#3 11 52 ea) s

/-- FSUB ST(0),ST(i) : `D8 E0+i` (R661). -/
def execFsubSt0Sti (i : Reg) (s : State) : Out := runSeq (binTop opSub 0xE0#11 i) s

/-- FSUB ST(i),ST(0) : `DC E8+i` (R661). -/
def execFsubStiSt0 (i : Reg) (s : State) : Out := runSeq (binSti opSub 0x4E8#11 0 i) s

/-- FSUBP ST(i),ST(0) : `DE E8+i` (R661). -/
def execFsubpStiSt0 (i : Reg) (s : State) : Out := runSeq (binSti opSub 0x6E8#11 1 i) s

/-- FISUB m32int : `DA /4` (R661). -/
def execFisubM32int (ea : Ea) (s : State) : Out := runSeq (binInt opSub 2#3 4#3 32 ea) s

/-- FISUB m16int : `DE /4` (R661). -/
def execFisubM16int (ea : Ea) (s : State) : Out := runSeq (binInt opSub 6#3 4#3 16 ea) s

/-- FSUBR m32real : `D8 /5` (R662). -/
def execFsubrM32real (ea : Ea) (s : State) : Out := runSeq (binReal opSubR 0#3 5#3 8 23 ea) s

/-- FSUBR m64real : `DC /5` (R662). -/
def execFsubrM64real (ea : Ea) (s : State) : Out := runSeq (binReal opSubR 4#3 5#3 11 52 ea) s

/-- FSUBR ST(0),ST(i) : `D8 E8+i` (R662). -/
def execFsubrSt0Sti (i : Reg) (s : State) : Out := runSeq (binTop opSubR 0xE8#11 i) s

/-- FSUBR ST(i),ST(0) : `DC E0+i` (R662). -/
def execFsubrStiSt0 (i : Reg) (s : State) : Out := runSeq (binSti opSubR 0x4E0#11 0 i) s

/-- FSUBRP ST(i),ST(0) : `DE E0+i` (R662). -/
def execFsubrpStiSt0 (i : Reg) (s : State) : Out := runSeq (binSti opSubR 0x6E0#11 1 i) s

/-- FISUBR m32int : `DA /5` (R662). -/
def execFisubrM32int (ea : Ea) (s : State) : Out := runSeq (binInt opSubR 2#3 5#3 32 ea) s

/-- FISUBR m16int : `DE /5` (R662). -/
def execFisubrM16int (ea : Ea) (s : State) : Out := runSeq (binInt opSubR 6#3 5#3 16 ea) s

/-- FXTRACT : `D9 F4` (R663). -/
def execFxtract (s : State) : Out := runSeq fxtractOp s

end Sys2Proof.Machine
end

