-- ==== Sys2Proof/Machine/Events.lean ====
section
/-! DEFINITION. What the outside world can do at an instruction boundary (60_exceptions.md R850, R852, R854, R861, R889;
70_reset_and_hazards.md R910; 10_state.md R116, R117), log 7, and the passing of time that the time-stamp counter shows
(10_state.md R98; 60_exceptions.md R885), log 6. -/

namespace Sys2Proof.Machine

/-- The value of the time-stamp counter that follows `v`: any positive amount below 2^64 more, modulo 2^64 (10_state.md R98;
60_exceptions.md R885; log 6). -/
def tscNext (v : QWord) (draw : Nat) : QWord := v + BitVec.ofNat 64 (1 + Config.tscAdvance draw % (2 ^ 64 - 1))

/-- The time-stamp counter goes on: with each instruction (R885), and with every other step too (R98: it counts clock cycles;
log 6). -/
def State.ticked (s : State) : State := { s with tsc := tscNext s.tsc s.fresh, fresh := s.fresh + 1 }

/-- RESET: the state of R116, with memory and what the host offers as they are (R910). -/
def State.resetEvent (s : State) : State :=
  { State.reset with mem := s.mem, host := { s.host with reset := false }, ioTrace := s.ioTrace, fresh := s.fresh }

/-- INIT: as RESET, but the FPU, CR0.CD and CR0.NW, the counters, the model-specific registers and what the caches
hold stay (10_state.md R117). -/
def State.initEvent (s : State) : State :=
  { State.reset with
    mem := s.mem, dirty := s.dirty, host := { s.host with init := false }, ioTrace := s.ioTrace, fresh := s.fresh,
    fpu := s.fpu, tsc := s.tsc, pmc0 := s.pmc0, pmc1 := s.pmc1, msrs := s.msrs,
    cr0 := (State.reset.cr0 &&& 0x9FFFFFFF#32) ||| (s.cr0 &&& 0x60000000#32) }

/-- Take a pending NMI: vector 2 (R850). -/
def takeNmi (s : State) : Out :=
  deliver 2#8 .external none s.eip { s with host := { s.host with nmi := false } }

/-- Take a maskable interrupt with its vector (R850). -/
def takeIntr (v : Byte) (s : State) : Out :=
  deliver v .external none s.eip { s with host := { s.host with intr := none } }

/-- May a maskable interrupt be taken: IF = 1 and no window (R850, R852)? -/
def State.intrOpen (s : State) : Bool := s.flags.ifl && s.inhibit == .none

/-- What happens at an instruction boundary instead of the next instruction, in the order of R854 and R910: RESET,
INIT, shutdown that only an NMI leaves (R861), the single-step trap owed, NMI, a maskable interrupt, the HALT state
(R889). -/
def boundary (s : State) : Option Out :=
  if s.host.reset then some (.next s.resetEvent)
  else if s.host.init then some (.next s.initEvent)
  else if s.shutdown then some (if s.host.nmi then takeNmi s else .next s)
  else if s.trapOwed then some (deliver 1#8 .exception none s.eip { s with trapOwed := false })
  else if s.host.nmi && s.inhibit != .ss then some (takeNmi s)
  else
    match s.host.intr with
    | some v => if s.intrOpen then some (takeIntr v s) else if s.halted then some (.next s) else none
    | none => if s.halted then some (.next s) else none

end Sys2Proof.Machine
end

