-- ==== Sys2Proof/Machine/FpuControl.lean ====
section
/-! DEFINITION. FPU control instructions (48_fpu_arithmetic_3_control.md R705 to R725; 46_fpu_numerics.md R556, R570). -/

namespace Sys2Proof.Machine

/-! ## Words of the FPU -/

/-- The status word (10_state.md R102): ES in bit 7 and B in bit 15 are the summary (D69). -/
def Fpu.statusWord (f : Fpu) : Word :=
  BitVec.ofBool f.es ++ BitVec.ofBool f.st.c3 ++ f.st.top ++ BitVec.ofBool f.st.c2 ++ BitVec.ofBool f.st.c1 ++
  BitVec.ofBool f.st.c0 ++ BitVec.ofBool f.es ++ BitVec.ofBool f.st.sf ++ BitVec.ofBool f.st.pe ++
  BitVec.ofBool f.st.ue ++ BitVec.ofBool f.st.oe ++ BitVec.ofBool f.st.ze ++ BitVec.ofBool f.st.de ++
  BitVec.ofBool f.st.ie

/-- The status of a word; bits 7 and 15 are ignored (D69). -/
def statusOf (w : Word) : FpuStatus :=
  { ie := w.getLsbD 0, de := w.getLsbD 1, ze := w.getLsbD 2, oe := w.getLsbD 3, ue := w.getLsbD 4,
    pe := w.getLsbD 5, sf := w.getLsbD 6, c0 := w.getLsbD 8, c1 := w.getLsbD 9, c2 := w.getLsbD 10,
    c3 := w.getLsbD 14, top := w.extractLsb' 11 3 }

/-- The tag of a physical register that is not empty (10_state.md R104). -/
def tagOf (x : Ext) : BitVec 2 :=
  match classOf x with
  | .zero => 1#2
  | .normal => 0#2
  | .denormal => 2#2
  | .infinity => 2#2
  | .snan => 2#2
  | .qnan => 2#2
  | .unsupported => 2#2

/-- The tag of physical register `i`. -/
def Fpu.tag (f : Fpu) (i : Fin 8) : BitVec 2 := if f.empty.get i then 3#2 else tagOf (f.regs.get i)

/-- The tag word: register 7 in bits 15:14 (10_state.md R104). -/
def Fpu.tagWord (f : Fpu) : Word :=
  f.tag 7 ++ f.tag 6 ++ f.tag 5 ++ f.tag 4 ++ f.tag 3 ++ f.tag 2 ++ f.tag 1 ++ f.tag 0

/-- The registers that a tag word calls empty. -/
def emptyOf (w : Word) : Vector Bool 8 := Vector.ofFn fun i => w.extractLsb' (2 * i.val) 2 == 3#2

/-! ## The environment image (46_fpu_numerics.md R570, D79) -/

/-- The linear address that the real-address formats hold for a pointer. -/
def pointerLinear (sel : Word) (off : DWord) : DWord := (sel.setWidth 32 <<< 4) + off

/-- Three words as doublewords with their upper halves clear. -/
def wordsWide (f : Fpu) : BitVec 96 := 0#16 ++ f.tagWord ++ 0#16 ++ f.statusWord ++ 0#16 ++ f.cw

/-- The protected-mode image of 28 bytes. -/
def imageProt32 (f : Fpu) : BitVec 224 :=
  0#16 ++ f.fds ++ f.fdp ++ 0#5 ++ f.fop ++ f.fcs ++ f.fip ++ wordsWide f

/-- The real-address image of 28 bytes. -/
def imageReal32 (f : Fpu) : BitVec 224 :=
  let i := pointerLinear f.fcs f.fip
  let d := pointerLinear f.fds f.fdp
  0#4 ++ d.extractLsb' 16 16 ++ 0#12 ++ 0#16 ++ d.extractLsb' 0 16 ++ 0#4 ++ i.extractLsb' 16 16 ++ 0#1 ++ f.fop ++
  0#16 ++ i.extractLsb' 0 16 ++ wordsWide f

/-- The protected-mode image of 14 bytes. -/
def imageProt16 (f : Fpu) : BitVec 112 :=
  f.fds ++ f.fdp.extractLsb' 0 16 ++ f.fcs ++ f.fip.extractLsb' 0 16 ++ f.tagWord ++ f.statusWord ++ f.cw

/-- The real-address image of 14 bytes. -/
def imageReal16 (f : Fpu) : BitVec 112 :=
  let i := pointerLinear f.fcs f.fip
  let d := pointerLinear f.fds f.fdp
  d.extractLsb' 16 4 ++ 0#12 ++ d.extractLsb' 0 16 ++ i.extractLsb' 16 4 ++ 0#1 ++ f.fop ++ i.extractLsb' 0 16 ++
  f.tagWord ++ f.statusWord ++ f.cw

/-- The reserved bits of the protected-mode image of 28 bytes: the upper halves of the doublewords at 0, 4, 8 and 24. -/
def reservedProt32 : BitVec 224 := 0xFFFF0000_00000000_00000000_00000000_FFFF0000_FFFF0000_FFFF0000#224

/-- The reserved bits of the real-address image of 28 bytes: the upper halves of the doublewords at 0, 4, 8, 12
and 20. -/
def reservedReal32 : BitVec 224 := 0x00000000_FFFF0000_00000000_FFFF0000_FFFF0000_FFFF0000_FFFF0000#224

/-- Bytes of an environment. -/
def envBytes (wide : Bool) : Nat := if wide then 28 else 14

/-- The environment image by mode and operand size; reserved bits are the free ones of `u` (log 39). -/
def State.envImage (s : State) (u : BitVec 224) : Nat :=
  if s.os32 then
    (if s.isProt then imageProt32 s.fpu ||| (u &&& reservedProt32)
     else imageReal32 s.fpu ||| (u &&& reservedReal32)).toNat
  else (if s.isProt then imageProt16 s.fpu else imageReal16 s.fpu).toNat

/-- Control, status and tags from an image whose words stand `n` bits apart. -/
def Fpu.loadWords (f : Fpu) (v n : Nat) : Fpu :=
  { f with cw := BitVec.ofNat 16 v, st := statusOf (BitVec.ofNat 16 (v / 2 ^ n)),
           empty := emptyOf (BitVec.ofNat 16 (v / 2 ^ (2 * n))) }

/-- Load the environment from its image (R570). The 14-byte image of protected mode holds only bits 15:0 of the two offsets:
bits 31:16 become 0 (DESIGN CHOICE, log 39). -/
def State.loadEnv (s : State) (v : Nat) : Fpu :=
  let w := fun (k : Nat) => BitVec.ofNat 16 (v / 2 ^ (8 * k))
  let d := fun (k : Nat) => BitVec.ofNat 32 (v / 2 ^ (8 * k))
  let f := s.fpu.loadWords v (if s.os32 then 32 else 16)
  if s.os32 then
    if s.isProt then
      { f with fip := d 12, fcs := w 16, fop := BitVec.ofNat 11 (v / 2 ^ 144), fdp := d 20, fds := w 24 }
    else
      { f with fip := BitVec.ofNat 16 (v / 2 ^ 140) ++ w 12, fcs := 0#16, fop := BitVec.ofNat 11 (v / 2 ^ 128),
               fdp := BitVec.ofNat 16 (v / 2 ^ 204) ++ w 20, fds := 0#16 }
  else if s.isProt then
    { f with fip := (w 6).setWidth 32, fcs := w 8, fdp := (w 10).setWidth 32, fds := w 12 }
  else
    { f with fip := (BitVec.ofNat 4 (v / 2 ^ 76) ++ w 6).setWidth 32, fcs := 0#16, fop := BitVec.ofNat 11 (v / 2 ^ 64),
             fdp := (BitVec.ofNat 4 (v / 2 ^ 108) ++ w 10).setWidth 32, fds := 0#16 }

/-- ST(0) to ST(7), 10 bytes each. -/
def Fpu.stackImage (f : Fpu) : BitVec 640 :=
  f.reg 7#3 ++ f.reg 6#3 ++ f.reg 5#3 ++ f.reg 4#3 ++ f.reg 3#3 ++ f.reg 2#3 ++ f.reg 1#3 ++ f.reg 0#3

/-- The data registers from the 80 bytes of an image, ST(i) relative to the TOP already loaded; the tags stay. -/
def Fpu.loadStack (f : Fpu) (v : BitVec 640) : Fpu :=
  { f with regs := Vector.ofFn fun p => v.extractLsb' (80 * (BitVec.ofNat 3 p.val - f.st.top).toNat) 80 }

/-- FINIT (R709): the data registers stay. -/
def Fpu.init (f : Fpu) : Fpu :=
  { f with cw := 0x037F#16, st := clearStatus, empty := Vector.replicate 8 true, fcs := 0#16, fip := 0#32,
           fds := 0#16, fdp := 0#32, fop := 0#11 }

/-! ## The instructions -/

/-- The checks of WAIT (R725): #NM with MP and TS set, then a pending exception. -/
def waitChecks : M Unit := do
  let s ← get
  stopIf (s.cr0.getLsbD 1 && s.cr0.getLsbD 3) excNM
  checkPending

/-- One of the eleven prefix bytes (30_encoding.md R172). -/
def prefixByte (b : Byte) : Bool :=
  b == 0xF0#8 || b == 0xF2#8 || b == 0xF3#8 || b == 0x2E#8 || b == 0x36#8 || b == 0x3E#8 || b == 0x26#8 ||
    b == 0x64#8 || b == 0x65#8 || b == 0x66#8 || b == 0x67#8

/-- The opcode and ModR/M byte of an instruction that WAIT makes a waiting control form of (R725): FNCLEX, FNINIT, FNSAVE,
FNSTCW, FNSTENV, FNSTSW. -/
def controlBytes (op b : Byte) : Bool :=
  let digit := b.extractLsb' 3 3
  let memory := b.extractLsb' 6 2 != 3#2
  (op == 0xDB#8 && (b == 0xE2#8 || b == 0xE3#8)) || (op == 0xDF#8 && b == 0xE0#8) ||
    (memory && (op == 0xDD#8 || op == 0xD9#8) && (digit == 6#3 || digit == 7#3))

/-- The bytes begin such an instruction, after any prefixes. -/
def opensControl : List Byte → Bool
  | op :: b :: k => if prefixByte op then opensControl (b :: k) else controlBytes op b
  | _ => false

/-- What stands after the instruction makes a waiting control form of a WAIT: WAIT is its first half (log 10). -/
def State.beforeControl (s : State) : Bool := opensControl (s.fetchWindow s.nextEip 15)

/-- WAIT (R725). Alone it makes the condition codes undefined; as the first half of a waiting control form whose second half
has a prefix of its own it leaves them to that one (R714, R716, R717; log 10). -/
def waitOp : M Unit := do
  waitChecks
  let s ← get
  if s.beforeControl then pure () else undefC

/-- A waiting form of a control instruction: the checks of WAIT, one byte, then the form that does not wait. It finds the
condition codes as the instructions before it left them (R714, R716, R717; log 10). Where an event is due at the boundary
between the two, it comes first (48_fpu_arithmetic_3_control.md R725). -/
def waitThen (body : M Unit) (s : State) : Out :=
  match waitChecks { s with inhibit := .none } with
  | .error e => stopped s e
  | .ok (_, t) =>
    let u := s.completed { t with eip := s.eip + 1#32 }
    match boundary u with
    | some _ => .next u
    | none => runSeq body u

/-- FNCLEX (R705). -/
def fnclexOp : M Unit := do
  needFpu
  modifyFpu fun f =>
    { f with st := { f.st with ie := false, de := false, ze := false, oe := false, ue := false, pe := false,
                               sf := false } }
  undefC

/-- FNINIT (R709). -/
def fninitOp : M Unit := do
  needFpu
  modifyFpu Fpu.init

/-- FDECSTP and FINCSTP (R706, R708). -/
def moveTop (op : BitVec 11) (d : BitVec 3) : M Unit :=
  fpuReg op do
    modifyFpu fun f => f.setTop (f.st.top + d)
    undefC320
    setC1 false

/-- FFREE (R707). -/
def ffreeOp (i : Reg) : M Unit :=
  fpuSti 0x5C0#11 i do
    modifyFpu fun f => f.free i
    undefC

/-- FNOP (R712). -/
def fnopOp : M Unit := fpuReg 0x1D0#11 undefC

/-- FENI, FDISI and FSETPM do nothing (46_fpu_numerics.md R556, D78). -/
def obsoleteOp : M Unit := needFpu

/-- FLDCW (R710). -/
def fldcwOp (ea : Ea) : M Unit := do
  fpuReady
  let s ← get
  let v ← memRead (s.eaLoc ea) 2 2
  modifyFpu fun f => { f with cw := BitVec.ofNat 16 v }
  undefC

/-- FNSTCW (R715). -/
def fnstcwOp (ea : Ea) : M Unit := do
  needFpu
  let s ← get
  memWriteSplit (s.eaLoc ea) 2 2 s.fpu.cw.toNat
  undefC

/-- FNSTSW to memory (R717). -/
def fnstswOp (ea : Ea) : M Unit := do
  needFpu
  let s ← get
  memWriteSplit (s.eaLoc ea) 2 2 s.fpu.statusWord.toNat
  undefC

/-- FNSTSW to AX (R717). -/
def fnstswAxOp : M Unit := do
  needFpu
  let s ← get
  setReg 16 rA s.fpu.statusWord
  undefC

/-- FLDENV (R711). -/
def fldenvOp (ea : Ea) : M Unit := do
  fpuReady
  let s ← get
  let v ← memRead (s.eaLoc ea) (envBytes s.os32) s.osBytes
  modify fun t => { t with fpu := s.loadEnv v }

/-- FNSTENV (R716): the environment is stored, then every exception is masked. -/
def fnstenvOp (ea : Ea) : M Unit := do
  needFpu
  let s ← get
  let u ← freeBits 224
  memWriteSplit (s.eaLoc ea) (envBytes s.os32) s.osBytes (s.envImage u)
  modifyFpu fun f => { f with cw := f.cw ||| 0x3F#16 }
  undefC

/-- FRSTOR (R713). -/
def frstorOp (ea : Ea) : M Unit := do
  fpuReady
  let s ← get
  let n := envBytes s.os32
  let v ← memRead (s.eaLoc ea) (n + 80) s.osBytes
  modify fun t => { t with fpu := (s.loadEnv v).loadStack (BitVec.ofNat 640 (v / 2 ^ (8 * n))) }

/-- FNSAVE (R714). -/
def fnsaveOp (ea : Ea) : M Unit := do
  needFpu
  let s ← get
  let u ← freeBits 224
  let n := envBytes s.os32
  memWriteSplit (s.eaLoc ea) (n + 80) s.osBytes (s.envImage u + 2 ^ (8 * n) * s.fpu.stackImage.toNat)
  modifyFpu Fpu.init

/-- FENI : `DB E0` (R556). -/
def execFeni (s : State) : Out := runSeq obsoleteOp s

/-- FDISI : `DB E1` (R556). -/
def execFdisi (s : State) : Out := runSeq obsoleteOp s

/-- FSETPM : `DB E4` (R556). -/
def execFsetpm (s : State) : Out := runSeq obsoleteOp s

/-- FNCLEX : `DB E2` (R705). -/
def execFnclex (s : State) : Out := runSeq fnclexOp s

/-- FCLEX : `9B DB E2` (R705). -/
def execFclex (s : State) : Out := waitThen fnclexOp s

/-- FDECSTP : `D9 F6` (R706). -/
def execFdecstp (s : State) : Out := runSeq (moveTop 0x1F6#11 7#3) s

/-- FFREE ST(i) : `DD C0+i` (R707). -/
def execFfreeSti (i : Reg) (s : State) : Out := runSeq (ffreeOp i) s

/-- FINCSTP : `D9 F7` (R708). -/
def execFincstp (s : State) : Out := runSeq (moveTop 0x1F7#11 1#3) s

/-- FNINIT : `DB E3` (R709). -/
def execFninit (s : State) : Out := runSeq fninitOp s

/-- FINIT : `9B DB E3` (R709). -/
def execFinit (s : State) : Out := waitThen fninitOp s

/-- FLDCW m2byte : `D9 /5` (R710). -/
def execFldcwM2byte (ea : Ea) (s : State) : Out := runSeq (fldcwOp ea) s

/-- FLDENV m14/28byte : `D9 /4` (R711). -/
def execFldenvMEnv (ea : Ea) (s : State) : Out := runSeq (fldenvOp ea) s

/-- FNOP : `D9 D0` (R712). -/
def execFnop (s : State) : Out := runSeq fnopOp s

/-- FRSTOR m94/108byte : `DD /4` (R713). -/
def execFrstorMState (ea : Ea) (s : State) : Out := runSeq (frstorOp ea) s

/-- FNSAVE m94/108byte : `DD /6` (R714). -/
def execFnsaveMState (ea : Ea) (s : State) : Out := runSeq (fnsaveOp ea) s

/-- FSAVE m94/108byte : `9B DD /6` (R714). -/
def execFsaveMState (ea : Ea) (s : State) : Out := waitThen (fnsaveOp ea) s

/-- FNSTCW m2byte : `D9 /7` (R715). -/
def execFnstcwM2byte (ea : Ea) (s : State) : Out := runSeq (fnstcwOp ea) s

/-- FSTCW m2byte : `9B D9 /7` (R715). -/
def execFstcwM2byte (ea : Ea) (s : State) : Out := waitThen (fnstcwOp ea) s

/-- FNSTENV m14/28byte : `D9 /6` (R716). -/
def execFnstenvMEnv (ea : Ea) (s : State) : Out := runSeq (fnstenvOp ea) s

/-- FSTENV m14/28byte : `9B D9 /6` (R716). -/
def execFstenvMEnv (ea : Ea) (s : State) : Out := waitThen (fnstenvOp ea) s

/-- FNSTSW m2byte : `DD /7` (R717). -/
def execFnstswM2byte (ea : Ea) (s : State) : Out := runSeq (fnstswOp ea) s

/-- FNSTSW AX : `DF E0` (R717). -/
def execFnstswAx (s : State) : Out := runSeq fnstswAxOp s

/-- FSTSW m2byte : `9B DD /7` (R717). -/
def execFstswM2byte (ea : Ea) (s : State) : Out := waitThen (fnstswOp ea) s

/-- FSTSW AX : `9B DF E0` (R717). -/
def execFstswAx (s : State) : Out := waitThen fnstswAxOp s

/-- WAIT : `9B` (R725). -/
def execWait (s : State) : Out := runSeq waitOp s

end Sys2Proof.Machine
end

