-- ==== Sys2Proof/Machine/Elementary.lean ====
section
/-! DEFINITION. The transcendental functions (46_fpu_numerics.md R560, R561; 48_fpu_arithmetic_2_transcendental.md). The spec
gives no result bits, only a bound (an error below 1 ulp rounding to nearest and below 1.5 ulp otherwise) and monotonicity.
Here each function has an approximation far below that bound, in exact integer arithmetic, and the result is ANY that keeps
to the bound and to monotonicity (log 27). -/

namespace Sys2Proof.Machine

open Config (Transcend)

/-! ## Fixed point -/

/-- 1 in fixed point with 512 fraction bits. -/
def fxOne : Nat := 2 ^ 512
/-- pi, to 512 fraction bits. -/
def fxPi : Nat :=
  0x3243f6a8885a308d313198a2e03707344a4093822299f31d0082efa98ec4e6c89452821e638d01377be5466cf34e90c6cc0ac29b7c97c50dd3f84d5b5b5470917
/-- loge 2. -/
def fxLn2 : Nat :=
  0xb17217f7d1cf79abc9e3b39803f2f6af40f343267298b62d8a0d175b8baafa2be7b876206debac98559552fb4afa1b10ed2eae35c138214427573b291169b825
/-- log2 e. -/
def fxLog2e : Nat :=
  0x171547652b82fe1777d0ffda0d23a7d11d6aef551bad2b4b1164a2cd9a342648fbc3887eeaa2ed9ac49b25eeb82d7c167d52173cc1895213f897f5e06a7be7366

/-- The internal pi has 66 bits: `piSig` * 2^-64 (R561). -/
def piSig : Nat := 0x3243F6A8885A308D3

/-- mant * 2^exp in fixed point, cut. -/
def toFixed (m : Nat) (e : Int) : Nat := m * 2 ^ (e + 512).toNat / 2 ^ (-(e + 512)).toNat

/-- A fixed-point number. -/
def ofFixed (sign : Bool) (m : Nat) : Dyadic := { sign := sign, mant := m, exp := -512 }

/-! ## Series, by the number of terms -/

/-- 1 - u/(k(k+1)) * (1 - u/((k+2)(k+3)) * ...): for k = 2 the sine of r over r, for k = 1 the cosine, u being r^2. -/
def trigSeries (u : Nat) : Nat → Nat → Nat
  | 0, _ => fxOne
  | n + 1, k => fxOne - u * trigSeries u n (k + 2) / (fxOne * (k * (k + 1)))

/-- (e^z - 1) / z as 1 + z/k * (1 + z/(k+1) * ...) with k = 2. -/
def expSeries (z : Int) : Nat → Nat → Int
  | 0, _ => fxOne
  | n + 1, k => fxOne + z * expSeries z n (k + 1) / (fxOne * k : Nat)

/-- 1/k + t * (1/(k+1) + t * ...): for k = 1 and t = -x this is ln(1 + x) / x. -/
def logSeries (t : Int) : Nat → Nat → Int
  | 0, _ => 0
  | n + 1, k => (fxOne / k : Nat) + t * logSeries t n (k + 1) / (fxOne : Nat)

/-- 1 + v * 2k/(2k+1) * (1 + ...): with k = 1 and v = t^2 / (1 + t^2) this is atan t times (1 + t^2) / t (Euler). -/
def atanSeries (v : Nat) : Nat → Nat → Nat
  | 0, _ => fxOne
  | n + 1, k => fxOne + v * (2 * k) * atanSeries v n (k + 1) / (fxOne * (2 * k + 1))

/-- The next `n` bits of log2 y, by squaring; y in [1, 2) has 1088 fraction bits. -/
def log2Bits : Nat → Nat → Nat → Nat
  | 0, _, acc => acc
  | n + 1, y, acc =>
    let z := y * y / 2 ^ 1088
    if 2 ^ 1089 ≤ z then log2Bits n (z / 2) (2 * acc + 1) else log2Bits n z (2 * acc)

/-! ## Approximations -/

/-- 2^x - 1 for 0 < |x| < 1. -/
def approxExp2m1 (x : Dyadic) : Dyadic :=
  let z : Nat := toFixed x.mant x.exp * fxLn2 / fxOne
  let t := expSeries (if x.sign then -(z : Int) else z) 104 2
  { sign := x.sign, mant := x.mant * fxLn2 * t.toNat, exp := x.exp - 1024 }

/-- y * log2 x for x > 0 that is not 1; exact where log2 x is an integer. -/
def approxYLog2 (y x : Dyadic) : Dyadic :=
  let frac := log2Bits 448 (x.mant * 2 ^ (1089 - bitLength x.mant)) 0
  let v : Int := x.top * 2 ^ 448 + (frac : Int)
  { sign := y.sign != decide (v < 0), mant := v.natAbs * y.mant, exp := y.exp - 448 }

/-- y * log2 (1 + x) for 0 < |x| < 1/2. -/
def approxYLog2P1 (y x : Dyadic) : Dyadic :=
  let z : Nat := toFixed x.mant x.exp
  let t := logSeries (if x.sign then (z : Int) else -(z : Int)) 320 1
  { sign := y.sign != x.sign, mant := x.mant * t.toNat * fxLog2e * y.mant, exp := x.exp + y.exp - 1024 }

/-- x reduced by a multiple of 2 pi, pi being the internal one, exactly (R561): as FPREM leaves it, or as FPREM1 does. -/
def reduceAngle (x : Dyadic) : Dyadic :=
  let e := min x.exp (-63)
  let d := piSig * 2 ^ (-63 - e).toNat
  let r := x.mant * 2 ^ (x.exp - e).toNat % d
  if Config.reduceNearest && decide (d < 2 * r) then { sign := !x.sign, mant := d - r, exp := e }
  else { sign := x.sign, mant := r, exp := e }

/-- Quadrant, sine and cosine of an angle below 2 pi, in fixed point, within its quadrant. -/
def quadrant (r : Nat) : Nat × Nat × Nat :=
  let q := 2 * r / fxPi
  let a := r - q * fxPi / 2
  let u := a * a / fxOne
  (q, min (a * trigSeries u 64 2 / fxOne) (fxOne - 1), min (trigSeries u 64 1) (fxOne - 1))

/-- The square of a small angle in fixed point. -/
def smallSquare (r : Dyadic) : Nat := toFixed (r.mant * r.mant) (2 * r.exp)

/-- The sine of a reduced angle that is not zero. -/
def approxSin (r : Dyadic) : Dyadic :=
  if r.top < -1 then { r with mant := r.mant * trigSeries (smallSquare r) 64 2, exp := r.exp - 512 }
  else
    let (q, s, c) := quadrant (toFixed r.mant r.exp)
    ofFixed (r.sign != decide (2 ≤ q)) (if q % 2 = 0 then s else c)

/-- The cosine of a reduced angle that is not zero. -/
def approxCos (r : Dyadic) : Dyadic :=
  if r.top < -1 then ofFixed false (min (trigSeries (smallSquare r) 64 1) (fxOne - 1))
  else
    let (q, s, c) := quadrant (toFixed r.mant r.exp)
    ofFixed (decide (q = 1 ∨ q = 2)) (if q % 2 = 0 then c else s)

/-- The tangent of a reduced angle that is not zero. -/
def approxTan (r : Dyadic) : Dyadic :=
  if r.top < -1 then
    let u := smallSquare r
    { r with mant := r.mant * (trigSeries u 64 2 * fxOne / trigSeries u 64 1), exp := r.exp - 512 }
  else
    let (q, s, c) := quadrant (toFixed r.mant r.exp)
    let n := if q % 2 = 0 then s else c
    let d := if q % 2 = 0 then c else s
    ofFixed (r.sign != decide (q % 2 = 1)) (n * fxOne / d)

/-- atan (n / d) for 0 < n <= d. -/
def atanRatio (n d : Nat) : Dyadic :=
  let w := n * n + d * d
  let k := 8 + bitLength d - bitLength n
  { sign := false, mant := n * d * atanSeries (n * n * fxOne / w) 560 1 * 2 ^ k / w, exp := -512 - (k : Int) }

/-- The angle of the point (x, y), neither being zero, with the sign of y (R687). -/
def approxAtan (y x : Dyadic) : Dyadic :=
  let (n, d) := ratio y x
  if n ≤ d ∧ !x.sign then { atanRatio n d with sign := y.sign }
  else
    let a := if n ≤ d then atanRatio n d else atanRatio d n
    let f := toFixed a.mant a.exp
    let g := if n ≤ d then f else fxPi / 2 - f
    ofFixed y.sign (if x.sign then fxPi - g else g)

/-- The function of R560 at the operands y in ST(1) and x in ST(0), to more than 300 bits; the trigonometric ones at the
reduced argument (R561). -/
def approx (op : Transcend) (y x : Ext) : Dyadic :=
  let r := reduceAngle (valueOf x)
  match op with
  | .f2xm1 => approxExp2m1 (valueOf x)
  | .fpatan => approxAtan (valueOf y) (valueOf x)
  | .fyl2x => approxYLog2 (valueOf y) (valueOf x)
  | .fyl2xp1 => approxYLog2P1 (valueOf y) (valueOf x)
  | .fsin => approxSin r
  | .fcos => approxCos r
  | .fptan => approxTan r
  | .sincosSin => approxSin r
  | .sincosCos => approxCos r

/-! ## The operands that have no exact result -/

/-- Is an operand of F2XM1 within -1 to +1? -/
def inExp2Range (a : Ext) : Bool :=
  isZero a || (isFinite a && (decide ((valueOf a).top < 0) || a.extractLsb' 0 79 == oneExt.extractLsb' 0 79))

/-- Is an operand of FYL2XP1 within -(1 - sqrt 2 / 2) to +(1 - sqrt 2 / 2), or infinite, which its table lists (R692)? -/
def inLogRange (x : Ext) : Bool :=
  isInf x || isZero x ||
    (isFinite x && (decide ((valueOf x).top < -2) ||
      (decide ((valueOf x).top = -2) && decide (xSig x ≤ 0x95F619980C4336F7))))

/-- |x| >= 2^63: out of range for the trigonometric functions (R686, R688 to R690). -/
def tooLarge (x : Ext) : Bool := isFinite x && decide (63 ≤ (valueOf x).top)

/-- A finite number that is not zero. -/
def isNumber (x : Ext) : Bool := isFinite x && !isZero x

/-- The operands at which the function of R560 is asked: finite, in the range, and without an exact result. -/
def asked (op : Transcend) (y x : Ext) : Bool :=
  isNumber x &&
    match op with
    | .f2xm1 => decide ((valueOf x).top < 0)
    | .fpatan => isNumber y
    | .fyl2x => isNumber y && !xSign x && x != oneExt
    | .fyl2xp1 => isNumber y && inLogRange x
    | .fsin => !tooLarge x
    | .fcos => !tooLarge x
    | .fptan => !tooLarge x
    | .sincosSin => !tooLarge x
    | .sincosCos => !tooLarge x

/-! ## The oracle (R560, parameter Transcend; log 27) -/

/-- The order of two numbers. -/
def Dyadic.le (a b : Dyadic) : Bool := decide (a.scaled (min a.exp b.exp) ≤ b.scaled (min a.exp b.exp))

/-- The magnitude. -/
def Dyadic.abs (d : Dyadic) : Dyadic := { d with sign := false }

/-- The error bound of R560: with f the value and k its exponent, |f - F| is below 2^(k-63) with rounding to nearest and
below 1.5 times that otherwise. -/
def withinUlp (rc : BitVec 2) (f g : Dyadic) : Bool :=
  let e := min (min f.exp g.exp) (f.top - 63)
  decide (2 * (f.scaled e - g.scaled e).natAbs < (if rc = 0#2 then 2 else 3) * 2 ^ (f.top - 63 - e).toNat)

/-- The result that the implementation draws, a number of 64 bits with the sign of the function's value. -/
def drawn (op : Transcend) (rc : BitVec 2) (y x : Ext) : Dyadic :=
  { sign := (approx op y x).sign, mant := 2 ^ 63 + (Config.transcendFrac op rc y x).toNat,
    exp := Config.transcendExp op rc y x - 63 }

/-- Whether a rounding that is not exact increases the magnitude: RC says so, but to nearest it is open. -/
def growsBy (rc : BitVec 2) (sign up : Bool) : Bool :=
  match rc.toNat with
  | 0 => up
  | 1 => sign
  | 2 => !sign
  | _ => false

/-- A number next to a result of 64 bits, which the rounding of RC takes to that result: every one is inexact, and to nearest
C1 is open. -/
def Dyadic.beside (d : Dyadic) (rc : BitVec 2) (up : Bool) : Dyadic :=
  { d with mant := if growsBy rc d.sign up then 8 * d.mant - 1 else 8 * d.mant + 1, exp := d.exp - 3 }

/-- That result with the remainder which its last rounding removes: a number next to it, on the side that the implementation
draws. -/
def unrounded (op : Transcend) (rc : BitVec 2) (y x : Ext) : Dyadic :=
  (drawn op rc y x).beside rc (Config.transcendBit op rc y x)

/-- A multiple of pi: n * pi * 2^e, pi being the internal one. -/
def piTimes (sign : Bool) (n : Nat) (e : Int) : Dyadic := { sign := sign, mant := n * piSig, exp := e - 64 }

/-- pi * 2^e rounded as FPATAN rounds it. -/
def roundedPi (rc : BitVec 2) (sign : Bool) (e : Int) : Dyadic :=
  let r := (piTimes sign 1 e).roundTo rc 64
  { sign := false, mant := r.mant, exp := r.exp }

/-- The result stays on its side of the exact results next to it: the angle of FPATAN in its quadrant of the table, up to
pi/2 for x > 0, else from pi/2 to pi, these rounded (R687), and a cosine at or below 1, its value at 0 (R560, R686). -/
def inQuadrant (op : Transcend) (rc : BitVec 2) (y x : Ext) (g : Dyadic) : Bool :=
  match op with
  | .fpatan =>
    if xSign x then
      (roundedPi rc (xSign y) (-1)).le g.abs && g.abs.le (roundedPi rc (xSign y) 0)
    else g.abs.le (roundedPi rc (xSign y) (-1))
  | .fcos => g.abs.le { sign := false, mant := 1, exp := 0 }
  | .sincosCos => g.abs.le { sign := false, mant := 1, exp := 0 }
  | _ => true

/-- The next larger magnitude. -/
def nextExt (x : Ext) : Ext :=
  if xSig x = 2 ^ 64 - 1 then mkExt (xSign x) (xExp x + 1) (2 ^ 63)
  else mkExt (xSign x) (if xExp x = 0 ∧ xSig x = 2 ^ 63 - 1 then 1 else xExp x) (xSig x + 1)

/-- Is a magnitude smaller than another one? -/
def Dyadic.smaller (a b : Dyadic) : Bool := !b.abs.le a.abs

/-- The product. -/
def Dyadic.times (a b : Dyadic) : Dyadic :=
  { sign := a.sign != b.sign, mant := a.mant * b.mant, exp := a.exp + b.exp }

/-- The function falls from one point to another in the ranges where the approximations of neighbours are one number: the
cosine next to 0, where it falls with the magnitude, and the angle of FPATAN next to pi/2 and pi, of the sign of y, which
grows with |y| / |x| for x > 0 and falls with it for x < 0. -/
def fallsUnseen (op : Transcend) (y x y' x' : Ext) : Bool :=
  let flatter := ((valueOf y').times (valueOf x)).smaller ((valueOf y).times (valueOf x'))
  let steeper := ((valueOf y).times (valueOf x')).smaller ((valueOf y').times (valueOf x))
  match op with
  | .fpatan => if xSign x = xSign y then flatter else steeper
  | .fcos => (valueOf x).smaller (valueOf x')
  | .sincosCos => (valueOf x).smaller (valueOf x')
  | _ => false

/-- The function at one point is at most that at another: by the approximations, and where these are equal by
`fallsUnseen`. -/
def valueLe (op : Transcend) (y x y' x' : Ext) : Bool :=
  let f := approx op y x
  let f' := approx op y' x'
  f.le f' && !(f'.le f && fallsUnseen op y x y' x')

/-- Between two neighbours in an operand the results lie in the order of the values (R560: monotonic), with the remainders that
the last rounding removes: a result rounded again, to a denormal, is monotonic too. -/
def keepsOrder (op : Transcend) (rc : BitVec 2) (y x y' x' : Ext) : Bool :=
  let g := unrounded op rc y x
  let g' := unrounded op rc y' x'
  !asked op y' x' || ((!valueLe op y x y' x' || g.le g') && (!valueLe op y' x' y x || g'.le g))

/-- The implementation that draws the results keeps to R560 and R687: the bound, the quadrant of the angle, and monotonicity
in each operand. -/
def admissible (op : Transcend) : Bool :=
  decide (∀ (rc : BitVec 2) (y x : BitVec 80), asked op y x = true →
    withinUlp rc (approx op y x) (drawn op rc y x) = true ∧ inQuadrant op rc y x (drawn op rc y x) = true ∧
    keepsOrder op rc y x y (nextExt x) = true ∧ keepsOrder op rc y x (nextExt y) x = true)

/-- A pseudo-denormal in its normal encoding, which has the same value (R532). -/
def canonical (x : Ext) : Ext := if xExp x = 0 && xInteger x then mkExt (xSign x) 1 (xSig x) else x

/-- `Transcend(op, operands, RC)`: what an admissible implementation draws; where the implementation is none, the correctly
rounded value, which is an admissible instance (R12). -/
def transcend (op : Transcend) (rc : BitVec 2) (y x : Ext) : Dyadic :=
  if admissible op then drawn op rc (canonical y) (canonical x)
  else
    let f := approx op (canonical y) (canonical x)
    let r := f.roundTo rc 64
    { sign := f.sign, mant := r.mant, exp := r.exp }

/-- Whether the last rounding of that result, to nearest, increased its magnitude. -/
def transcendUp (op : Transcend) (rc : BitVec 2) (y x : Ext) : Bool :=
  if admissible op then Config.transcendBit op rc (canonical y) (canonical x)
  else ((approx op (canonical y) (canonical x)).roundTo rc 64).up

/-- The result of the oracle as the outcome of an operation. -/
def asks (op : Transcend) (rc : BitVec 2) (y x : Ext) : RawResult :=
  .num ((transcend op rc y x).beside rc (transcendUp op rc y x))

/-! ## The functions with their exact results -/

/-- F2XM1 in its range (R685): +1 gives 1 and -1 gives -1/2, with #P open, and with it C1 as RC allows (log 27). -/
def rawExp2m1 (rc : BitVec 2) (a : Ext) : RawResult :=
  if isZero a then .exact a
  else if (valueOf a).top = 0 then
    let inexact := Config.transcendBit .f2xm1 rc 0#80 a
    .rounded (if xSign a then mkExt true 0x3FFE (2 ^ 63) else oneExt) inexact
      (inexact && growsBy rc (xSign a) (Config.transcendBit .f2xm1 rc oneExt a))
  else asks .f2xm1 rc 0#80 a

/-- sin a (R689). -/
def rawSin (op : Transcend) (rc : BitVec 2) (a : Ext) : RawResult :=
  if isInf a then .invalid
  else if isZero a then .exact a
  else asks op rc 0#80 a

/-- cos a (R686). -/
def rawCos (op : Transcend) (rc : BitVec 2) (a : Ext) : RawResult :=
  if isInf a then .invalid
  else if isZero a then .exact oneExt
  else asks op rc 0#80 a

/-- tan a (R688). -/
def rawTan (rc : BitVec 2) (a : Ext) : RawResult :=
  if isInf a then .invalid
  else if isZero a then .exact a
  else asks .fptan rc 0#80 a

/-- The angle of the point (x, y) (R687). -/
def rawAtan (rc : BitVec 2) (y x : Ext) : RawResult :=
  let s := xSign y
  if isInf y then
    .num (if !isInf x then piTimes s 1 (-1) else if xSign x then piTimes s 3 (-2) else piTimes s 1 (-2))
  else if isInf x || isZero y then (if xSign x then .num (piTimes s 1 0) else .exact (zeroExt s))
  else if isZero x then .num (piTimes s 1 (-1))
  else asks .fpatan rc y x

/-- y * log2 x (R691). A zero y gives a zero of the sign of y XOR that of log2 x, which R691 takes from general knowledge and
93_implementation_defined.md U-FYL2X-ZERO-SIGN keeps proofs from relying on (log 44). -/
def rawYLog2 (rc : BitVec 2) (y x : Ext) : RawResult :=
  let s := xSign y
  if isZero x then
    (if isZero y then .invalid else if isInf y then .exact (infExt !s) else .zeroDivide (infExt !s))
  else if xSign x then .invalid
  else if isInf x then (if isZero y then .invalid else .exact (infExt s))
  else if x = oneExt then (if isInf y then .invalid else .exact (zeroExt s))
  else if isZero y then .exact (zeroExt (s != decide ((valueOf x).top < 0)))
  else if isInf y then .exact (infExt (s != decide ((valueOf x).top < 0)))
  else asks .fyl2x rc y x

/-- y * log2 (x + 1) for x in its range or infinite (R692). -/
def rawYLog2P1 (rc : BitVec 2) (y x : Ext) : RawResult :=
  let s := xSign y != xSign x
  if isInf x then (if xSign x || isZero y then .invalid else .exact (infExt (xSign y)))
  else if isInf y then (if isZero x then .invalid else .exact (infExt s))
  else if isZero x || isZero y then .exact (zeroExt s)
  else asks .fyl2xp1 rc y x

end Sys2Proof.Machine
end

