-- ==== Sys2Proof/Machine/FpuTrans.lean ====
section
/-! DEFINITION. FPU transcendental instructions (48_fpu_arithmetic_2_transcendental.md R685 to R692). -/

namespace Sys2Proof.Machine

/-! ## What the eight instructions share (46_fpu_numerics.md R560) -/

/-- An operand that is a NaN or has no class: it decides the answer by itself (R550). -/
def decides (x : Ext) : Bool := isNan x || classOf x == .unsupported

/-- One operand: the answer by R550, or any value where the operand is outside the range of the instruction, and then no
exception flag (R685 promises none: DESIGN CHOICE, log 27). -/
def unaryCalc (cw : Word) (inRange : Bool) (free a : Ext) (raw : RawResult) : Calc Ext :=
  if inRange || decides a then arith cw 64 [regOperand a] raw else Calc.pure free

/-- Two operands, y in ST(1) and x in ST(0). -/
def binaryCalc (cw : Word) (inRange : Bool) (free y x : Ext) (raw : RawResult) : Calc Ext :=
  if inRange || decides y || decides x then arith cw 64 [regOperand y, regOperand x] raw else Calc.pure free

/-- F2XM1 (R685): outside -1 to +1 the result is any value. -/
def f2xm1Op : M Unit :=
  fpuReg 0x1F0#11 do
    let free ← freeBits 80
    arithOp false 0#3 0 [0#3] fun cw _ f =>
      unaryCalc cw (inExp2Range (f.reg 0#3)) free (f.reg 0#3)
        (rawExp2m1 (rcOf cw) (f.reg 0#3))

/-- A result in ST(1), then a pop. -/
def intoSt1 (code : BitVec 11) (c : Word → Ext → Ext → Ext → Calc Ext) : M Unit :=
  fpuReg code do
    let free ← freeBits 80
    arithOp false 1#3 1 [0#3, 1#3] fun cw _ f => c cw free (f.reg 1#3) (f.reg 0#3)

/-- FPATAN (R687). -/
def fpatanOp : M Unit :=
  intoSt1 0x1F3#11 fun cw free y x => binaryCalc cw true free y x (rawAtan (rcOf cw) y x)

/-- FYL2X (R691). -/
def fyl2xOp : M Unit :=
  intoSt1 0x1F1#11 fun cw free y x => binaryCalc cw true free y x (rawYLog2 (rcOf cw) y x)

/-- FYL2XP1 (R692): outside its range the result is any value, and ST(1) is popped all the same. -/
def fyl2xp1Op : M Unit :=
  intoSt1 0x1F9#11 fun cw free y x => binaryCalc cw (inLogRange x) free y x (rawYLog2P1 (rcOf cw) y x)

/-! ## The trigonometric instructions -/

/-- C2. -/
def setC2 (b : Bool) : M Unit := modifyFpu fun f => { f with st := { f.st with c2 := b } }

/-- FSIN and FCOS (R686, R689). C2 tells whether the operand is out of range; on a stack underflow, which has no operand, it
is clear (DEDUCED, log 26). An infinity clears it whether #IA is masked or not (DESIGN CHOICE, log 59). With C2 = 1, C1 is
undefined for FCOS and clear for FSIN. A tiny result raises #U, as Table C-1 (R552) has it, though the page of FSIN lists
none (DESIGN CHOICE, log 59). -/
def trigOp (code : BitVec 11) (freeC1 : Bool) (raw : BitVec 2 → Ext → RawResult) : M Unit :=
  fpuReg code do
    undefC320
    let s ← get
    let x := s.fpu.reg 0#3
    setC2 (!s.fpu.isEmpty 0#3 && tooLarge x)
    if s.fpu.isEmpty 0#3 then stackFault false (modifyFpu fun f => f.setReg 0#3 indefinite)
    else if tooLarge x then
      let b ← freeBit
      setC1 (freeC1 && b)
    else commitReg 0#3 0 (arith s.fpu.cw 64 [regOperand x] (raw (rcOf s.fpu.cw) x))

/-- FPTAN and FSINCOS: the operation leaves one result in ST(0) and pushes another (R688, R690). C2 is as for FSIN and
FCOS. -/
def trigPair (code : BitVec 11) (pair : Word → Bool → Ext → Calc (Ext × Ext)) : M Unit :=
  fpuReg code do
    undefC320
    let bit ← freeBit
    let s ← get
    let x := s.fpu.reg 0#3
    let faulty := modifyFpu fun f => (f.setReg 0#3 indefinite).push indefinite
    setC2 (!s.fpu.isEmpty 0#3 && tooLarge x)
    if s.fpu.isEmpty 0#3 then stackFault false faulty
    else if tooLarge x then setC1 false
    else if !s.fpu.isEmpty 7#3 then stackFault true faulty
    else commitPair (pair s.fpu.cw bit x)

/-- FPTAN: tangent, then 1.0. For an infinity or a NaN the page does not say what is pushed: 1.0 or the NaN, by the free
bit (R688; log 41). -/
def tanPair (cw : Word) (bit : Bool) (x : Ext) : Calc (Ext × Ext) :=
  let c := arith cw 64 [regOperand x] (rawTan (rcOf cw) x)
  { c with val := c.val.map fun v => (v, if (isInf x || decides x) && bit then v else oneExt) }

/-- FSINCOS: sine, then cosine; C1 is that of one of the two roundings (R690; log 41). -/
def sinCosPair (cw : Word) (bit : Bool) (x : Ext) : Calc (Ext × Ext) :=
  let a := arith cw 64 [regOperand x] (rawSin .sincosSin (rcOf cw) x)
  let b := arith cw 64 [regOperand x] (rawCos .sincosCos (rcOf cw) x)
  { ie := a.ie, de := a.de, ze := false, oe := a.oe || b.oe, ue := a.ue || b.ue, pe := a.pe || b.pe,
    c1 := if bit then a.c1 else b.c1, usesPc := false,
    val :=
      match a.val, b.val with
      | some u, some v => some (u, v)
      | _, _ => none }

/-- F2XM1 : `D9 F0` (R685). -/
def execF2xm1 (s : State) : Out := runSeq f2xm1Op s

/-- FCOS : `D9 FF` (R686). -/
def execFcos (s : State) : Out := runSeq (trigOp 0x1FF#11 true (rawCos .fcos)) s

/-- FPATAN : `D9 F3` (R687). -/
def execFpatan (s : State) : Out := runSeq fpatanOp s

/-- FPTAN : `D9 F2` (R688). -/
def execFptan (s : State) : Out := runSeq (trigPair 0x1F2#11 tanPair) s

/-- FSIN : `D9 FE` (R689). -/
def execFsin (s : State) : Out := runSeq (trigOp 0x1FE#11 false (rawSin .fsin)) s

/-- FSINCOS : `D9 FB` (R690). -/
def execFsincos (s : State) : Out := runSeq (trigPair 0x1FB#11 sinCosPair) s

/-- FYL2X : `D9 F1` (R691). -/
def execFyl2x (s : State) : Out := runSeq fyl2xOp s

/-- FYL2XP1 : `D9 F9` (R692). -/
def execFyl2xp1 (s : State) : Out := runSeq fyl2xp1Op s

end Sys2Proof.Machine
end

