-- ==== Sys2Proof/Machine/Logic.lean ====
section
/-! DEFINITION. Logical, shift, rotate, bit and byte instructions (42_logical_shift_rotate_bit_byte.md R340 to R356). -/

namespace Sys2Proof.Machine

/-- The logical operations set the flags by LogicFlags (10_state.md R63); AF is undefined. -/
def aluLogic (w : Nat) (f : BitVec w → BitVec w → BitVec w) : Binary w := fun a b => do
  let af ← freeBit
  setFlags fun g => g.logic (f a b) af
  pure (f a b)

/-- AND (R340) and TEST (R355). -/
def aluAnd (w : Nat) : Binary w := aluLogic w fun a b => a &&& b
/-- OR (R349). -/
def aluOr (w : Nat) : Binary w := aluLogic w fun a b => a ||| b
/-- XOR (R356). -/
def aluXor (w : Nat) : Binary w := aluLogic w fun a b => a ^^^ b

/-- NOT (R348): no flag changes. -/
def notOp (w : Nat) (rm : RM) : M Unit := updateRM w rm fun d => pure (~~~d)

/-! ## Bit scan (R341, R342) -/

/-- The lowest set bit from `k` on, at most `n` bits further. -/
def scanUp {w : Nat} (v : BitVec w) (k : Nat) : Nat → Nat
  | 0 => k
  | n + 1 => if v.getLsbD k then k else scanUp v (k + 1) n

/-- The highest set bit below `n`. -/
def scanDown {w : Nat} (v : BitVec w) : Nat → Nat
  | 0 => 0
  | n + 1 => if v.getLsbD n then n else scanDown v n

/-- BSF and BSR: with a source of 0 the destination is undefined; ZF is defined, the other flags are not. -/
def scanOp (w : Nat) (find : BitVec w → Nat) (r : Reg) (rm : RM) : M Unit := do
  let src ← readRM w rm
  if src = 0#w then
    let v ← freeBits w
    setReg w r v
  else setReg w r (BitVec.ofNat w (find src))
  let u ← freeBits 6
  setFlags fun f => { f.setStatus u with zf := src == 0#w }

/-- BSF (R341). -/
def bsfOp (w : Nat) (r : Reg) (rm : RM) : M Unit := scanOp w (fun v => scanUp v 0 w) r rm

/-- BSR (R342). -/
def bsrOp (w : Nat) (r : Reg) (rm : RM) : M Unit := scanOp w (fun v => scanDown v w) r rm

/-! ## Bit strings (R343 to R347) -/

/-- The place of the OS/8 bytes that hold a bit of a bit string in memory: EA + OS/8 * (BitOffset DIV OS) (R343, D22). With
AS = 16 that sum is taken modulo 2^16, as the sum of an addressing form is: R190 and EA-WRAP name the latter alone (DESIGN
CHOICE, log 63). -/
def bitLoc (w : Nat) (l : Loc) (off : Int) : Loc :=
  { l with off := wrapOff l.wide (l.off + BitVec.ofInt 32 ((w / 8 : Nat) * (off / (w : Int)))) }

/-- CF takes the bit; OF, SF, ZF, AF and PF are undefined. -/
def bitFlags (b : Bool) : M Unit := do
  let u ← freeBits 6
  setFlags fun f => { f.setStatus u with cf := b }

/-- Bit `k` of a value replaced. -/
def putBit {w : Nat} (v : BitVec w) (k : Nat) (b : Bool) : BitVec w :=
  if b then v ||| (1#w <<< k) else v &&& ~~~(1#w <<< k)

/-- Test bit `k`, and write the value with the bit changed by `f`. -/
def bitChange (w : Nat) (f : Bool → Bool) (k : Nat) (v : BitVec w) : M (BitVec w) := do
  bitFlags (v.getLsbD k)
  pure (putBit v k (f (v.getLsbD k)))

/-- BT (R344): the bit at a signed offset. -/
def btOp (w : Nat) (rm : RM) (off : Int) : M Unit := do
  let k := (off % (w : Int)).toNat
  match rm with
  | .reg r => do
    let v ← getReg w r
    bitFlags (v.getLsbD k)
  | .mem e => do
    let s ← get
    let v ← readLoc w (bitLoc w (s.eaLoc e) off)
    bitFlags (v.getLsbD k)

/-- BTC, BTR and BTS (R345 to R347). -/
def bitModify (w : Nat) (f : Bool → Bool) (rm : RM) (off : Int) : M Unit := do
  let k := (off % (w : Int)).toNat
  match rm with
  | .reg r => do
    let v ← getReg w r
    let v' ← bitChange w f k v
    setReg w r v'
  | .mem e => do
    let s ← get
    updateLoc w (bitLoc w (s.eaLoc e) off) (bitChange w f k)

/-- A register bit offset is signed (R343). -/
def regOffset (w : Nat) (r : Reg) (f : Int → M Unit) : M Unit := do
  let v ← getReg w r
  f v.toInt

/-- An immediate bit offset is taken modulo the operand size (R343). -/
def immOffset (w : Nat) (imm : Byte) : Int := (imm.toNat % w : Nat)

/-! ## Rotates (R350) -/

/-- A rotate: count (1 to 31), value and CF in, value and CF out. -/
abbrev Rotate (w : Nat) := Nat → BitVec w → Bool → BitVec w × Bool

/-- ROL. -/
def rolFn (w : Nat) : Rotate w := fun c d _ =>
  let r := d.rotateLeft (c % w)
  (r, r.getLsbD 0)

/-- ROR. -/
def rorFn (w : Nat) : Rotate w := fun c d _ =>
  let r := d.rotateRight (c % w)
  (r, r.msb)

/-- RCL: CF and the value rotate as one value of one bit more. -/
def rclFn (w : Nat) : Rotate w := fun c d cf =>
  let x := (BitVec.ofBool cf ++ d).rotateLeft (c % (w + 1))
  (x.setWidth w, x.msb)

/-- RCR. -/
def rcrFn (w : Nat) : Rotate w := fun c d cf =>
  let x := (BitVec.ofBool cf ++ d).rotateRight (c % (w + 1))
  (x.setWidth w, x.msb)

/-- OF after a rotate left by 1. -/
def ofLeft {w : Nat} (r : BitVec w) (cf : Bool) : Bool := r.msb ^^ cf

/-- OF after a rotate right by 1: the two top bits. -/
def ofRight {w : Nat} (r : BitVec w) (_ : Bool) : Bool := r.msb ^^ r.getLsbD (w - 2)

/-- Rotate an r/m operand: the count is masked to five bits, 0 changes nothing, OF is undefined unless it is 1. -/
def rotateOp (w : Nat) (f : Rotate w) (ofOne : BitVec w → Bool → Bool) (rm : RM) (count : Byte) : M Unit :=
  updateRM w rm fun d => do
    let c := count.toNat % 32
    if c = 0 then pure d
    else
      let s ← get
      let (r, cf) := f c d s.flags.cf
      let u ← freeBit
      setFlags fun g => { g with cf := cf, ofl := if c = 1 then ofOne r cf else u }
      pure r

/-! ## Shifts (R351) -/

/-- A shift: count and value in; value, CF and OF after a shift by 1 out. CF is `none` where it is undefined. -/
abbrev Shift (w : Nat) := Nat → BitVec w → BitVec w × Option Bool × Bool

/-- SAL and SHL: CF is the last bit shifted out, bit 0 of the operand for a count of the size (D48), and undefined above. -/
def shlFn (w : Nat) : Shift w := fun c d =>
  (d <<< c, if c ≤ w then some (d.getLsbD (w - c)) else none, (d <<< c).msb ^^ d.msb)

/-- SHR: CF likewise, the top bit for a count of the size (D48). -/
def shrFn (w : Nat) : Shift w := fun c d =>
  (d >>> c, if c ≤ w then some (d.getLsbD (c - 1)) else none, d.msb)

/-- SAR: with a count of the size or more, all sign bits. -/
def sarFn (w : Nat) : Shift w := fun c d =>
  (d.sshiftRight c, some (if c ≤ w then d.getLsbD (c - 1) else d.msb), false)

/-- SF, ZF and PF from the result; CF and OF given; AF undefined. -/
def shiftFlags {w : Nat} (r : BitVec w) (cf : Option Bool) (ofl : Option Bool) : M Unit := do
  let u ← freeBits 6
  setFlags fun f => { (f.setStatus u).szp r with cf := cf.getD (u.getLsbD 0), ofl := ofl.getD (u.getLsbD 5) }

/-- Shift an r/m operand: the count is masked to five bits, 0 writes the operand back as it is (DESIGN CHOICE, log 51), OF is
undefined unless it is 1. -/
def shiftOp (w : Nat) (f : Shift w) (rm : RM) (count : Byte) : M Unit :=
  updateRM w rm fun d => do
    let c := count.toNat % 32
    if c = 0 then pure d
    else
      let (r, cf, o) := f c d
      shiftFlags r cf (if c = 1 then some o else none)
      pure r

/-! ## Double shifts (R353, R354) -/

/-- A double shift: destination, source and count in; result and CF out. -/
abbrev DoubleShift (w : Nat) := BitVec w → BitVec w → Nat → BitVec w × Bool

/-- SHLD (R353). -/
def shldFn (w : Nat) : DoubleShift w := fun d s c => ((d <<< c) ||| (s >>> (w - c)), d.getLsbD (w - c))

/-- SHRD (R354). -/
def shrdFn (w : Nat) : DoubleShift w := fun d s c => ((d >>> c) ||| (s <<< (w - c)), d.getLsbD (c - 1))

/-- SHLD and SHRD: a masked count of the size or more leaves the destination and the flags undefined, 0 writes the operand
back as it is (DESIGN CHOICE, log 51). -/
def doubleShiftOp (w : Nat) (f : DoubleShift w) (rm : RM) (r : Reg) (count : Byte) : M Unit := do
  let src ← getReg w r
  updateRM w rm fun d => do
    let c := count.toNat % 32
    if c = 0 then pure d
    else if w ≤ c then
      undefStatus
      freeBits w
    else
      let (v, cf) := f d src c
      shiftFlags v (some cf) (if c = 1 then some (v.msb != d.msb) else none)
      pure v

/-- Run an operation with the count in CL. -/
def withCl (f : Byte → M Unit) : M Unit := do
  let c ← getReg 8 rC
  f c

/-- SETcc (R352). -/
def setccOp (cc : BitVec 4) (rm : RM) : M Unit := do
  let s ← get
  writeRM 8 rm (if s.flags.cond cc then 1#8 else 0#8)

/-- AND AL,imm8 : `24 ib` (R340). -/
def execAndAlImm8 (imm : BitVec 8) (s : State) : Out := runSeq (opRmImm 8 (aluAnd 8) (.reg rA) imm) s

/-- AND AX,imm16 : `25 iw` with OS=16 (R340). -/
def execAndAxImm16 (imm : BitVec 16) (s : State) : Out := runSeq (opRmImm 16 (aluAnd 16) (.reg rA) imm) s

/-- AND EAX,imm32 : `25 id` with OS=32 (R340). -/
def execAndEaxImm32 (imm : BitVec 32) (s : State) : Out := runSeq (opRmImm 32 (aluAnd 32) (.reg rA) imm) s

/-- AND r/m8,imm8 : `80 /4 ib` (R340). -/
def execAndRm8Imm8 (rm : RM) (imm : BitVec 8) (s : State) : Out := runSeq (opRmImm 8 (aluAnd 8) rm imm) s

/-- AND r/m16,imm16 : `81 /4 iw` with OS=16 (R340). -/
def execAndRm16Imm16 (rm : RM) (imm : BitVec 16) (s : State) : Out := runSeq (opRmImm 16 (aluAnd 16) rm imm) s

/-- AND r/m32,imm32 : `81 /4 id` with OS=32 (R340). -/
def execAndRm32Imm32 (rm : RM) (imm : BitVec 32) (s : State) : Out := runSeq (opRmImm 32 (aluAnd 32) rm imm) s

/-- AND r/m16,imm8 : `83 /4 ib` with OS=16 (R340). -/
def execAndRm16Imm8 (rm : RM) (imm : BitVec 8) (s : State) : Out :=
  runSeq (opRmImm 16 (aluAnd 16) rm (imm.signExtend 16)) s

/-- AND r/m32,imm8 : `83 /4 ib` with OS=32 (R340). -/
def execAndRm32Imm8 (rm : RM) (imm : BitVec 8) (s : State) : Out :=
  runSeq (opRmImm 32 (aluAnd 32) rm (imm.signExtend 32)) s

/-- AND r/m8,r8 : `20 /r` (R340). -/
def execAndRm8R8 (rm : RM) (r : Reg) (s : State) : Out := runSeq (opRmReg 8 (aluAnd 8) rm r) s

/-- AND r/m16,r16 : `21 /r` with OS=16 (R340). -/
def execAndRm16R16 (rm : RM) (r : Reg) (s : State) : Out := runSeq (opRmReg 16 (aluAnd 16) rm r) s

/-- AND r/m32,r32 : `21 /r` with OS=32 (R340). -/
def execAndRm32R32 (rm : RM) (r : Reg) (s : State) : Out := runSeq (opRmReg 32 (aluAnd 32) rm r) s

/-- AND r8,r/m8 : `22 /r` (R340). -/
def execAndR8Rm8 (r : Reg) (rm : RM) (s : State) : Out := runSeq (opRegRm 8 (aluAnd 8) r rm) s

/-- AND r16,r/m16 : `23 /r` with OS=16 (R340). -/
def execAndR16Rm16 (r : Reg) (rm : RM) (s : State) : Out := runSeq (opRegRm 16 (aluAnd 16) r rm) s

/-- AND r32,r/m32 : `23 /r` with OS=32 (R340). -/
def execAndR32Rm32 (r : Reg) (rm : RM) (s : State) : Out := runSeq (opRegRm 32 (aluAnd 32) r rm) s

/-- BSF r16,r/m16 : `0F BC /r` with OS=16 (R341). -/
def execBsfR16Rm16 (r : Reg) (rm : RM) (s : State) : Out := runSeq (bsfOp 16 r rm) s

/-- BSF r32,r/m32 : `0F BC /r` with OS=32 (R341). -/
def execBsfR32Rm32 (r : Reg) (rm : RM) (s : State) : Out := runSeq (bsfOp 32 r rm) s

/-- BSR r16,r/m16 : `0F BD /r` with OS=16 (R342). -/
def execBsrR16Rm16 (r : Reg) (rm : RM) (s : State) : Out := runSeq (bsrOp 16 r rm) s

/-- BSR r32,r/m32 : `0F BD /r` with OS=32 (R342). -/
def execBsrR32Rm32 (r : Reg) (rm : RM) (s : State) : Out := runSeq (bsrOp 32 r rm) s

/-- BT r/m16,r16 : `0F A3 /r` with OS=16 (R344). -/
def execBtRm16R16 (rm : RM) (r : Reg) (s : State) : Out := runSeq (regOffset 16 r (btOp 16 rm)) s

/-- BT r/m32,r32 : `0F A3 /r` with OS=32 (R344). -/
def execBtRm32R32 (rm : RM) (r : Reg) (s : State) : Out := runSeq (regOffset 32 r (btOp 32 rm)) s

/-- BT r/m16,imm8 : `0F BA /4 ib` with OS=16 (R344). -/
def execBtRm16Imm8 (rm : RM) (imm : BitVec 8) (s : State) : Out := runSeq (btOp 16 rm (immOffset 16 imm)) s

/-- BT r/m32,imm8 : `0F BA /4 ib` with OS=32 (R344). -/
def execBtRm32Imm8 (rm : RM) (imm : BitVec 8) (s : State) : Out := runSeq (btOp 32 rm (immOffset 32 imm)) s

/-- BTC r/m16,r16 : `0F BB /r` with OS=16 (R345). -/
def execBtcRm16R16 (rm : RM) (r : Reg) (s : State) : Out := runSeq (regOffset 16 r (bitModify 16 (fun b => !b) rm)) s

/-- BTC r/m32,r32 : `0F BB /r` with OS=32 (R345). -/
def execBtcRm32R32 (rm : RM) (r : Reg) (s : State) : Out := runSeq (regOffset 32 r (bitModify 32 (fun b => !b) rm)) s

/-- BTC r/m16,imm8 : `0F BA /7 ib` with OS=16 (R345). -/
def execBtcRm16Imm8 (rm : RM) (imm : BitVec 8) (s : State) : Out :=
  runSeq (bitModify 16 (fun b => !b) rm (immOffset 16 imm)) s

/-- BTC r/m32,imm8 : `0F BA /7 ib` with OS=32 (R345). -/
def execBtcRm32Imm8 (rm : RM) (imm : BitVec 8) (s : State) : Out :=
  runSeq (bitModify 32 (fun b => !b) rm (immOffset 32 imm)) s

/-- BTR r/m16,r16 : `0F B3 /r` with OS=16 (R346). -/
def execBtrRm16R16 (rm : RM) (r : Reg) (s : State) : Out :=
  runSeq (regOffset 16 r (bitModify 16 (fun _ => false) rm)) s

/-- BTR r/m32,r32 : `0F B3 /r` with OS=32 (R346). -/
def execBtrRm32R32 (rm : RM) (r : Reg) (s : State) : Out :=
  runSeq (regOffset 32 r (bitModify 32 (fun _ => false) rm)) s

/-- BTR r/m16,imm8 : `0F BA /6 ib` with OS=16 (R346). -/
def execBtrRm16Imm8 (rm : RM) (imm : BitVec 8) (s : State) : Out :=
  runSeq (bitModify 16 (fun _ => false) rm (immOffset 16 imm)) s

/-- BTR r/m32,imm8 : `0F BA /6 ib` with OS=32 (R346). -/
def execBtrRm32Imm8 (rm : RM) (imm : BitVec 8) (s : State) : Out :=
  runSeq (bitModify 32 (fun _ => false) rm (immOffset 32 imm)) s

/-- BTS r/m16,r16 : `0F AB /r` with OS=16 (R347). -/
def execBtsRm16R16 (rm : RM) (r : Reg) (s : State) : Out :=
  runSeq (regOffset 16 r (bitModify 16 (fun _ => true) rm)) s

/-- BTS r/m32,r32 : `0F AB /r` with OS=32 (R347). -/
def execBtsRm32R32 (rm : RM) (r : Reg) (s : State) : Out :=
  runSeq (regOffset 32 r (bitModify 32 (fun _ => true) rm)) s

/-- BTS r/m16,imm8 : `0F BA /5 ib` with OS=16 (R347). -/
def execBtsRm16Imm8 (rm : RM) (imm : BitVec 8) (s : State) : Out :=
  runSeq (bitModify 16 (fun _ => true) rm (immOffset 16 imm)) s

/-- BTS r/m32,imm8 : `0F BA /5 ib` with OS=32 (R347). -/
def execBtsRm32Imm8 (rm : RM) (imm : BitVec 8) (s : State) : Out :=
  runSeq (bitModify 32 (fun _ => true) rm (immOffset 32 imm)) s

/-- NOT r/m8 : `F6 /2` (R348). -/
def execNotRm8 (rm : RM) (s : State) : Out := runSeq (notOp 8 rm) s

/-- NOT r/m16 : `F7 /2` with OS=16 (R348). -/
def execNotRm16 (rm : RM) (s : State) : Out := runSeq (notOp 16 rm) s

/-- NOT r/m32 : `F7 /2` with OS=32 (R348). -/
def execNotRm32 (rm : RM) (s : State) : Out := runSeq (notOp 32 rm) s

/-- OR AL,imm8 : `0C ib` (R349). -/
def execOrAlImm8 (imm : BitVec 8) (s : State) : Out := runSeq (opRmImm 8 (aluOr 8) (.reg rA) imm) s

/-- OR AX,imm16 : `0D iw` with OS=16 (R349). -/
def execOrAxImm16 (imm : BitVec 16) (s : State) : Out := runSeq (opRmImm 16 (aluOr 16) (.reg rA) imm) s

/-- OR EAX,imm32 : `0D id` with OS=32 (R349). -/
def execOrEaxImm32 (imm : BitVec 32) (s : State) : Out := runSeq (opRmImm 32 (aluOr 32) (.reg rA) imm) s

/-- OR r/m8,imm8 : `80 /1 ib` (R349). -/
def execOrRm8Imm8 (rm : RM) (imm : BitVec 8) (s : State) : Out := runSeq (opRmImm 8 (aluOr 8) rm imm) s

/-- OR r/m16,imm16 : `81 /1 iw` with OS=16 (R349). -/
def execOrRm16Imm16 (rm : RM) (imm : BitVec 16) (s : State) : Out := runSeq (opRmImm 16 (aluOr 16) rm imm) s

/-- OR r/m32,imm32 : `81 /1 id` with OS=32 (R349). -/
def execOrRm32Imm32 (rm : RM) (imm : BitVec 32) (s : State) : Out := runSeq (opRmImm 32 (aluOr 32) rm imm) s

/-- OR r/m16,imm8 : `83 /1 ib` with OS=16 (R349). -/
def execOrRm16Imm8 (rm : RM) (imm : BitVec 8) (s : State) : Out :=
  runSeq (opRmImm 16 (aluOr 16) rm (imm.signExtend 16)) s

/-- OR r/m32,imm8 : `83 /1 ib` with OS=32 (R349). -/
def execOrRm32Imm8 (rm : RM) (imm : BitVec 8) (s : State) : Out :=
  runSeq (opRmImm 32 (aluOr 32) rm (imm.signExtend 32)) s

/-- OR r/m8,r8 : `08 /r` (R349). -/
def execOrRm8R8 (rm : RM) (r : Reg) (s : State) : Out := runSeq (opRmReg 8 (aluOr 8) rm r) s

/-- OR r/m16,r16 : `09 /r` with OS=16 (R349). -/
def execOrRm16R16 (rm : RM) (r : Reg) (s : State) : Out := runSeq (opRmReg 16 (aluOr 16) rm r) s

/-- OR r/m32,r32 : `09 /r` with OS=32 (R349). -/
def execOrRm32R32 (rm : RM) (r : Reg) (s : State) : Out := runSeq (opRmReg 32 (aluOr 32) rm r) s

/-- OR r8,r/m8 : `0A /r` (R349). -/
def execOrR8Rm8 (r : Reg) (rm : RM) (s : State) : Out := runSeq (opRegRm 8 (aluOr 8) r rm) s

/-- OR r16,r/m16 : `0B /r` with OS=16 (R349). -/
def execOrR16Rm16 (r : Reg) (rm : RM) (s : State) : Out := runSeq (opRegRm 16 (aluOr 16) r rm) s

/-- OR r32,r/m32 : `0B /r` with OS=32 (R349). -/
def execOrR32Rm32 (r : Reg) (rm : RM) (s : State) : Out := runSeq (opRegRm 32 (aluOr 32) r rm) s

/-- ROL r/m8,1 : `D0 /0` (R350). -/
def execRolRm8One (rm : RM) (s : State) : Out := runSeq (rotateOp 8 (rolFn 8) ofLeft rm 1#8) s

/-- ROL r/m8,CL : `D2 /0` (R350). -/
def execRolRm8Cl (rm : RM) (s : State) : Out := runSeq (withCl (rotateOp 8 (rolFn 8) ofLeft rm)) s

/-- ROL r/m8,imm8 : `C0 /0 ib` (R350). -/
def execRolRm8Imm8 (rm : RM) (imm : BitVec 8) (s : State) : Out := runSeq (rotateOp 8 (rolFn 8) ofLeft rm imm) s

/-- ROL r/m16,1 : `D1 /0` with OS=16 (R350). -/
def execRolRm16One (rm : RM) (s : State) : Out := runSeq (rotateOp 16 (rolFn 16) ofLeft rm 1#8) s

/-- ROL r/m32,1 : `D1 /0` with OS=32 (R350). -/
def execRolRm32One (rm : RM) (s : State) : Out := runSeq (rotateOp 32 (rolFn 32) ofLeft rm 1#8) s

/-- ROL r/m16,CL : `D3 /0` with OS=16 (R350). -/
def execRolRm16Cl (rm : RM) (s : State) : Out := runSeq (withCl (rotateOp 16 (rolFn 16) ofLeft rm)) s

/-- ROL r/m32,CL : `D3 /0` with OS=32 (R350). -/
def execRolRm32Cl (rm : RM) (s : State) : Out := runSeq (withCl (rotateOp 32 (rolFn 32) ofLeft rm)) s

/-- ROL r/m16,imm8 : `C1 /0 ib` with OS=16 (R350). -/
def execRolRm16Imm8 (rm : RM) (imm : BitVec 8) (s : State) : Out := runSeq (rotateOp 16 (rolFn 16) ofLeft rm imm) s

/-- ROL r/m32,imm8 : `C1 /0 ib` with OS=32 (R350). -/
def execRolRm32Imm8 (rm : RM) (imm : BitVec 8) (s : State) : Out := runSeq (rotateOp 32 (rolFn 32) ofLeft rm imm) s

/-- ROR r/m8,1 : `D0 /1` (R350). -/
def execRorRm8One (rm : RM) (s : State) : Out := runSeq (rotateOp 8 (rorFn 8) ofRight rm 1#8) s

/-- ROR r/m8,CL : `D2 /1` (R350). -/
def execRorRm8Cl (rm : RM) (s : State) : Out := runSeq (withCl (rotateOp 8 (rorFn 8) ofRight rm)) s

/-- ROR r/m8,imm8 : `C0 /1 ib` (R350). -/
def execRorRm8Imm8 (rm : RM) (imm : BitVec 8) (s : State) : Out := runSeq (rotateOp 8 (rorFn 8) ofRight rm imm) s

/-- ROR r/m16,1 : `D1 /1` with OS=16 (R350). -/
def execRorRm16One (rm : RM) (s : State) : Out := runSeq (rotateOp 16 (rorFn 16) ofRight rm 1#8) s

/-- ROR r/m32,1 : `D1 /1` with OS=32 (R350). -/
def execRorRm32One (rm : RM) (s : State) : Out := runSeq (rotateOp 32 (rorFn 32) ofRight rm 1#8) s

/-- ROR r/m16,CL : `D3 /1` with OS=16 (R350). -/
def execRorRm16Cl (rm : RM) (s : State) : Out := runSeq (withCl (rotateOp 16 (rorFn 16) ofRight rm)) s

/-- ROR r/m32,CL : `D3 /1` with OS=32 (R350). -/
def execRorRm32Cl (rm : RM) (s : State) : Out := runSeq (withCl (rotateOp 32 (rorFn 32) ofRight rm)) s

/-- ROR r/m16,imm8 : `C1 /1 ib` with OS=16 (R350). -/
def execRorRm16Imm8 (rm : RM) (imm : BitVec 8) (s : State) : Out := runSeq (rotateOp 16 (rorFn 16) ofRight rm imm) s

/-- ROR r/m32,imm8 : `C1 /1 ib` with OS=32 (R350). -/
def execRorRm32Imm8 (rm : RM) (imm : BitVec 8) (s : State) : Out := runSeq (rotateOp 32 (rorFn 32) ofRight rm imm) s

/-- RCL r/m8,1 : `D0 /2` (R350). -/
def execRclRm8One (rm : RM) (s : State) : Out := runSeq (rotateOp 8 (rclFn 8) ofLeft rm 1#8) s

/-- RCL r/m8,CL : `D2 /2` (R350). -/
def execRclRm8Cl (rm : RM) (s : State) : Out := runSeq (withCl (rotateOp 8 (rclFn 8) ofLeft rm)) s

/-- RCL r/m8,imm8 : `C0 /2 ib` (R350). -/
def execRclRm8Imm8 (rm : RM) (imm : BitVec 8) (s : State) : Out := runSeq (rotateOp 8 (rclFn 8) ofLeft rm imm) s

/-- RCL r/m16,1 : `D1 /2` with OS=16 (R350). -/
def execRclRm16One (rm : RM) (s : State) : Out := runSeq (rotateOp 16 (rclFn 16) ofLeft rm 1#8) s

/-- RCL r/m32,1 : `D1 /2` with OS=32 (R350). -/
def execRclRm32One (rm : RM) (s : State) : Out := runSeq (rotateOp 32 (rclFn 32) ofLeft rm 1#8) s

/-- RCL r/m16,CL : `D3 /2` with OS=16 (R350). -/
def execRclRm16Cl (rm : RM) (s : State) : Out := runSeq (withCl (rotateOp 16 (rclFn 16) ofLeft rm)) s

/-- RCL r/m32,CL : `D3 /2` with OS=32 (R350). -/
def execRclRm32Cl (rm : RM) (s : State) : Out := runSeq (withCl (rotateOp 32 (rclFn 32) ofLeft rm)) s

/-- RCL r/m16,imm8 : `C1 /2 ib` with OS=16 (R350). -/
def execRclRm16Imm8 (rm : RM) (imm : BitVec 8) (s : State) : Out := runSeq (rotateOp 16 (rclFn 16) ofLeft rm imm) s

/-- RCL r/m32,imm8 : `C1 /2 ib` with OS=32 (R350). -/
def execRclRm32Imm8 (rm : RM) (imm : BitVec 8) (s : State) : Out := runSeq (rotateOp 32 (rclFn 32) ofLeft rm imm) s

/-- RCR r/m8,1 : `D0 /3` (R350). -/
def execRcrRm8One (rm : RM) (s : State) : Out := runSeq (rotateOp 8 (rcrFn 8) ofRight rm 1#8) s

/-- RCR r/m8,CL : `D2 /3` (R350). -/
def execRcrRm8Cl (rm : RM) (s : State) : Out := runSeq (withCl (rotateOp 8 (rcrFn 8) ofRight rm)) s

/-- RCR r/m8,imm8 : `C0 /3 ib` (R350). -/
def execRcrRm8Imm8 (rm : RM) (imm : BitVec 8) (s : State) : Out := runSeq (rotateOp 8 (rcrFn 8) ofRight rm imm) s

/-- RCR r/m16,1 : `D1 /3` with OS=16 (R350). -/
def execRcrRm16One (rm : RM) (s : State) : Out := runSeq (rotateOp 16 (rcrFn 16) ofRight rm 1#8) s

/-- RCR r/m32,1 : `D1 /3` with OS=32 (R350). -/
def execRcrRm32One (rm : RM) (s : State) : Out := runSeq (rotateOp 32 (rcrFn 32) ofRight rm 1#8) s

/-- RCR r/m16,CL : `D3 /3` with OS=16 (R350). -/
def execRcrRm16Cl (rm : RM) (s : State) : Out := runSeq (withCl (rotateOp 16 (rcrFn 16) ofRight rm)) s

/-- RCR r/m32,CL : `D3 /3` with OS=32 (R350). -/
def execRcrRm32Cl (rm : RM) (s : State) : Out := runSeq (withCl (rotateOp 32 (rcrFn 32) ofRight rm)) s

/-- RCR r/m16,imm8 : `C1 /3 ib` with OS=16 (R350). -/
def execRcrRm16Imm8 (rm : RM) (imm : BitVec 8) (s : State) : Out := runSeq (rotateOp 16 (rcrFn 16) ofRight rm imm) s

/-- RCR r/m32,imm8 : `C1 /3 ib` with OS=32 (R350). -/
def execRcrRm32Imm8 (rm : RM) (imm : BitVec 8) (s : State) : Out := runSeq (rotateOp 32 (rcrFn 32) ofRight rm imm) s

/-- SAL r/m8,1 : `D0 /4` (R351). -/
def execSalRm8One (rm : RM) (s : State) : Out := runSeq (shiftOp 8 (shlFn 8) rm 1#8) s

/-- SAL r/m8,CL : `D2 /4` (R351). -/
def execSalRm8Cl (rm : RM) (s : State) : Out := runSeq (withCl (shiftOp 8 (shlFn 8) rm)) s

/-- SAL r/m8,imm8 : `C0 /4 ib` (R351). -/
def execSalRm8Imm8 (rm : RM) (imm : BitVec 8) (s : State) : Out := runSeq (shiftOp 8 (shlFn 8) rm imm) s

/-- SAL r/m16,1 : `D1 /4` with OS=16 (R351). -/
def execSalRm16One (rm : RM) (s : State) : Out := runSeq (shiftOp 16 (shlFn 16) rm 1#8) s

/-- SAL r/m32,1 : `D1 /4` with OS=32 (R351). -/
def execSalRm32One (rm : RM) (s : State) : Out := runSeq (shiftOp 32 (shlFn 32) rm 1#8) s

/-- SAL r/m16,CL : `D3 /4` with OS=16 (R351). -/
def execSalRm16Cl (rm : RM) (s : State) : Out := runSeq (withCl (shiftOp 16 (shlFn 16) rm)) s

/-- SAL r/m32,CL : `D3 /4` with OS=32 (R351). -/
def execSalRm32Cl (rm : RM) (s : State) : Out := runSeq (withCl (shiftOp 32 (shlFn 32) rm)) s

/-- SAL r/m16,imm8 : `C1 /4 ib` with OS=16 (R351). -/
def execSalRm16Imm8 (rm : RM) (imm : BitVec 8) (s : State) : Out := runSeq (shiftOp 16 (shlFn 16) rm imm) s

/-- SAL r/m32,imm8 : `C1 /4 ib` with OS=32 (R351). -/
def execSalRm32Imm8 (rm : RM) (imm : BitVec 8) (s : State) : Out := runSeq (shiftOp 32 (shlFn 32) rm imm) s

/-- SHR r/m8,1 : `D0 /5` (R351). -/
def execShrRm8One (rm : RM) (s : State) : Out := runSeq (shiftOp 8 (shrFn 8) rm 1#8) s

/-- SHR r/m8,CL : `D2 /5` (R351). -/
def execShrRm8Cl (rm : RM) (s : State) : Out := runSeq (withCl (shiftOp 8 (shrFn 8) rm)) s

/-- SHR r/m8,imm8 : `C0 /5 ib` (R351). -/
def execShrRm8Imm8 (rm : RM) (imm : BitVec 8) (s : State) : Out := runSeq (shiftOp 8 (shrFn 8) rm imm) s

/-- SHR r/m16,1 : `D1 /5` with OS=16 (R351). -/
def execShrRm16One (rm : RM) (s : State) : Out := runSeq (shiftOp 16 (shrFn 16) rm 1#8) s

/-- SHR r/m32,1 : `D1 /5` with OS=32 (R351). -/
def execShrRm32One (rm : RM) (s : State) : Out := runSeq (shiftOp 32 (shrFn 32) rm 1#8) s

/-- SHR r/m16,CL : `D3 /5` with OS=16 (R351). -/
def execShrRm16Cl (rm : RM) (s : State) : Out := runSeq (withCl (shiftOp 16 (shrFn 16) rm)) s

/-- SHR r/m32,CL : `D3 /5` with OS=32 (R351). -/
def execShrRm32Cl (rm : RM) (s : State) : Out := runSeq (withCl (shiftOp 32 (shrFn 32) rm)) s

/-- SHR r/m16,imm8 : `C1 /5 ib` with OS=16 (R351). -/
def execShrRm16Imm8 (rm : RM) (imm : BitVec 8) (s : State) : Out := runSeq (shiftOp 16 (shrFn 16) rm imm) s

/-- SHR r/m32,imm8 : `C1 /5 ib` with OS=32 (R351). -/
def execShrRm32Imm8 (rm : RM) (imm : BitVec 8) (s : State) : Out := runSeq (shiftOp 32 (shrFn 32) rm imm) s

/-- SAR r/m8,1 : `D0 /7` (R351). -/
def execSarRm8One (rm : RM) (s : State) : Out := runSeq (shiftOp 8 (sarFn 8) rm 1#8) s

/-- SAR r/m8,CL : `D2 /7` (R351). -/
def execSarRm8Cl (rm : RM) (s : State) : Out := runSeq (withCl (shiftOp 8 (sarFn 8) rm)) s

/-- SAR r/m8,imm8 : `C0 /7 ib` (R351). -/
def execSarRm8Imm8 (rm : RM) (imm : BitVec 8) (s : State) : Out := runSeq (shiftOp 8 (sarFn 8) rm imm) s

/-- SAR r/m16,1 : `D1 /7` with OS=16 (R351). -/
def execSarRm16One (rm : RM) (s : State) : Out := runSeq (shiftOp 16 (sarFn 16) rm 1#8) s

/-- SAR r/m32,1 : `D1 /7` with OS=32 (R351). -/
def execSarRm32One (rm : RM) (s : State) : Out := runSeq (shiftOp 32 (sarFn 32) rm 1#8) s

/-- SAR r/m16,CL : `D3 /7` with OS=16 (R351). -/
def execSarRm16Cl (rm : RM) (s : State) : Out := runSeq (withCl (shiftOp 16 (sarFn 16) rm)) s

/-- SAR r/m32,CL : `D3 /7` with OS=32 (R351). -/
def execSarRm32Cl (rm : RM) (s : State) : Out := runSeq (withCl (shiftOp 32 (sarFn 32) rm)) s

/-- SAR r/m16,imm8 : `C1 /7 ib` with OS=16 (R351). -/
def execSarRm16Imm8 (rm : RM) (imm : BitVec 8) (s : State) : Out := runSeq (shiftOp 16 (sarFn 16) rm imm) s

/-- SAR r/m32,imm8 : `C1 /7 ib` with OS=32 (R351). -/
def execSarRm32Imm8 (rm : RM) (imm : BitVec 8) (s : State) : Out := runSeq (shiftOp 32 (sarFn 32) rm imm) s

/-- SETO r/m8 : `0F 90 /r` (R352). -/
def execSetoRm8 (rm : RM) (s : State) : Out := runSeq (setccOp 0#4 rm) s

/-- SETNO r/m8 : `0F 91 /r` (R352). -/
def execSetnoRm8 (rm : RM) (s : State) : Out := runSeq (setccOp 1#4 rm) s

/-- SETB r/m8 : `0F 92 /r` (R352). -/
def execSetbRm8 (rm : RM) (s : State) : Out := runSeq (setccOp 2#4 rm) s

/-- SETAE r/m8 : `0F 93 /r` (R352). -/
def execSetaeRm8 (rm : RM) (s : State) : Out := runSeq (setccOp 3#4 rm) s

/-- SETE r/m8 : `0F 94 /r` (R352). -/
def execSeteRm8 (rm : RM) (s : State) : Out := runSeq (setccOp 4#4 rm) s

/-- SETNE r/m8 : `0F 95 /r` (R352). -/
def execSetneRm8 (rm : RM) (s : State) : Out := runSeq (setccOp 5#4 rm) s

/-- SETBE r/m8 : `0F 96 /r` (R352). -/
def execSetbeRm8 (rm : RM) (s : State) : Out := runSeq (setccOp 6#4 rm) s

/-- SETA r/m8 : `0F 97 /r` (R352). -/
def execSetaRm8 (rm : RM) (s : State) : Out := runSeq (setccOp 7#4 rm) s

/-- SETS r/m8 : `0F 98 /r` (R352). -/
def execSetsRm8 (rm : RM) (s : State) : Out := runSeq (setccOp 8#4 rm) s

/-- SETNS r/m8 : `0F 99 /r` (R352). -/
def execSetnsRm8 (rm : RM) (s : State) : Out := runSeq (setccOp 9#4 rm) s

/-- SETP r/m8 : `0F 9A /r` (R352). -/
def execSetpRm8 (rm : RM) (s : State) : Out := runSeq (setccOp 10#4 rm) s

/-- SETNP r/m8 : `0F 9B /r` (R352). -/
def execSetnpRm8 (rm : RM) (s : State) : Out := runSeq (setccOp 11#4 rm) s

/-- SETL r/m8 : `0F 9C /r` (R352). -/
def execSetlRm8 (rm : RM) (s : State) : Out := runSeq (setccOp 12#4 rm) s

/-- SETGE r/m8 : `0F 9D /r` (R352). -/
def execSetgeRm8 (rm : RM) (s : State) : Out := runSeq (setccOp 13#4 rm) s

/-- SETLE r/m8 : `0F 9E /r` (R352). -/
def execSetleRm8 (rm : RM) (s : State) : Out := runSeq (setccOp 14#4 rm) s

/-- SETG r/m8 : `0F 9F /r` (R352). -/
def execSetgRm8 (rm : RM) (s : State) : Out := runSeq (setccOp 15#4 rm) s

/-- SHLD r/m16,r16,imm8 : `0F A4 /r ib` with OS=16 (R353). -/
def execShldRm16R16Imm8 (rm : RM) (r : Reg) (imm : BitVec 8) (s : State) : Out :=
  runSeq (doubleShiftOp 16 (shldFn 16) rm r imm) s

/-- SHLD r/m32,r32,imm8 : `0F A4 /r ib` with OS=32 (R353). -/
def execShldRm32R32Imm8 (rm : RM) (r : Reg) (imm : BitVec 8) (s : State) : Out :=
  runSeq (doubleShiftOp 32 (shldFn 32) rm r imm) s

/-- SHLD r/m16,r16,CL : `0F A5 /r` with OS=16 (R353). -/
def execShldRm16R16Cl (rm : RM) (r : Reg) (s : State) : Out := runSeq (withCl (doubleShiftOp 16 (shldFn 16) rm r)) s

/-- SHLD r/m32,r32,CL : `0F A5 /r` with OS=32 (R353). -/
def execShldRm32R32Cl (rm : RM) (r : Reg) (s : State) : Out := runSeq (withCl (doubleShiftOp 32 (shldFn 32) rm r)) s

/-- SHRD r/m16,r16,imm8 : `0F AC /r ib` with OS=16 (R354). -/
def execShrdRm16R16Imm8 (rm : RM) (r : Reg) (imm : BitVec 8) (s : State) : Out :=
  runSeq (doubleShiftOp 16 (shrdFn 16) rm r imm) s

/-- SHRD r/m32,r32,imm8 : `0F AC /r ib` with OS=32 (R354). -/
def execShrdRm32R32Imm8 (rm : RM) (r : Reg) (imm : BitVec 8) (s : State) : Out :=
  runSeq (doubleShiftOp 32 (shrdFn 32) rm r imm) s

/-- SHRD r/m16,r16,CL : `0F AD /r` with OS=16 (R354). -/
def execShrdRm16R16Cl (rm : RM) (r : Reg) (s : State) : Out := runSeq (withCl (doubleShiftOp 16 (shrdFn 16) rm r)) s

/-- SHRD r/m32,r32,CL : `0F AD /r` with OS=32 (R354). -/
def execShrdRm32R32Cl (rm : RM) (r : Reg) (s : State) : Out := runSeq (withCl (doubleShiftOp 32 (shrdFn 32) rm r)) s

/-- TEST AL,imm8 : `A8 ib` (R355). -/
def execTestAlImm8 (imm : BitVec 8) (s : State) : Out := runSeq (testRmImm 8 (aluAnd 8) (.reg rA) imm) s

/-- TEST AX,imm16 : `A9 iw` with OS=16 (R355). -/
def execTestAxImm16 (imm : BitVec 16) (s : State) : Out := runSeq (testRmImm 16 (aluAnd 16) (.reg rA) imm) s

/-- TEST EAX,imm32 : `A9 id` with OS=32 (R355). -/
def execTestEaxImm32 (imm : BitVec 32) (s : State) : Out := runSeq (testRmImm 32 (aluAnd 32) (.reg rA) imm) s

/-- TEST r/m8,imm8 : `F6 /0 ib` (R355). -/
def execTestRm8Imm8 (rm : RM) (imm : BitVec 8) (s : State) : Out := runSeq (testRmImm 8 (aluAnd 8) rm imm) s

/-- TEST r/m16,imm16 : `F7 /0 iw` with OS=16 (R355). -/
def execTestRm16Imm16 (rm : RM) (imm : BitVec 16) (s : State) : Out := runSeq (testRmImm 16 (aluAnd 16) rm imm) s

/-- TEST r/m32,imm32 : `F7 /0 id` with OS=32 (R355). -/
def execTestRm32Imm32 (rm : RM) (imm : BitVec 32) (s : State) : Out := runSeq (testRmImm 32 (aluAnd 32) rm imm) s

/-- TEST r/m8,r8 : `84 /r` (R355). -/
def execTestRm8R8 (rm : RM) (r : Reg) (s : State) : Out := runSeq (testRmReg 8 (aluAnd 8) rm r) s

/-- TEST r/m16,r16 : `85 /r` with OS=16 (R355). -/
def execTestRm16R16 (rm : RM) (r : Reg) (s : State) : Out := runSeq (testRmReg 16 (aluAnd 16) rm r) s

/-- TEST r/m32,r32 : `85 /r` with OS=32 (R355). -/
def execTestRm32R32 (rm : RM) (r : Reg) (s : State) : Out := runSeq (testRmReg 32 (aluAnd 32) rm r) s

/-- XOR AL,imm8 : `34 ib` (R356). -/
def execXorAlImm8 (imm : BitVec 8) (s : State) : Out := runSeq (opRmImm 8 (aluXor 8) (.reg rA) imm) s

/-- XOR AX,imm16 : `35 iw` with OS=16 (R356). -/
def execXorAxImm16 (imm : BitVec 16) (s : State) : Out := runSeq (opRmImm 16 (aluXor 16) (.reg rA) imm) s

/-- XOR EAX,imm32 : `35 id` with OS=32 (R356). -/
def execXorEaxImm32 (imm : BitVec 32) (s : State) : Out := runSeq (opRmImm 32 (aluXor 32) (.reg rA) imm) s

/-- XOR r/m8,imm8 : `80 /6 ib` (R356). -/
def execXorRm8Imm8 (rm : RM) (imm : BitVec 8) (s : State) : Out := runSeq (opRmImm 8 (aluXor 8) rm imm) s

/-- XOR r/m16,imm16 : `81 /6 iw` with OS=16 (R356). -/
def execXorRm16Imm16 (rm : RM) (imm : BitVec 16) (s : State) : Out := runSeq (opRmImm 16 (aluXor 16) rm imm) s

/-- XOR r/m32,imm32 : `81 /6 id` with OS=32 (R356). -/
def execXorRm32Imm32 (rm : RM) (imm : BitVec 32) (s : State) : Out := runSeq (opRmImm 32 (aluXor 32) rm imm) s

/-- XOR r/m16,imm8 : `83 /6 ib` with OS=16 (R356). -/
def execXorRm16Imm8 (rm : RM) (imm : BitVec 8) (s : State) : Out :=
  runSeq (opRmImm 16 (aluXor 16) rm (imm.signExtend 16)) s

/-- XOR r/m32,imm8 : `83 /6 ib` with OS=32 (R356). -/
def execXorRm32Imm8 (rm : RM) (imm : BitVec 8) (s : State) : Out :=
  runSeq (opRmImm 32 (aluXor 32) rm (imm.signExtend 32)) s

/-- XOR r/m8,r8 : `30 /r` (R356). -/
def execXorRm8R8 (rm : RM) (r : Reg) (s : State) : Out := runSeq (opRmReg 8 (aluXor 8) rm r) s

/-- XOR r/m16,r16 : `31 /r` with OS=16 (R356). -/
def execXorRm16R16 (rm : RM) (r : Reg) (s : State) : Out := runSeq (opRmReg 16 (aluXor 16) rm r) s

/-- XOR r/m32,r32 : `31 /r` with OS=32 (R356). -/
def execXorRm32R32 (rm : RM) (r : Reg) (s : State) : Out := runSeq (opRmReg 32 (aluXor 32) rm r) s

/-- XOR r8,r/m8 : `32 /r` (R356). -/
def execXorR8Rm8 (r : Reg) (rm : RM) (s : State) : Out := runSeq (opRegRm 8 (aluXor 8) r rm) s

/-- XOR r16,r/m16 : `33 /r` with OS=16 (R356). -/
def execXorR16Rm16 (r : Reg) (rm : RM) (s : State) : Out := runSeq (opRegRm 16 (aluXor 16) r rm) s

/-- XOR r32,r/m32 : `33 /r` with OS=32 (R356). -/
def execXorR32Rm32 (r : Reg) (rm : RM) (s : State) : Out := runSeq (opRegRm 32 (aluXor 32) r rm) s

end Sys2Proof.Machine
end

