-- ==== Sys2Proof/Machine/Prefix.lean ====
section
/-! DEFINITION. The eleven prefix bytes (30_encoding.md R172 to R176, R200, R201). -/

namespace Sys2Proof.Machine

/-! ## Prefixes (30_encoding.md R172, R173) -/

/-- Read a prefix byte: a second prefix of one group is refused (R173, D80); else the latch is set and the instruction
goes on. -/
def latch (taken : Prefixes → Bool) (mark : Prefixes → Prefixes) (s : State) : Out :=
  if taken s.pfx then .refused .redundantPrefix else .next { s with pfx := mark s.pfx }

/-- Group 1 is taken: LOCK, REPNE or REP was read. -/
def group1 (p : Prefixes) : Bool := p.lock || p.rep != .none

/-- Read a segment-override prefix (R176). -/
def latchSeg (sr : SegReg) (s : State) : Out :=
  latch (fun p => p.seg.isSome) (fun p => { p with seg := some sr }) s

/-- LOCK : `F0` (R200). -/
def execLock (s : State) : Out := latch group1 (fun p => { p with lock := true }) s

/-- REPNE : `F2` (R448). -/
def execRepne (s : State) : Out := latch group1 (fun p => { p with rep := .repne }) s

/-- REP : `F3` (R448). -/
def execRep (s : State) : Out := latch group1 (fun p => { p with rep := .rep }) s

/-- CS: : `2E` (R176). -/
def execSegCs (s : State) : Out := latchSeg .cs s

/-- SS: : `36` (R176). -/
def execSegSs (s : State) : Out := latchSeg .ss s

/-- DS: : `3E` (R176). -/
def execSegDs (s : State) : Out := latchSeg .ds s

/-- ES: : `26` (R176). -/
def execSegEs (s : State) : Out := latchSeg .es s

/-- FS: : `64` (R176). -/
def execSegFs (s : State) : Out := latchSeg .fs s

/-- GS: : `65` (R176). -/
def execSegGs (s : State) : Out := latchSeg .gs s

/-- OPSIZE : `66` (R174). -/
def execOpSize (s : State) : Out := latch (fun p => p.os) (fun p => { p with os := true }) s

/-- ADDRSIZE : `67` (R175). -/
def execAddrSize (s : State) : Out := latch (fun p => p.as) (fun p => { p with as := true }) s

end Sys2Proof.Machine
end

