-- ==== Sys2Proof/Machine/Strings.lean ====
section
/-! DEFINITION. String and I/O instructions (44_string_and_io.md R440 to R450). -/

namespace Sys2Proof.Machine

/-! ## Indexes, counts and the repeat prefixes (R440, R448) -/

/-- The element at `Seg:(E)SI`, Seg being DS unless overridden (R440). -/
def State.srcLoc (s : State) : Loc := s.asLoc (s.segFor .ds) s.gpr.esi

/-- The element at `ES:(E)DI` (R440). -/
def State.dstLoc (s : State) : Loc := s.asLoc .es s.gpr.edi

/-- Write the low word or the whole of a register, by the address size. -/
def State.setAs (s : State) (r : Reg) (v : DWord) : State :=
  { s with gpr := s.gpr.set r (if s.as32 then v else setLow16 (s.gpr.get r) (v.setWidth 16)) }

/-- Move an index register past an element of `n` bytes, down if DF is set (R440). -/
def stepIndex (r : Reg) (n : Nat) : M Unit := modify fun s =>
  s.setAs r (if s.flags.df then s.gpr.get r - BitVec.ofNat 32 n else s.gpr.get r + BitVec.ofNat 32 n)

/-- CountReg: CX or ECX by the address size (R448). -/
def State.count (s : State) : DWord := wrapOff s.as32 s.gpr.ecx

/-- Does the repetition end after an iteration (R448)? `scan` holds for CMPS and SCAS. F2 before another string
instruction behaves as F3 (log 24). -/
def State.repDone (s : State) (scan : Bool) : Bool :=
  s.count == 0#32 || (scan && (if s.pfx.rep = .rep then !s.flags.zf else s.flags.zf))

/-- The state between two iterations: EIP still names the first prefix, and the flags from before the instruction are
kept for a fault (R448, D45), its bytes for the next iteration (R155). The instruction is not complete, so it owes no single-step trap (log 18). -/
def State.between (s0 t : State) : State :=
  { t with pfx := noPrefixes, inhibit := s0.inhibit, repFlags := some (s0.repFlags.getD s0.flags),
           repCode := some (s0.repCode.getD (s0.fetchWindow s0.eip 15)), trapOwed := false }

/-- A string instruction: once, or one iteration of a repetition for each step (R448). -/
def repOp (scan : Bool) (body : M Unit) (s : State) : Out :=
  if s.pfx.rep = .none then runSeq body s
  else if s.count = 0#32 then runSeq (pure ()) s
  else
    match (do body; modify fun t => t.setAs rC (t.gpr.ecx - 1#32) : M Unit) s with
    | .error e => stopped s e
    | .ok (_, t) =>
      if t.repDone scan then .next (s.completed { t with inhibit := .none, eip := t.nextEip })
      else .next (s.between t)

/-! ## The I/O space (20_memory.md R160, R161, R166) -/

/-- Does an I/O instruction consult the permission map: above IOPL, or in virtual-8086 mode (R160)? -/
def State.ioChecked (s : State) : Bool := s.pe && (s.flags.vm || s.aboveIopl)

/-- The I/O permission check for `n` bytes at a port (R160). -/
def ioFault (s : State) (port : Word) (n : Nat) : Option Stop :=
  let base := s.readLin (s.tr.base + 0x66#32) 2
  let at_ := base + port.toNat / 8
  let bits := s.readLin (s.tr.base + BitVec.ofNat 32 at_) 2
  if !s.ioChecked then none
  else if !s.tr.ty.getLsbD 3 || decide (s.tr.limit.toNat < at_ + 1) ||
      decide (bits / 2 ^ (port.toNat % 8) % 2 ^ n ≠ 0) then some (excGP 0#16)
  else none

/-- That check, with the two reads it makes where a 32-bit TSS has a map: its base and the two bytes of it. -/
def checkIo (port : Word) (n : Nat) : M Unit := do
  let s ← get
  check (ioFault s port n)
  if s.ioChecked then
    let base ← sysRead (s.tr.base + 0x66#32) 2
    let _ ← sysRead (s.tr.base + BitVec.ofNat 32 (base + port.toNat / 8)) 2
  else pure ()

/-- The value a port answers: the next value of the host's list, or all ones (R166, parameter HOST_PORTS; log 5). -/
def State.portValue (s : State) (n : Nat) : Nat := (s.host.portIn.headD 0xFFFFFFFF#32).toNat % 2 ^ (8 * n)

/-- `IORead(port, n)` (R166). -/
def ioRead (port : Word) (n : Nat) : M Nat := do
  let s ← get
  set { s with
    host := { s.host with portIn := s.host.portIn.tail },
    ioTrace := { space := .port, write := false, addr := port.setWidth 32, width := n, value := s.portValue n } ::
      s.ioTrace }
  pure (s.portValue n)

/-- `IOWrite(port, n, v)` (R166). -/
def ioWrite (port : Word) (n : Nat) (v : Nat) : M Unit := modify fun s =>
  { s with ioTrace := { space := .port, write := true, addr := port.setWidth 32, width := n, value := v } ::
      s.ioTrace }

/-! ## The string instructions -/

/-- CMPS (R441). -/
def cmpsOp (w : Nat) : M Unit := do
  let s ← get
  let a ← readLoc w s.srcLoc
  let b ← readLoc w s.dstLoc
  setFlags fun f => f.sub a b false
  stepIndex rSI (bytesOf w)
  stepIndex rDI (bytesOf w)

/-- MOVS (R445). -/
def movsOp (w : Nat) : M Unit := do
  let s ← get
  let v ← readLoc w s.srcLoc
  writeLoc w s.dstLoc v
  stepIndex rSI (bytesOf w)
  stepIndex rDI (bytesOf w)

/-- LODS (R444). -/
def lodsOp (w : Nat) : M Unit := do
  let s ← get
  let v ← readLoc w s.srcLoc
  setReg w rA v
  stepIndex rSI (bytesOf w)

/-- SCAS (R449). -/
def scasOp (w : Nat) : M Unit := do
  let s ← get
  let m ← readLoc w s.dstLoc
  let a ← getReg w rA
  setFlags fun f => f.sub a m false
  stepIndex rDI (bytesOf w)

/-- STOS (R450). -/
def stosOp (w : Nat) : M Unit := do
  let s ← get
  let a ← getReg w rA
  writeLoc w s.dstLoc a
  stepIndex rDI (bytesOf w)

/-- INS (R443): the destination is checked before the port is read (D34). -/
def insOp (w : Nat) : M Unit := do
  let s ← get
  let port ← getReg 16 rD
  checkIo port (bytesOf w)
  memProbe s.dstLoc (bytesOf w) (bytesOf w)
  let v ← ioRead port (bytesOf w)
  writeLoc w s.dstLoc (BitVec.ofNat w v)
  stepIndex rDI (bytesOf w)

/-- OUTS (R447). -/
def outsOp (w : Nat) : M Unit := do
  let s ← get
  let port ← getReg 16 rD
  checkIo port (bytesOf w)
  let v ← readLoc w s.srcLoc
  ioWrite port (bytesOf w) v.toNat
  stepIndex rSI (bytesOf w)

/-- IN (R442). -/
def inOp (w : Nat) (port : Word) : M Unit := do
  checkIo port (bytesOf w)
  let v ← ioRead port (bytesOf w)
  setReg w rA (BitVec.ofNat w v)

/-- OUT (R446). -/
def outOp (w : Nat) (port : Word) : M Unit := do
  checkIo port (bytesOf w)
  let v ← getReg w rA
  ioWrite port (bytesOf w) v.toNat

/-- IN with the port in DX. -/
def inDx (w : Nat) : M Unit := do
  let port ← getReg 16 rD
  inOp w port

/-- OUT with the port in DX. -/
def outDx (w : Nat) : M Unit := do
  let port ← getReg 16 rD
  outOp w port

/-- CMPSB m8,m8 : `A6` (R441). -/
def execCmpsb (s : State) : Out := repOp true (cmpsOp 8) s

/-- CMPSW m16,m16 : `A7` with OS=16 (R441). -/
def execCmpsw (s : State) : Out := repOp true (cmpsOp 16) s

/-- CMPSD m32,m32 : `A7` with OS=32 (R441). -/
def execCmpsd (s : State) : Out := repOp true (cmpsOp 32) s

/-- IN AL,imm8 : `E4 ib` (R442). -/
def execInAlImm8 (imm : BitVec 8) (s : State) : Out := runSeq (inOp 8 (imm.setWidth 16)) s

/-- IN AX,imm8 : `E5 ib` with OS=16 (R442). -/
def execInAxImm8 (imm : BitVec 8) (s : State) : Out := runSeq (inOp 16 (imm.setWidth 16)) s

/-- IN EAX,imm8 : `E5 ib` with OS=32 (R442). -/
def execInEaxImm8 (imm : BitVec 8) (s : State) : Out := runSeq (inOp 32 (imm.setWidth 16)) s

/-- IN AL,DX : `EC` (R442). -/
def execInAlDx (s : State) : Out := runSeq (inDx 8) s

/-- IN AX,DX : `ED` with OS=16 (R442). -/
def execInAxDx (s : State) : Out := runSeq (inDx 16) s

/-- IN EAX,DX : `ED` with OS=32 (R442). -/
def execInEaxDx (s : State) : Out := runSeq (inDx 32) s

/-- INSB m8,DX : `6C` (R443). -/
def execInsb (s : State) : Out := repOp false (insOp 8) s

/-- INSW m16,DX : `6D` with OS=16 (R443). -/
def execInsw (s : State) : Out := repOp false (insOp 16) s

/-- INSD m32,DX : `6D` with OS=32 (R443). -/
def execInsd (s : State) : Out := repOp false (insOp 32) s

/-- LODSB m8 : `AC` (R444). -/
def execLodsb (s : State) : Out := repOp false (lodsOp 8) s

/-- LODSW m16 : `AD` with OS=16 (R444). -/
def execLodsw (s : State) : Out := repOp false (lodsOp 16) s

/-- LODSD m32 : `AD` with OS=32 (R444). -/
def execLodsd (s : State) : Out := repOp false (lodsOp 32) s

/-- MOVSB m8,m8 : `A4` (R445). -/
def execMovsb (s : State) : Out := repOp false (movsOp 8) s

/-- MOVSW m16,m16 : `A5` with OS=16 (R445). -/
def execMovsw (s : State) : Out := repOp false (movsOp 16) s

/-- MOVSD m32,m32 : `A5` with OS=32 (R445). -/
def execMovsd (s : State) : Out := repOp false (movsOp 32) s

/-- OUT imm8,AL : `E6 ib` (R446). -/
def execOutImm8Al (imm : BitVec 8) (s : State) : Out := runSeq (outOp 8 (imm.setWidth 16)) s

/-- OUT imm8,AX : `E7 ib` with OS=16 (R446). -/
def execOutImm8Ax (imm : BitVec 8) (s : State) : Out := runSeq (outOp 16 (imm.setWidth 16)) s

/-- OUT imm8,EAX : `E7 ib` with OS=32 (R446). -/
def execOutImm8Eax (imm : BitVec 8) (s : State) : Out := runSeq (outOp 32 (imm.setWidth 16)) s

/-- OUT DX,AL : `EE` (R446). -/
def execOutDxAl (s : State) : Out := runSeq (outDx 8) s

/-- OUT DX,AX : `EF` with OS=16 (R446). -/
def execOutDxAx (s : State) : Out := runSeq (outDx 16) s

/-- OUT DX,EAX : `EF` with OS=32 (R446). -/
def execOutDxEax (s : State) : Out := runSeq (outDx 32) s

/-- OUTSB DX,m8 : `6E` (R447). -/
def execOutsb (s : State) : Out := repOp false (outsOp 8) s

/-- OUTSW DX,m16 : `6F` with OS=16 (R447). -/
def execOutsw (s : State) : Out := repOp false (outsOp 16) s

/-- OUTSD DX,m32 : `6F` with OS=32 (R447). -/
def execOutsd (s : State) : Out := repOp false (outsOp 32) s

/-- SCASB m8 : `AE` (R449). -/
def execScasb (s : State) : Out := repOp true (scasOp 8) s

/-- SCASW m16 : `AF` with OS=16 (R449). -/
def execScasw (s : State) : Out := repOp true (scasOp 16) s

/-- SCASD m32 : `AF` with OS=32 (R449). -/
def execScasd (s : State) : Out := repOp true (scasOp 32) s

/-- STOSB m8 : `AA` (R450). -/
def execStosb (s : State) : Out := repOp false (stosOp 8) s

/-- STOSW m16 : `AB` with OS=16 (R450). -/
def execStosw (s : State) : Out := repOp false (stosOp 16) s

/-- STOSD m32 : `AB` with OS=32 (R450). -/
def execStosd (s : State) : Out := repOp false (stosOp 32) s

end Sys2Proof.Machine
end

