-- ==== Sys2Proof/Machine/System.lean ====
section
/-! DEFINITION. System instructions (49_system_1.md R750 to R773). -/

namespace Sys2Proof.Machine

/-! ## Modes -/

/-- The check of an instruction recognised only in protected mode: #UD elsewhere (R750, R755, R757, R771). -/
def needProt : M Unit := do
  let s ← get
  stopIf (!s.isProt) excUD

/-- Store a system word (R768 to R770): two bytes to memory; to a register the low word, or all of it where OS = 32, with
`high` above. -/
def storeSystem (wide : Bool) (rm : RM) (v high : Word) : M Unit :=
  match rm with
  | .mem _ => writeRM 16 rm v
  | .reg r => if wide then setReg 32 r (high ++ v) else setReg 16 r v

/-- Read a selector operand whose page lists no #AC (R757, R758, R760). -/
def readSelector (rm : RM) : M Word :=
  match rm with
  | .reg r => getReg 16 r
  | .mem e => do
    let s ← get
    let v ← memRead (s.eaLoc e) 2 1
    pure (BitVec.ofNat 16 v)

/-! ## Selectors and descriptors -/

/-- ARPL (R750). Where ZF becomes 0 the page assigns nothing to the destination; a destination in memory is written back
unchanged then, which a device sees as a write (DESIGN CHOICE, log 51). -/
def arplOp (rm : RM) (r : Reg) : M Unit := do
  needProt
  let src ← getReg 16 r
  updateRM 16 rm fun d => do
    setFlags fun f => { f with zf := decide ((rpl d).toNat < (rpl src).toNat) }
    pure (if (rpl d).toNat < (rpl src).toNat then withRpl d (rpl src) else d)

/-- May the segment of a descriptor be seen through a selector: conforming code, or neither CPL nor RPL above DPL
(R755, R759, R771)? -/
def State.sees (s : State) (sel : Word) (d : QWord) : Bool :=
  (segOfDesc sel d).isConforming ||
    (decide (s.cpl.toNat ≤ (descDpl d).toNat) && decide ((rpl sel).toNat ≤ (descDpl d).toNat))

/-- The system types that LAR accepts (R755). -/
def larType (t : BitVec 4) : Bool :=
  t == 1#4 || t == 2#4 || t == 3#4 || t == 4#4 || t == 5#4 || t == 9#4 || t == 0xB#4 || t == 0xC#4

/-- The system types that LSL accepts (R759). -/
def lslType (t : BitVec 4) : Bool := t == 1#4 || t == 2#4 || t == 3#4 || t == 9#4 || t == 0xB#4

/-- The descriptor that a selector names, if the selector is not null, in its table and passes a test (R755, R759,
R771). -/
def State.seenDesc (s : State) (sel : Word) (ok : QWord → Bool) : Option QWord :=
  if selNull sel then none
  else
    match s.descAddr sel with
    | none => none
    | some a => if s.sees sel (s.descAt a) && ok (s.descAt a) then some (s.descAt a) else none

/-- The processor reads that descriptor, whatever it holds. -/
def State.noteSeen (s : State) (sel : Word) : State := if selNull sel then s else s.noteDesc sel

/-- LAR and LSL: ZF, and the destination of `w` bits where the selector passes; the source is read as `m` bits, of which the
low 16 are the selector. -/
def loadFromDesc (m w : Nat) (r : Reg) (rm : RM) (ok : QWord → Bool) (val : QWord → DWord) : M Unit := do
  needProt
  let src ← readRM m rm
  let s ← get
  set (s.noteSeen (src.setWidth 16))
  match s.seenDesc (src.setWidth 16) ok with
  | none => setFlags fun f => { f with zf := false }
  | some d =>
    setReg w r ((val d).setWidth w)
    setFlags fun f => { f with zf := true }

/-- The access rights of a descriptor (R755, D37). -/
def accessRights (d : QWord) : DWord := d.extractLsb' 32 32 &&& 0x00F0FF00#32

/-- LAR (R755): a memory source is read as 16 bits. -/
def larOp (w : Nat) (r : Reg) (rm : RM) : M Unit :=
  loadFromDesc 16 w r rm (fun d => descS d || larType (descType d)) accessRights

/-- LSL (R759): the source has the operand size (30_encoding.md R193). -/
def lslOp (w : Nat) (r : Reg) (rm : RM) : M Unit :=
  loadFromDesc w w r rm (fun d => descS d || lslType (descType d)) descLimit

/-- VERR and VERW (R771). -/
def verifyOp (ok : Seg → Bool) (rm : RM) : M Unit := do
  needProt
  let sel ← readRM 16 rm
  let s ← get
  set (s.noteSeen sel)
  setFlags fun f => { f with zf := (s.seenDesc sel fun d => descS d && ok (segOfDesc sel d)).isSome }

/-- LGDT and LIDT: the table register that the six bytes give (R756). -/
def loadTable (ea : Ea) : M TableReg := do
  needCpl0
  let s ← get
  let (limit, base) ← memReadPair (s.eaLoc ea) 2 4 1
  let base := BitVec.ofNat 32 base
  pure { limit := BitVec.ofNat 16 limit, base := if s.os32 then base else base &&& 0x00FFFFFF#32 }

/-- LGDT (R756). -/
def lgdtOp (ea : Ea) : M Unit := do
  let t ← loadTable ea
  modify fun s => { s with gdtr := t }

/-- LIDT (R756). -/
def lidtOp (ea : Ea) : M Unit := do
  let t ← loadTable ea
  modify fun s => { s with idtr := t }

/-- SGDT and SIDT (R767). The six bytes are aligned when the base doubleword is: the limit word stands at an odd word
address (20_memory.md R133; log 38). They are two accesses, the limit first, checked together (R137; log 62). -/
def storeTable (table : State → TableReg) (ea : Ea) : M Unit := do
  let s ← get
  let t := table s
  memProbe (s.eaLoc ea) 6 1
  check (alignFault s { s.eaLoc ea with off := (s.eaLoc ea).off + 2#32 } 4)
  let base := if s.os32 then t.base else t.base &&& 0x00FFFFFF#32
  modify fun u => (u.store (s.linear (s.eaLoc ea)) 2 t.limit.toNat).store (s.linear (s.eaLoc ea) + 2#32) 4 base.toNat

/-- The GDT descriptor that LLDT and LTR load, and its address: #GP(sel) for TI = 1, outside the GDT, or where the type is
not wanted; #NP(sel) where it is not present (R757, R760). -/
def systemDesc (sel : Word) (ok : BitVec 4 → Bool) : M (DWord × QWord) := do
  let s ← get
  stopIf (selTi sel) (excGP (selCode sel false))
  match s.descAddr sel with
  | none => throw (excGP (selCode sel false))
  | some a =>
    let d := s.descAt a
    stopIf (descS d || !ok (descType d)) (excGP (selCode sel false))
    stopIf (!descP d) (excNP (selCode sel false))
    set (s.noteRead a 8)
    pure (a, d)

/-- LLDT (R757, D40). -/
def lldtOp (rm : RM) : M Unit := do
  needProt
  needCpl0
  let sel ← readSelector rm
  if selNull sel then modify fun s => { s with ldtr := { s.ldtr with sel := sel, valid := false } }
  else
    let (_, d) ← systemDesc sel (fun t => t == 2#4)
    modify fun s => { s with ldtr := sysOfDesc sel d }

/-- LTR (R760): the busy bit is set in the GDT, by a read-modify-write of the descriptor, and in TR. -/
def ltrOp (rm : RM) : M Unit := do
  needProt
  needCpl0
  let sel ← readSelector rm
  stopIf (selNull sel) (excGP (selCode sel false))
  let (a, d) ← systemDesc sel (fun t => t == 1#4 || t == 9#4)
  modify fun s => { s.markDesc a 2#8 with tr := sysOfDesc sel (d ||| (1#64 <<< 41)) }

/-- STR (R770). -/
def strOp (rm : RM) : M Unit := do
  needProt
  let s ← get
  storeSystem s.os32 rm s.tr.sel 0#16

/-- SLDT (R768). -/
def sldtOp (wide : Bool) (rm : RM) : M Unit := do
  needProt
  let s ← get
  storeSystem wide rm s.ldtr.sel 0#16

/-! ## Control and debug registers -/

/-- CLTS (R751). -/
def cltsOp : M Unit := do
  needCpl0
  modify fun s => { s with cr0 := s.cr0 &&& 0xFFFFFFF7#32 }

/-- LMSW (R758): PE can be set and not cleared. -/
def lmswOp (rm : RM) : M Unit := do
  needCpl0
  let src ← readSelector rm
  modify fun s => { s with cr0 := (s.cr0 &&& 0xFFFFFFF1#32) ||| ((src &&& 0xF#16).setWidth 32) }

/-- SMSW (R769): the upper half of a 32-bit register is free. -/
def smswOp (wide : Bool) (rm : RM) : M Unit := do
  let s ← get
  let high ← freeBits 16
  storeSystem wide rm (s.cr0.setWidth 16) high

/-- The bits of CR0 that the spec calls reserved: 15:6, 17 and 28:19 (10_state.md R71). -/
def cr0Reserved : DWord := 0x1FFAFFC0#32

/-- Load CR0 (R761, 10_state.md R71): the illegal combinations, what the model refuses, and ET hard-wired to 1. -/
def loadCr0 (v : DWord) : M Unit := do
  let s ← get
  stopIf ((v.getLsbD 31 && !v.getLsbD 0) || (v.getLsbD 29 && !v.getLsbD 30)) (excGP 0#16)
  stopIf ((v ^^^ s.cr0) &&& cr0Reserved != 0#32) (.refuse .reservedCr0)
  stopIf (v.getLsbD 31) (.refuse .paging)
  set { s with cr0 := v ||| 0x10#32 }

/-- Load CR4 (R761, 10_state.md R74, D36). -/
def loadCr4 (v : DWord) : M Unit := do
  stopIf (v &&& 0xFFFFFE00#32 != 0#32) (excGP 0#16)
  stopIf (v &&& 3#32 != 0#32) (.refuse .vmePvi)
  modify fun s => { s with cr4 := v }

/-- The control registers by number. -/
def State.controlReg (s : State) (n : BitVec 3) : Option DWord :=
  match n.toNat with
  | 0 => some s.cr0
  | 2 => some s.cr2
  | 3 => some s.cr3
  | 4 => some s.cr4
  | _ => none

/-- MOV from a control register (R761); the six status flags become undefined. -/
def readControl (r : Reg) (n : BitVec 3) : M Unit := do
  needCpl0
  let s ← get
  match s.controlReg n with
  | none => throw excUD
  | some v =>
    setReg 32 r v
    undefStatus

/-- MOV to a control register (R761). -/
def writeControl (n : BitVec 3) (r : Reg) : M Unit := do
  needCpl0
  let v ← getReg 32 r
  match n.toNat with
  | 0 => loadCr0 v
  | 2 => modify fun s => { s with cr2 := v }
  | 3 => modify fun s => { s with cr3 := v }
  | 4 => loadCr4 v
  | _ => throw excUD
  undefStatus

/-- The checks of a MOV to or from a debug register (R762, D41). Bit 13 of DR7 is GD (10_state.md R95). -/
def debugChecks (n : BitVec 3) : M Unit := do
  needCpl0
  let s ← get
  stopIf ((n == 4#3 || n == 5#3) && s.cr4.getLsbD 3) excUD
  stopIf (s.dr.dr7.getLsbD 13) excDB

/-- A debug register by number; DR4 and DR5 are DR6 and DR7 (10_state.md R95). -/
def DebugRegs.get (d : DebugRegs) (n : BitVec 3) : DWord :=
  match n.toNat with
  | 0 => d.dr0
  | 1 => d.dr1
  | 2 => d.dr2
  | 3 => d.dr3
  | 4 => d.dr6
  | 6 => d.dr6
  | _ => d.dr7

/-- Replace a debug register. -/
def DebugRegs.set (d : DebugRegs) (n : BitVec 3) (v : DWord) : DebugRegs :=
  match n.toNat with
  | 0 => { d with dr0 := v }
  | 1 => { d with dr1 := v }
  | 2 => { d with dr2 := v }
  | 3 => { d with dr3 := v }
  | 4 => { d with dr6 := v }
  | 6 => { d with dr6 := v }
  | _ => { d with dr7 := v }

/-- MOV from a debug register (R762). -/
def readDebug (r : Reg) (n : BitVec 3) : M Unit := do
  debugChecks n
  let s ← get
  setReg 32 r (s.dr.get n)
  undefStatus

/-- MOV to a debug register (R762). -/
def writeDebug (n : BitVec 3) (r : Reg) : M Unit := do
  debugChecks n
  let v ← getReg 32 r
  modify fun s => { s with dr := s.dr.set n v }
  undefStatus

/-! ## Counters and model-specific registers (log 6, log 30) -/

/-- EDX:EAX from a quadword. -/
def setEdxEax (v : QWord) : M Unit := do
  setReg 32 rA (v.extractLsb' 0 32)
  setReg 32 rD (v.extractLsb' 32 32)

/-- RDTSC (R765). The counter has gone on when the instruction began (`State.ticked`). -/
def rdtscOp : M Unit := do
  let s ← get
  stopIf (s.cr4.getLsbD 2 && !s.privileged) (excGP 0#16)
  setEdxEax s.tsc

/-- RDPMC (R764): the value a counter shows is an input (10_state.md R97). -/
def rdpmcOp : M Unit := do
  let s ← get
  stopIf (!((s.gpr.ecx == 0#32 || s.gpr.ecx == 1#32) && (s.cr4.getLsbD 8 || s.privileged))) (excGP 0#16)
  let v := Config.pmcValue s.fresh
  set (if s.gpr.ecx = 0#32 then { s with pmc0 := v, fresh := s.fresh + 1 }
       else { s with pmc1 := v, fresh := s.fresh + 1 })
  setEdxEax (v.setWidth 64)

/-- The value that a list of registers gives an address. -/
def msrValue (a : DWord) : List (DWord × QWord) → QWord
  | [] => 0#64
  | (b, x) :: m => if a = b then x else msrValue a m

/-- A list of registers with the value at an address replaced. -/
def setMsr (a : DWord) (v : QWord) : List (DWord × QWord) → List (DWord × QWord)
  | [] => [(a, v)]
  | (b, x) :: m => if a = b then (a, v) :: m else (b, x) :: setMsr a v m

/-- The bits that may be written of the model-specific register at an address, if `MSR_SET` has it (10_state.md R96). -/
def msrMask (a : DWord) : Option QWord := (Config.msrSet.find? fun r => r.1 == a).map fun r => r.2.2

/-- RDMSR (R763): the time-stamp counter is read as RDTSC reads it. -/
def rdmsrOp : M Unit := do
  needCpl0
  let s ← get
  stopIf (msrMask s.gpr.ecx).isNone (excGP 0#16)
  setEdxEax (if s.gpr.ecx = Config.msrTsc then s.tsc else msrValue s.gpr.ecx s.msrs)

/-- WRMSR (R773): every bit of the time-stamp counter is written; in another register, a write that would change a bit
outside the mask is refused (U-MSR-RESERVED). -/
def wrmsrOp : M Unit := do
  needCpl0
  let s ← get
  let v : QWord := s.gpr.edx ++ s.gpr.eax
  match msrMask s.gpr.ecx with
  | none => throw (excGP 0#16)
  | some mask =>
    if s.gpr.ecx = Config.msrTsc then set { s with tsc := v }
    else
      stopIf ((msrValue s.gpr.ecx s.msrs ^^^ v) &&& ~~~mask != 0#64) (.refuse .reservedMsr)
      set { s with msrs := setMsr s.gpr.ecx v s.msrs }

/-! ## Caches and the HALT state -/

/-- Each address written since the last write back takes its old or its new value, by a free bit (R753; log 21). -/
def dropLines (draw : Nat → Bool) : Nat → List Host.Cell → Memory → Memory
  | _, [], m => m
  | n, (a, old) :: d, m => dropLines draw (n + 1) d (if draw n then m.write a old else m)

/-- INVD (R753). -/
def invdOp : M Unit := do
  needCpl0
  modify fun s =>
    { s with mem := dropLines (fun n => (Config.freeBits 1 n).getLsbD 0) s.fresh s.dirty s.mem, dirty := [],
             fresh := s.fresh + s.dirty.length }

/-- WBINVD (R772): everything stored so far is in memory for good. -/
def wbinvdOp : M Unit := do
  needCpl0
  modify fun s => { s with dirty := [] }

/-- INVLPG (R754): no TLB in the model, and the operand is not accessed. -/
def invlpgOp : M Unit := needCpl0

/-- HLT (R752): the boundary holds the machine until an interrupt, NMI, INIT or RESET. -/
def hltOp : M Unit := do
  needCpl0
  modify fun s => { s with halted := true }

/-- RSM outside system management mode (R766, D47): the machine is never in it. -/
def rsmOp : M Unit := throw excUD

/-- ARPL r/m16,r16 : `63 /r` (R750). -/
def execArplRm16R16 (rm : RM) (r : Reg) (s : State) : Out := runSeq (arplOp rm r) s

/-- CLTS : `0F 06` (R751). -/
def execClts (s : State) : Out := runSeq cltsOp s

/-- HLT : `F4` (R752). -/
def execHlt (s : State) : Out := runSeq hltOp s

/-- INVD : `0F 08` (R753). -/
def execInvd (s : State) : Out := runSeq invdOp s

/-- INVLPG m : `0F 01 /7` (R754). -/
def execInvlpgM (_ea : Ea) (s : State) : Out := runSeq invlpgOp s

/-- LAR r16,r/m16 : `0F 02 /r` with OS=16 (R755). -/
def execLarR16Rm16 (r : Reg) (rm : RM) (s : State) : Out := runSeq (larOp 16 r rm) s

/-- LAR r32,r/m32 : `0F 02 /r` with OS=32 (R755). -/
def execLarR32Rm32 (r : Reg) (rm : RM) (s : State) : Out := runSeq (larOp 32 r rm) s

/-- LGDT m16&32 : `0F 01 /2` (R756). -/
def execLgdtM16a32 (ea : Ea) (s : State) : Out := runSeq (lgdtOp ea) s

/-- LIDT m16&32 : `0F 01 /3` (R756). -/
def execLidtM16a32 (ea : Ea) (s : State) : Out := runSeq (lidtOp ea) s

/-- LLDT r/m16 : `0F 00 /2` (R757). -/
def execLldtRm16 (rm : RM) (s : State) : Out := runSeq (lldtOp rm) s

/-- LMSW r/m16 : `0F 01 /6` (R758). -/
def execLmswRm16 (rm : RM) (s : State) : Out := runSeq (lmswOp rm) s

/-- LSL r16,r/m16 : `0F 03 /r` with OS=16 (R759). -/
def execLslR16Rm16 (r : Reg) (rm : RM) (s : State) : Out := runSeq (lslOp 16 r rm) s

/-- LSL r32,r/m32 : `0F 03 /r` with OS=32 (R759). -/
def execLslR32Rm32 (r : Reg) (rm : RM) (s : State) : Out := runSeq (lslOp 32 r rm) s

/-- LTR r/m16 : `0F 00 /3` (R760). -/
def execLtrRm16 (rm : RM) (s : State) : Out := runSeq (ltrOp rm) s

/-- MOV CRn,r32 : `0F 22 /r` (R761). -/
def execMovCRnR32 (n : BitVec 3) (r : Reg) (s : State) : Out := runSeq (writeControl n r) s

/-- MOV r32,CRn : `0F 20 /r` (R761). -/
def execMovR32CRn (r : Reg) (n : BitVec 3) (s : State) : Out := runSeq (readControl r n) s

/-- MOV r32,DRn : `0F 21 /r` (R762). -/
def execMovR32DRn (r : Reg) (n : BitVec 3) (s : State) : Out := runSeq (readDebug r n) s

/-- MOV DRn,r32 : `0F 23 /r` (R762). -/
def execMovDRnR32 (n : BitVec 3) (r : Reg) (s : State) : Out := runSeq (writeDebug n r) s

/-- RDMSR : `0F 32` (R763). -/
def execRdmsr (s : State) : Out := runSeq rdmsrOp s

/-- RDPMC : `0F 33` (R764). -/
def execRdpmc (s : State) : Out := runSeq rdpmcOp s

/-- RDTSC : `0F 31` (R765). -/
def execRdtsc (s : State) : Out := runSeq rdtscOp s

/-- RSM : `0F AA` (R766). -/
def execRsm (s : State) : Out := runSeq rsmOp s

/-- SGDT m : `0F 01 /0` (R767). -/
def execSgdtM (ea : Ea) (s : State) : Out := runSeq (storeTable (fun t => t.gdtr) ea) s

/-- SIDT m : `0F 01 /1` (R767). -/
def execSidtM (ea : Ea) (s : State) : Out := runSeq (storeTable (fun t => t.idtr) ea) s

/-- SLDT r/m16 : `0F 00 /0` with OS=16 (R768). -/
def execSldtRm16 (rm : RM) (s : State) : Out := runSeq (sldtOp false rm) s

/-- SLDT r/m32 : `0F 00 /0` with OS=32 (R768). -/
def execSldtRm32 (rm : RM) (s : State) : Out := runSeq (sldtOp true rm) s

/-- SMSW r/m16 : `0F 01 /4` with OS=16 (R769). -/
def execSmswRm16 (rm : RM) (s : State) : Out := runSeq (smswOp false rm) s

/-- SMSW r32/m16 : `0F 01 /4` with OS=32 (R769). -/
def execSmswR32M16 (rm : RM) (s : State) : Out := runSeq (smswOp true rm) s

/-- STR r/m16 : `0F 00 /1` (R770). -/
def execStrRm16 (rm : RM) (s : State) : Out := runSeq (strOp rm) s

/-- VERR r/m16 : `0F 00 /4` (R771). -/
def execVerrRm16 (rm : RM) (s : State) : Out := runSeq (verifyOp (fun g => g.isData || g.isReadableCode) rm) s

/-- VERW r/m16 : `0F 00 /5` (R771). -/
def execVerwRm16 (rm : RM) (s : State) : Out := runSeq (verifyOp (fun g => g.isWritableData) rm) s

/-- WBINVD : `0F 09` (R772). -/
def execWbinvd (s : State) : Out := runSeq wbinvdOp s

/-- WRMSR : `0F 30` (R773). -/
def execWrmsr (s : State) : Out := runSeq wrmsrOp s

end Sys2Proof.Machine
end

