-- ==== Sys2Proof/Machine/Dispatch.lean ====
section
/-! DEFINITION. The dispatch: one arm per constructor of `Instr`, each one direct call of a meaning. -/

namespace Sys2Proof.Machine

/-- What executing an instruction does (three outcomes). -/
def exec (i : Instr) (s : State) : Host.Outcome State Fault Refusal :=
  match i with
  | .lock => Sys2Proof.Machine.execLock s
  | .repne => Sys2Proof.Machine.execRepne s
  | .rep => Sys2Proof.Machine.execRep s
  | .segCs => Sys2Proof.Machine.execSegCs s
  | .segSs => Sys2Proof.Machine.execSegSs s
  | .segDs => Sys2Proof.Machine.execSegDs s
  | .segEs => Sys2Proof.Machine.execSegEs s
  | .segFs => Sys2Proof.Machine.execSegFs s
  | .segGs => Sys2Proof.Machine.execSegGs s
  | .opSize => Sys2Proof.Machine.execOpSize s
  | .addrSize => Sys2Proof.Machine.execAddrSize s
  | .bswapR32 r => Sys2Proof.Machine.execBswapR32 r s
  | .cbw => Sys2Proof.Machine.execCbw s
  | .cwde => Sys2Proof.Machine.execCwde s
  | .cmovoR16Rm16 r rm => Sys2Proof.Machine.execCmovoR16Rm16 r rm s
  | .cmovnoR16Rm16 r rm => Sys2Proof.Machine.execCmovnoR16Rm16 r rm s
  | .cmovbR16Rm16 r rm => Sys2Proof.Machine.execCmovbR16Rm16 r rm s
  | .cmovaeR16Rm16 r rm => Sys2Proof.Machine.execCmovaeR16Rm16 r rm s
  | .cmoveR16Rm16 r rm => Sys2Proof.Machine.execCmoveR16Rm16 r rm s
  | .cmovneR16Rm16 r rm => Sys2Proof.Machine.execCmovneR16Rm16 r rm s
  | .cmovbeR16Rm16 r rm => Sys2Proof.Machine.execCmovbeR16Rm16 r rm s
  | .cmovaR16Rm16 r rm => Sys2Proof.Machine.execCmovaR16Rm16 r rm s
  | .cmovsR16Rm16 r rm => Sys2Proof.Machine.execCmovsR16Rm16 r rm s
  | .cmovnsR16Rm16 r rm => Sys2Proof.Machine.execCmovnsR16Rm16 r rm s
  | .cmovpR16Rm16 r rm => Sys2Proof.Machine.execCmovpR16Rm16 r rm s
  | .cmovnpR16Rm16 r rm => Sys2Proof.Machine.execCmovnpR16Rm16 r rm s
  | .cmovlR16Rm16 r rm => Sys2Proof.Machine.execCmovlR16Rm16 r rm s
  | .cmovgeR16Rm16 r rm => Sys2Proof.Machine.execCmovgeR16Rm16 r rm s
  | .cmovleR16Rm16 r rm => Sys2Proof.Machine.execCmovleR16Rm16 r rm s
  | .cmovgR16Rm16 r rm => Sys2Proof.Machine.execCmovgR16Rm16 r rm s
  | .cmovoR32Rm32 r rm => Sys2Proof.Machine.execCmovoR32Rm32 r rm s
  | .cmovnoR32Rm32 r rm => Sys2Proof.Machine.execCmovnoR32Rm32 r rm s
  | .cmovbR32Rm32 r rm => Sys2Proof.Machine.execCmovbR32Rm32 r rm s
  | .cmovaeR32Rm32 r rm => Sys2Proof.Machine.execCmovaeR32Rm32 r rm s
  | .cmoveR32Rm32 r rm => Sys2Proof.Machine.execCmoveR32Rm32 r rm s
  | .cmovneR32Rm32 r rm => Sys2Proof.Machine.execCmovneR32Rm32 r rm s
  | .cmovbeR32Rm32 r rm => Sys2Proof.Machine.execCmovbeR32Rm32 r rm s
  | .cmovaR32Rm32 r rm => Sys2Proof.Machine.execCmovaR32Rm32 r rm s
  | .cmovsR32Rm32 r rm => Sys2Proof.Machine.execCmovsR32Rm32 r rm s
  | .cmovnsR32Rm32 r rm => Sys2Proof.Machine.execCmovnsR32Rm32 r rm s
  | .cmovpR32Rm32 r rm => Sys2Proof.Machine.execCmovpR32Rm32 r rm s
  | .cmovnpR32Rm32 r rm => Sys2Proof.Machine.execCmovnpR32Rm32 r rm s
  | .cmovlR32Rm32 r rm => Sys2Proof.Machine.execCmovlR32Rm32 r rm s
  | .cmovgeR32Rm32 r rm => Sys2Proof.Machine.execCmovgeR32Rm32 r rm s
  | .cmovleR32Rm32 r rm => Sys2Proof.Machine.execCmovleR32Rm32 r rm s
  | .cmovgR32Rm32 r rm => Sys2Proof.Machine.execCmovgR32Rm32 r rm s
  | .cmpxchgRm8R8 rm r => Sys2Proof.Machine.execCmpxchgRm8R8 rm r s
  | .cmpxchgRm16R16 rm r => Sys2Proof.Machine.execCmpxchgRm16R16 rm r s
  | .cmpxchgRm32R32 rm r => Sys2Proof.Machine.execCmpxchgRm32R32 rm r s
  | .cmpxchg8bM64 ea => Sys2Proof.Machine.execCmpxchg8bM64 ea s
  | .cwd => Sys2Proof.Machine.execCwd s
  | .cdq => Sys2Proof.Machine.execCdq s
  | .movRm8R8 rm r => Sys2Proof.Machine.execMovRm8R8 rm r s
  | .movRm16R16 rm r => Sys2Proof.Machine.execMovRm16R16 rm r s
  | .movRm32R32 rm r => Sys2Proof.Machine.execMovRm32R32 rm r s
  | .movR8Rm8 r rm => Sys2Proof.Machine.execMovR8Rm8 r rm s
  | .movR16Rm16 r rm => Sys2Proof.Machine.execMovR16Rm16 r rm s
  | .movR32Rm32 r rm => Sys2Proof.Machine.execMovR32Rm32 r rm s
  | .movRm16Sreg rm sr => Sys2Proof.Machine.execMovRm16Sreg rm sr s
  | .movSregRm16 sr rm => Sys2Proof.Machine.execMovSregRm16 sr rm s
  | .movAlMoffs8 mo => Sys2Proof.Machine.execMovAlMoffs8 mo s
  | .movAxMoffs16 mo => Sys2Proof.Machine.execMovAxMoffs16 mo s
  | .movEaxMoffs32 mo => Sys2Proof.Machine.execMovEaxMoffs32 mo s
  | .movMoffs8Al mo => Sys2Proof.Machine.execMovMoffs8Al mo s
  | .movMoffs16Ax mo => Sys2Proof.Machine.execMovMoffs16Ax mo s
  | .movMoffs32Eax mo => Sys2Proof.Machine.execMovMoffs32Eax mo s
  | .movR8Imm8 r imm => Sys2Proof.Machine.execMovR8Imm8 r imm s
  | .movR16Imm16 r imm => Sys2Proof.Machine.execMovR16Imm16 r imm s
  | .movR32Imm32 r imm => Sys2Proof.Machine.execMovR32Imm32 r imm s
  | .movRm8Imm8 rm imm => Sys2Proof.Machine.execMovRm8Imm8 rm imm s
  | .movRm16Imm16 rm imm => Sys2Proof.Machine.execMovRm16Imm16 rm imm s
  | .movRm32Imm32 rm imm => Sys2Proof.Machine.execMovRm32Imm32 rm imm s
  | .movsxR16Rm8 r rm => Sys2Proof.Machine.execMovsxR16Rm8 r rm s
  | .movsxR32Rm8 r rm => Sys2Proof.Machine.execMovsxR32Rm8 r rm s
  | .movsxR32Rm16 r rm => Sys2Proof.Machine.execMovsxR32Rm16 r rm s
  | .movzxR16Rm8 r rm => Sys2Proof.Machine.execMovzxR16Rm8 r rm s
  | .movzxR32Rm8 r rm => Sys2Proof.Machine.execMovzxR32Rm8 r rm s
  | .movzxR32Rm16 r rm => Sys2Proof.Machine.execMovzxR32Rm16 r rm s
  | .popM16 rm => Sys2Proof.Machine.execPopM16 rm s
  | .popM32 rm => Sys2Proof.Machine.execPopM32 rm s
  | .popR16 r => Sys2Proof.Machine.execPopR16 r s
  | .popR32 r => Sys2Proof.Machine.execPopR32 r s
  | .popDs => Sys2Proof.Machine.execPopDs s
  | .popEs => Sys2Proof.Machine.execPopEs s
  | .popSs => Sys2Proof.Machine.execPopSs s
  | .popFs => Sys2Proof.Machine.execPopFs s
  | .popGs => Sys2Proof.Machine.execPopGs s
  | .popa => Sys2Proof.Machine.execPopa s
  | .popad => Sys2Proof.Machine.execPopad s
  | .pushRm16 rm => Sys2Proof.Machine.execPushRm16 rm s
  | .pushRm32 rm => Sys2Proof.Machine.execPushRm32 rm s
  | .pushR16 r => Sys2Proof.Machine.execPushR16 r s
  | .pushR32 r => Sys2Proof.Machine.execPushR32 r s
  | .pushImm8 imm => Sys2Proof.Machine.execPushImm8 imm s
  | .pushImm16 imm => Sys2Proof.Machine.execPushImm16 imm s
  | .pushImm32 imm => Sys2Proof.Machine.execPushImm32 imm s
  | .pushCs => Sys2Proof.Machine.execPushCs s
  | .pushSs => Sys2Proof.Machine.execPushSs s
  | .pushDs => Sys2Proof.Machine.execPushDs s
  | .pushEs => Sys2Proof.Machine.execPushEs s
  | .pushFs => Sys2Proof.Machine.execPushFs s
  | .pushGs => Sys2Proof.Machine.execPushGs s
  | .pusha => Sys2Proof.Machine.execPusha s
  | .pushad => Sys2Proof.Machine.execPushad s
  | .xaddRm8R8 rm r => Sys2Proof.Machine.execXaddRm8R8 rm r s
  | .xaddRm16R16 rm r => Sys2Proof.Machine.execXaddRm16R16 rm r s
  | .xaddRm32R32 rm r => Sys2Proof.Machine.execXaddRm32R32 rm r s
  | .xchgAxR16 r => Sys2Proof.Machine.execXchgAxR16 r s
  | .xchgEaxR32 r => Sys2Proof.Machine.execXchgEaxR32 r s
  | .xchgRm8R8 rm r => Sys2Proof.Machine.execXchgRm8R8 rm r s
  | .xchgRm16R16 rm r => Sys2Proof.Machine.execXchgRm16R16 rm r s
  | .xchgRm32R32 rm r => Sys2Proof.Machine.execXchgRm32R32 rm r s
  | .xlat => Sys2Proof.Machine.execXlat s
  | .aaa => Sys2Proof.Machine.execAaa s
  | .aadImm8 imm => Sys2Proof.Machine.execAadImm8 imm s
  | .aamImm8 imm => Sys2Proof.Machine.execAamImm8 imm s
  | .aas => Sys2Proof.Machine.execAas s
  | .adcAlImm8 imm => Sys2Proof.Machine.execAdcAlImm8 imm s
  | .adcAxImm16 imm => Sys2Proof.Machine.execAdcAxImm16 imm s
  | .adcEaxImm32 imm => Sys2Proof.Machine.execAdcEaxImm32 imm s
  | .adcRm8Imm8 rm imm => Sys2Proof.Machine.execAdcRm8Imm8 rm imm s
  | .adcRm16Imm16 rm imm => Sys2Proof.Machine.execAdcRm16Imm16 rm imm s
  | .adcRm32Imm32 rm imm => Sys2Proof.Machine.execAdcRm32Imm32 rm imm s
  | .adcRm16Imm8 rm imm => Sys2Proof.Machine.execAdcRm16Imm8 rm imm s
  | .adcRm32Imm8 rm imm => Sys2Proof.Machine.execAdcRm32Imm8 rm imm s
  | .adcRm8R8 rm r => Sys2Proof.Machine.execAdcRm8R8 rm r s
  | .adcRm16R16 rm r => Sys2Proof.Machine.execAdcRm16R16 rm r s
  | .adcRm32R32 rm r => Sys2Proof.Machine.execAdcRm32R32 rm r s
  | .adcR8Rm8 r rm => Sys2Proof.Machine.execAdcR8Rm8 r rm s
  | .adcR16Rm16 r rm => Sys2Proof.Machine.execAdcR16Rm16 r rm s
  | .adcR32Rm32 r rm => Sys2Proof.Machine.execAdcR32Rm32 r rm s
  | .addAlImm8 imm => Sys2Proof.Machine.execAddAlImm8 imm s
  | .addAxImm16 imm => Sys2Proof.Machine.execAddAxImm16 imm s
  | .addEaxImm32 imm => Sys2Proof.Machine.execAddEaxImm32 imm s
  | .addRm8Imm8 rm imm => Sys2Proof.Machine.execAddRm8Imm8 rm imm s
  | .addRm16Imm16 rm imm => Sys2Proof.Machine.execAddRm16Imm16 rm imm s
  | .addRm32Imm32 rm imm => Sys2Proof.Machine.execAddRm32Imm32 rm imm s
  | .addRm16Imm8 rm imm => Sys2Proof.Machine.execAddRm16Imm8 rm imm s
  | .addRm32Imm8 rm imm => Sys2Proof.Machine.execAddRm32Imm8 rm imm s
  | .addRm8R8 rm r => Sys2Proof.Machine.execAddRm8R8 rm r s
  | .addRm16R16 rm r => Sys2Proof.Machine.execAddRm16R16 rm r s
  | .addRm32R32 rm r => Sys2Proof.Machine.execAddRm32R32 rm r s
  | .addR8Rm8 r rm => Sys2Proof.Machine.execAddR8Rm8 r rm s
  | .addR16Rm16 r rm => Sys2Proof.Machine.execAddR16Rm16 r rm s
  | .addR32Rm32 r rm => Sys2Proof.Machine.execAddR32Rm32 r rm s
  | .cmpAlImm8 imm => Sys2Proof.Machine.execCmpAlImm8 imm s
  | .cmpAxImm16 imm => Sys2Proof.Machine.execCmpAxImm16 imm s
  | .cmpEaxImm32 imm => Sys2Proof.Machine.execCmpEaxImm32 imm s
  | .cmpRm8Imm8 rm imm => Sys2Proof.Machine.execCmpRm8Imm8 rm imm s
  | .cmpRm16Imm16 rm imm => Sys2Proof.Machine.execCmpRm16Imm16 rm imm s
  | .cmpRm32Imm32 rm imm => Sys2Proof.Machine.execCmpRm32Imm32 rm imm s
  | .cmpRm16Imm8 rm imm => Sys2Proof.Machine.execCmpRm16Imm8 rm imm s
  | .cmpRm32Imm8 rm imm => Sys2Proof.Machine.execCmpRm32Imm8 rm imm s
  | .cmpRm8R8 rm r => Sys2Proof.Machine.execCmpRm8R8 rm r s
  | .cmpRm16R16 rm r => Sys2Proof.Machine.execCmpRm16R16 rm r s
  | .cmpRm32R32 rm r => Sys2Proof.Machine.execCmpRm32R32 rm r s
  | .cmpR8Rm8 r rm => Sys2Proof.Machine.execCmpR8Rm8 r rm s
  | .cmpR16Rm16 r rm => Sys2Proof.Machine.execCmpR16Rm16 r rm s
  | .cmpR32Rm32 r rm => Sys2Proof.Machine.execCmpR32Rm32 r rm s
  | .daa => Sys2Proof.Machine.execDaa s
  | .das => Sys2Proof.Machine.execDas s
  | .decRm8 rm => Sys2Proof.Machine.execDecRm8 rm s
  | .decRm16 rm => Sys2Proof.Machine.execDecRm16 rm s
  | .decRm32 rm => Sys2Proof.Machine.execDecRm32 rm s
  | .decR16 r => Sys2Proof.Machine.execDecR16 r s
  | .decR32 r => Sys2Proof.Machine.execDecR32 r s
  | .divRm8 rm => Sys2Proof.Machine.execDivRm8 rm s
  | .divRm16 rm => Sys2Proof.Machine.execDivRm16 rm s
  | .divRm32 rm => Sys2Proof.Machine.execDivRm32 rm s
  | .idivRm8 rm => Sys2Proof.Machine.execIdivRm8 rm s
  | .idivRm16 rm => Sys2Proof.Machine.execIdivRm16 rm s
  | .idivRm32 rm => Sys2Proof.Machine.execIdivRm32 rm s
  | .imulRm8 rm => Sys2Proof.Machine.execImulRm8 rm s
  | .imulRm16 rm => Sys2Proof.Machine.execImulRm16 rm s
  | .imulRm32 rm => Sys2Proof.Machine.execImulRm32 rm s
  | .imulR16Rm16 r rm => Sys2Proof.Machine.execImulR16Rm16 r rm s
  | .imulR32Rm32 r rm => Sys2Proof.Machine.execImulR32Rm32 r rm s
  | .imulR16Rm16Imm8 r rm imm => Sys2Proof.Machine.execImulR16Rm16Imm8 r rm imm s
  | .imulR32Rm32Imm8 r rm imm => Sys2Proof.Machine.execImulR32Rm32Imm8 r rm imm s
  | .imulR16Rm16Imm16 r rm imm => Sys2Proof.Machine.execImulR16Rm16Imm16 r rm imm s
  | .imulR32Rm32Imm32 r rm imm => Sys2Proof.Machine.execImulR32Rm32Imm32 r rm imm s
  | .incRm8 rm => Sys2Proof.Machine.execIncRm8 rm s
  | .incRm16 rm => Sys2Proof.Machine.execIncRm16 rm s
  | .incRm32 rm => Sys2Proof.Machine.execIncRm32 rm s
  | .incR16 r => Sys2Proof.Machine.execIncR16 r s
  | .incR32 r => Sys2Proof.Machine.execIncR32 r s
  | .mulRm8 rm => Sys2Proof.Machine.execMulRm8 rm s
  | .mulRm16 rm => Sys2Proof.Machine.execMulRm16 rm s
  | .mulRm32 rm => Sys2Proof.Machine.execMulRm32 rm s
  | .negRm8 rm => Sys2Proof.Machine.execNegRm8 rm s
  | .negRm16 rm => Sys2Proof.Machine.execNegRm16 rm s
  | .negRm32 rm => Sys2Proof.Machine.execNegRm32 rm s
  | .sbbAlImm8 imm => Sys2Proof.Machine.execSbbAlImm8 imm s
  | .sbbAxImm16 imm => Sys2Proof.Machine.execSbbAxImm16 imm s
  | .sbbEaxImm32 imm => Sys2Proof.Machine.execSbbEaxImm32 imm s
  | .sbbRm8Imm8 rm imm => Sys2Proof.Machine.execSbbRm8Imm8 rm imm s
  | .sbbRm16Imm16 rm imm => Sys2Proof.Machine.execSbbRm16Imm16 rm imm s
  | .sbbRm32Imm32 rm imm => Sys2Proof.Machine.execSbbRm32Imm32 rm imm s
  | .sbbRm16Imm8 rm imm => Sys2Proof.Machine.execSbbRm16Imm8 rm imm s
  | .sbbRm32Imm8 rm imm => Sys2Proof.Machine.execSbbRm32Imm8 rm imm s
  | .sbbRm8R8 rm r => Sys2Proof.Machine.execSbbRm8R8 rm r s
  | .sbbRm16R16 rm r => Sys2Proof.Machine.execSbbRm16R16 rm r s
  | .sbbRm32R32 rm r => Sys2Proof.Machine.execSbbRm32R32 rm r s
  | .sbbR8Rm8 r rm => Sys2Proof.Machine.execSbbR8Rm8 r rm s
  | .sbbR16Rm16 r rm => Sys2Proof.Machine.execSbbR16Rm16 r rm s
  | .sbbR32Rm32 r rm => Sys2Proof.Machine.execSbbR32Rm32 r rm s
  | .subAlImm8 imm => Sys2Proof.Machine.execSubAlImm8 imm s
  | .subAxImm16 imm => Sys2Proof.Machine.execSubAxImm16 imm s
  | .subEaxImm32 imm => Sys2Proof.Machine.execSubEaxImm32 imm s
  | .subRm8Imm8 rm imm => Sys2Proof.Machine.execSubRm8Imm8 rm imm s
  | .subRm16Imm16 rm imm => Sys2Proof.Machine.execSubRm16Imm16 rm imm s
  | .subRm32Imm32 rm imm => Sys2Proof.Machine.execSubRm32Imm32 rm imm s
  | .subRm16Imm8 rm imm => Sys2Proof.Machine.execSubRm16Imm8 rm imm s
  | .subRm32Imm8 rm imm => Sys2Proof.Machine.execSubRm32Imm8 rm imm s
  | .subRm8R8 rm r => Sys2Proof.Machine.execSubRm8R8 rm r s
  | .subRm16R16 rm r => Sys2Proof.Machine.execSubRm16R16 rm r s
  | .subRm32R32 rm r => Sys2Proof.Machine.execSubRm32R32 rm r s
  | .subR8Rm8 r rm => Sys2Proof.Machine.execSubR8Rm8 r rm s
  | .subR16Rm16 r rm => Sys2Proof.Machine.execSubR16Rm16 r rm s
  | .subR32Rm32 r rm => Sys2Proof.Machine.execSubR32Rm32 r rm s
  | .andAlImm8 imm => Sys2Proof.Machine.execAndAlImm8 imm s
  | .andAxImm16 imm => Sys2Proof.Machine.execAndAxImm16 imm s
  | .andEaxImm32 imm => Sys2Proof.Machine.execAndEaxImm32 imm s
  | .andRm8Imm8 rm imm => Sys2Proof.Machine.execAndRm8Imm8 rm imm s
  | .andRm16Imm16 rm imm => Sys2Proof.Machine.execAndRm16Imm16 rm imm s
  | .andRm32Imm32 rm imm => Sys2Proof.Machine.execAndRm32Imm32 rm imm s
  | .andRm16Imm8 rm imm => Sys2Proof.Machine.execAndRm16Imm8 rm imm s
  | .andRm32Imm8 rm imm => Sys2Proof.Machine.execAndRm32Imm8 rm imm s
  | .andRm8R8 rm r => Sys2Proof.Machine.execAndRm8R8 rm r s
  | .andRm16R16 rm r => Sys2Proof.Machine.execAndRm16R16 rm r s
  | .andRm32R32 rm r => Sys2Proof.Machine.execAndRm32R32 rm r s
  | .andR8Rm8 r rm => Sys2Proof.Machine.execAndR8Rm8 r rm s
  | .andR16Rm16 r rm => Sys2Proof.Machine.execAndR16Rm16 r rm s
  | .andR32Rm32 r rm => Sys2Proof.Machine.execAndR32Rm32 r rm s
  | .bsfR16Rm16 r rm => Sys2Proof.Machine.execBsfR16Rm16 r rm s
  | .bsfR32Rm32 r rm => Sys2Proof.Machine.execBsfR32Rm32 r rm s
  | .bsrR16Rm16 r rm => Sys2Proof.Machine.execBsrR16Rm16 r rm s
  | .bsrR32Rm32 r rm => Sys2Proof.Machine.execBsrR32Rm32 r rm s
  | .btRm16R16 rm r => Sys2Proof.Machine.execBtRm16R16 rm r s
  | .btRm32R32 rm r => Sys2Proof.Machine.execBtRm32R32 rm r s
  | .btRm16Imm8 rm imm => Sys2Proof.Machine.execBtRm16Imm8 rm imm s
  | .btRm32Imm8 rm imm => Sys2Proof.Machine.execBtRm32Imm8 rm imm s
  | .btcRm16R16 rm r => Sys2Proof.Machine.execBtcRm16R16 rm r s
  | .btcRm32R32 rm r => Sys2Proof.Machine.execBtcRm32R32 rm r s
  | .btcRm16Imm8 rm imm => Sys2Proof.Machine.execBtcRm16Imm8 rm imm s
  | .btcRm32Imm8 rm imm => Sys2Proof.Machine.execBtcRm32Imm8 rm imm s
  | .btrRm16R16 rm r => Sys2Proof.Machine.execBtrRm16R16 rm r s
  | .btrRm32R32 rm r => Sys2Proof.Machine.execBtrRm32R32 rm r s
  | .btrRm16Imm8 rm imm => Sys2Proof.Machine.execBtrRm16Imm8 rm imm s
  | .btrRm32Imm8 rm imm => Sys2Proof.Machine.execBtrRm32Imm8 rm imm s
  | .btsRm16R16 rm r => Sys2Proof.Machine.execBtsRm16R16 rm r s
  | .btsRm32R32 rm r => Sys2Proof.Machine.execBtsRm32R32 rm r s
  | .btsRm16Imm8 rm imm => Sys2Proof.Machine.execBtsRm16Imm8 rm imm s
  | .btsRm32Imm8 rm imm => Sys2Proof.Machine.execBtsRm32Imm8 rm imm s
  | .notRm8 rm => Sys2Proof.Machine.execNotRm8 rm s
  | .notRm16 rm => Sys2Proof.Machine.execNotRm16 rm s
  | .notRm32 rm => Sys2Proof.Machine.execNotRm32 rm s
  | .orAlImm8 imm => Sys2Proof.Machine.execOrAlImm8 imm s
  | .orAxImm16 imm => Sys2Proof.Machine.execOrAxImm16 imm s
  | .orEaxImm32 imm => Sys2Proof.Machine.execOrEaxImm32 imm s
  | .orRm8Imm8 rm imm => Sys2Proof.Machine.execOrRm8Imm8 rm imm s
  | .orRm16Imm16 rm imm => Sys2Proof.Machine.execOrRm16Imm16 rm imm s
  | .orRm32Imm32 rm imm => Sys2Proof.Machine.execOrRm32Imm32 rm imm s
  | .orRm16Imm8 rm imm => Sys2Proof.Machine.execOrRm16Imm8 rm imm s
  | .orRm32Imm8 rm imm => Sys2Proof.Machine.execOrRm32Imm8 rm imm s
  | .orRm8R8 rm r => Sys2Proof.Machine.execOrRm8R8 rm r s
  | .orRm16R16 rm r => Sys2Proof.Machine.execOrRm16R16 rm r s
  | .orRm32R32 rm r => Sys2Proof.Machine.execOrRm32R32 rm r s
  | .orR8Rm8 r rm => Sys2Proof.Machine.execOrR8Rm8 r rm s
  | .orR16Rm16 r rm => Sys2Proof.Machine.execOrR16Rm16 r rm s
  | .orR32Rm32 r rm => Sys2Proof.Machine.execOrR32Rm32 r rm s
  | .rolRm8One rm => Sys2Proof.Machine.execRolRm8One rm s
  | .rolRm8Cl rm => Sys2Proof.Machine.execRolRm8Cl rm s
  | .rolRm8Imm8 rm imm => Sys2Proof.Machine.execRolRm8Imm8 rm imm s
  | .rolRm16One rm => Sys2Proof.Machine.execRolRm16One rm s
  | .rolRm32One rm => Sys2Proof.Machine.execRolRm32One rm s
  | .rolRm16Cl rm => Sys2Proof.Machine.execRolRm16Cl rm s
  | .rolRm32Cl rm => Sys2Proof.Machine.execRolRm32Cl rm s
  | .rolRm16Imm8 rm imm => Sys2Proof.Machine.execRolRm16Imm8 rm imm s
  | .rolRm32Imm8 rm imm => Sys2Proof.Machine.execRolRm32Imm8 rm imm s
  | .rorRm8One rm => Sys2Proof.Machine.execRorRm8One rm s
  | .rorRm8Cl rm => Sys2Proof.Machine.execRorRm8Cl rm s
  | .rorRm8Imm8 rm imm => Sys2Proof.Machine.execRorRm8Imm8 rm imm s
  | .rorRm16One rm => Sys2Proof.Machine.execRorRm16One rm s
  | .rorRm32One rm => Sys2Proof.Machine.execRorRm32One rm s
  | .rorRm16Cl rm => Sys2Proof.Machine.execRorRm16Cl rm s
  | .rorRm32Cl rm => Sys2Proof.Machine.execRorRm32Cl rm s
  | .rorRm16Imm8 rm imm => Sys2Proof.Machine.execRorRm16Imm8 rm imm s
  | .rorRm32Imm8 rm imm => Sys2Proof.Machine.execRorRm32Imm8 rm imm s
  | .rclRm8One rm => Sys2Proof.Machine.execRclRm8One rm s
  | .rclRm8Cl rm => Sys2Proof.Machine.execRclRm8Cl rm s
  | .rclRm8Imm8 rm imm => Sys2Proof.Machine.execRclRm8Imm8 rm imm s
  | .rclRm16One rm => Sys2Proof.Machine.execRclRm16One rm s
  | .rclRm32One rm => Sys2Proof.Machine.execRclRm32One rm s
  | .rclRm16Cl rm => Sys2Proof.Machine.execRclRm16Cl rm s
  | .rclRm32Cl rm => Sys2Proof.Machine.execRclRm32Cl rm s
  | .rclRm16Imm8 rm imm => Sys2Proof.Machine.execRclRm16Imm8 rm imm s
  | .rclRm32Imm8 rm imm => Sys2Proof.Machine.execRclRm32Imm8 rm imm s
  | .rcrRm8One rm => Sys2Proof.Machine.execRcrRm8One rm s
  | .rcrRm8Cl rm => Sys2Proof.Machine.execRcrRm8Cl rm s
  | .rcrRm8Imm8 rm imm => Sys2Proof.Machine.execRcrRm8Imm8 rm imm s
  | .rcrRm16One rm => Sys2Proof.Machine.execRcrRm16One rm s
  | .rcrRm32One rm => Sys2Proof.Machine.execRcrRm32One rm s
  | .rcrRm16Cl rm => Sys2Proof.Machine.execRcrRm16Cl rm s
  | .rcrRm32Cl rm => Sys2Proof.Machine.execRcrRm32Cl rm s
  | .rcrRm16Imm8 rm imm => Sys2Proof.Machine.execRcrRm16Imm8 rm imm s
  | .rcrRm32Imm8 rm imm => Sys2Proof.Machine.execRcrRm32Imm8 rm imm s
  | .salRm8One rm => Sys2Proof.Machine.execSalRm8One rm s
  | .salRm8Cl rm => Sys2Proof.Machine.execSalRm8Cl rm s
  | .salRm8Imm8 rm imm => Sys2Proof.Machine.execSalRm8Imm8 rm imm s
  | .salRm16One rm => Sys2Proof.Machine.execSalRm16One rm s
  | .salRm32One rm => Sys2Proof.Machine.execSalRm32One rm s
  | .salRm16Cl rm => Sys2Proof.Machine.execSalRm16Cl rm s
  | .salRm32Cl rm => Sys2Proof.Machine.execSalRm32Cl rm s
  | .salRm16Imm8 rm imm => Sys2Proof.Machine.execSalRm16Imm8 rm imm s
  | .salRm32Imm8 rm imm => Sys2Proof.Machine.execSalRm32Imm8 rm imm s
  | .shrRm8One rm => Sys2Proof.Machine.execShrRm8One rm s
  | .shrRm8Cl rm => Sys2Proof.Machine.execShrRm8Cl rm s
  | .shrRm8Imm8 rm imm => Sys2Proof.Machine.execShrRm8Imm8 rm imm s
  | .shrRm16One rm => Sys2Proof.Machine.execShrRm16One rm s
  | .shrRm32One rm => Sys2Proof.Machine.execShrRm32One rm s
  | .shrRm16Cl rm => Sys2Proof.Machine.execShrRm16Cl rm s
  | .shrRm32Cl rm => Sys2Proof.Machine.execShrRm32Cl rm s
  | .shrRm16Imm8 rm imm => Sys2Proof.Machine.execShrRm16Imm8 rm imm s
  | .shrRm32Imm8 rm imm => Sys2Proof.Machine.execShrRm32Imm8 rm imm s
  | .sarRm8One rm => Sys2Proof.Machine.execSarRm8One rm s
  | .sarRm8Cl rm => Sys2Proof.Machine.execSarRm8Cl rm s
  | .sarRm8Imm8 rm imm => Sys2Proof.Machine.execSarRm8Imm8 rm imm s
  | .sarRm16One rm => Sys2Proof.Machine.execSarRm16One rm s
  | .sarRm32One rm => Sys2Proof.Machine.execSarRm32One rm s
  | .sarRm16Cl rm => Sys2Proof.Machine.execSarRm16Cl rm s
  | .sarRm32Cl rm => Sys2Proof.Machine.execSarRm32Cl rm s
  | .sarRm16Imm8 rm imm => Sys2Proof.Machine.execSarRm16Imm8 rm imm s
  | .sarRm32Imm8 rm imm => Sys2Proof.Machine.execSarRm32Imm8 rm imm s
  | .setoRm8 rm => Sys2Proof.Machine.execSetoRm8 rm s
  | .setnoRm8 rm => Sys2Proof.Machine.execSetnoRm8 rm s
  | .setbRm8 rm => Sys2Proof.Machine.execSetbRm8 rm s
  | .setaeRm8 rm => Sys2Proof.Machine.execSetaeRm8 rm s
  | .seteRm8 rm => Sys2Proof.Machine.execSeteRm8 rm s
  | .setneRm8 rm => Sys2Proof.Machine.execSetneRm8 rm s
  | .setbeRm8 rm => Sys2Proof.Machine.execSetbeRm8 rm s
  | .setaRm8 rm => Sys2Proof.Machine.execSetaRm8 rm s
  | .setsRm8 rm => Sys2Proof.Machine.execSetsRm8 rm s
  | .setnsRm8 rm => Sys2Proof.Machine.execSetnsRm8 rm s
  | .setpRm8 rm => Sys2Proof.Machine.execSetpRm8 rm s
  | .setnpRm8 rm => Sys2Proof.Machine.execSetnpRm8 rm s
  | .setlRm8 rm => Sys2Proof.Machine.execSetlRm8 rm s
  | .setgeRm8 rm => Sys2Proof.Machine.execSetgeRm8 rm s
  | .setleRm8 rm => Sys2Proof.Machine.execSetleRm8 rm s
  | .setgRm8 rm => Sys2Proof.Machine.execSetgRm8 rm s
  | .shldRm16R16Imm8 rm r imm => Sys2Proof.Machine.execShldRm16R16Imm8 rm r imm s
  | .shldRm32R32Imm8 rm r imm => Sys2Proof.Machine.execShldRm32R32Imm8 rm r imm s
  | .shldRm16R16Cl rm r => Sys2Proof.Machine.execShldRm16R16Cl rm r s
  | .shldRm32R32Cl rm r => Sys2Proof.Machine.execShldRm32R32Cl rm r s
  | .shrdRm16R16Imm8 rm r imm => Sys2Proof.Machine.execShrdRm16R16Imm8 rm r imm s
  | .shrdRm32R32Imm8 rm r imm => Sys2Proof.Machine.execShrdRm32R32Imm8 rm r imm s
  | .shrdRm16R16Cl rm r => Sys2Proof.Machine.execShrdRm16R16Cl rm r s
  | .shrdRm32R32Cl rm r => Sys2Proof.Machine.execShrdRm32R32Cl rm r s
  | .testAlImm8 imm => Sys2Proof.Machine.execTestAlImm8 imm s
  | .testAxImm16 imm => Sys2Proof.Machine.execTestAxImm16 imm s
  | .testEaxImm32 imm => Sys2Proof.Machine.execTestEaxImm32 imm s
  | .testRm8Imm8 rm imm => Sys2Proof.Machine.execTestRm8Imm8 rm imm s
  | .testRm16Imm16 rm imm => Sys2Proof.Machine.execTestRm16Imm16 rm imm s
  | .testRm32Imm32 rm imm => Sys2Proof.Machine.execTestRm32Imm32 rm imm s
  | .testRm8R8 rm r => Sys2Proof.Machine.execTestRm8R8 rm r s
  | .testRm16R16 rm r => Sys2Proof.Machine.execTestRm16R16 rm r s
  | .testRm32R32 rm r => Sys2Proof.Machine.execTestRm32R32 rm r s
  | .xorAlImm8 imm => Sys2Proof.Machine.execXorAlImm8 imm s
  | .xorAxImm16 imm => Sys2Proof.Machine.execXorAxImm16 imm s
  | .xorEaxImm32 imm => Sys2Proof.Machine.execXorEaxImm32 imm s
  | .xorRm8Imm8 rm imm => Sys2Proof.Machine.execXorRm8Imm8 rm imm s
  | .xorRm16Imm16 rm imm => Sys2Proof.Machine.execXorRm16Imm16 rm imm s
  | .xorRm32Imm32 rm imm => Sys2Proof.Machine.execXorRm32Imm32 rm imm s
  | .xorRm16Imm8 rm imm => Sys2Proof.Machine.execXorRm16Imm8 rm imm s
  | .xorRm32Imm8 rm imm => Sys2Proof.Machine.execXorRm32Imm8 rm imm s
  | .xorRm8R8 rm r => Sys2Proof.Machine.execXorRm8R8 rm r s
  | .xorRm16R16 rm r => Sys2Proof.Machine.execXorRm16R16 rm r s
  | .xorRm32R32 rm r => Sys2Proof.Machine.execXorRm32R32 rm r s
  | .xorR8Rm8 r rm => Sys2Proof.Machine.execXorR8Rm8 r rm s
  | .xorR16Rm16 r rm => Sys2Proof.Machine.execXorR16Rm16 r rm s
  | .xorR32Rm32 r rm => Sys2Proof.Machine.execXorR32Rm32 r rm s
  | .callRel16 rel => Sys2Proof.Machine.execCallRel16 rel s
  | .callRel32 rel => Sys2Proof.Machine.execCallRel32 rel s
  | .callRm16 rm => Sys2Proof.Machine.execCallRm16 rm s
  | .callRm32 rm => Sys2Proof.Machine.execCallRm32 rm s
  | .callPtr16x16 sel off => Sys2Proof.Machine.execCallPtr16x16 sel off s
  | .callPtr16x32 sel off => Sys2Proof.Machine.execCallPtr16x32 sel off s
  | .callM16x16 ea => Sys2Proof.Machine.execCallM16x16 ea s
  | .callM16x32 ea => Sys2Proof.Machine.execCallM16x32 ea s
  | .int3 => Sys2Proof.Machine.execInt3 s
  | .intImm8 imm => Sys2Proof.Machine.execIntImm8 imm s
  | .into => Sys2Proof.Machine.execInto s
  | .iret => Sys2Proof.Machine.execIret s
  | .iretd => Sys2Proof.Machine.execIretd s
  | .joRel8 rel => Sys2Proof.Machine.execJoRel8 rel s
  | .jnoRel8 rel => Sys2Proof.Machine.execJnoRel8 rel s
  | .jbRel8 rel => Sys2Proof.Machine.execJbRel8 rel s
  | .jaeRel8 rel => Sys2Proof.Machine.execJaeRel8 rel s
  | .jeRel8 rel => Sys2Proof.Machine.execJeRel8 rel s
  | .jneRel8 rel => Sys2Proof.Machine.execJneRel8 rel s
  | .jbeRel8 rel => Sys2Proof.Machine.execJbeRel8 rel s
  | .jaRel8 rel => Sys2Proof.Machine.execJaRel8 rel s
  | .jsRel8 rel => Sys2Proof.Machine.execJsRel8 rel s
  | .jnsRel8 rel => Sys2Proof.Machine.execJnsRel8 rel s
  | .jpRel8 rel => Sys2Proof.Machine.execJpRel8 rel s
  | .jnpRel8 rel => Sys2Proof.Machine.execJnpRel8 rel s
  | .jlRel8 rel => Sys2Proof.Machine.execJlRel8 rel s
  | .jgeRel8 rel => Sys2Proof.Machine.execJgeRel8 rel s
  | .jleRel8 rel => Sys2Proof.Machine.execJleRel8 rel s
  | .jgRel8 rel => Sys2Proof.Machine.execJgRel8 rel s
  | .joRel16 rel => Sys2Proof.Machine.execJoRel16 rel s
  | .jnoRel16 rel => Sys2Proof.Machine.execJnoRel16 rel s
  | .jbRel16 rel => Sys2Proof.Machine.execJbRel16 rel s
  | .jaeRel16 rel => Sys2Proof.Machine.execJaeRel16 rel s
  | .jeRel16 rel => Sys2Proof.Machine.execJeRel16 rel s
  | .jneRel16 rel => Sys2Proof.Machine.execJneRel16 rel s
  | .jbeRel16 rel => Sys2Proof.Machine.execJbeRel16 rel s
  | .jaRel16 rel => Sys2Proof.Machine.execJaRel16 rel s
  | .jsRel16 rel => Sys2Proof.Machine.execJsRel16 rel s
  | .jnsRel16 rel => Sys2Proof.Machine.execJnsRel16 rel s
  | .jpRel16 rel => Sys2Proof.Machine.execJpRel16 rel s
  | .jnpRel16 rel => Sys2Proof.Machine.execJnpRel16 rel s
  | .jlRel16 rel => Sys2Proof.Machine.execJlRel16 rel s
  | .jgeRel16 rel => Sys2Proof.Machine.execJgeRel16 rel s
  | .jleRel16 rel => Sys2Proof.Machine.execJleRel16 rel s
  | .jgRel16 rel => Sys2Proof.Machine.execJgRel16 rel s
  | .joRel32 rel => Sys2Proof.Machine.execJoRel32 rel s
  | .jnoRel32 rel => Sys2Proof.Machine.execJnoRel32 rel s
  | .jbRel32 rel => Sys2Proof.Machine.execJbRel32 rel s
  | .jaeRel32 rel => Sys2Proof.Machine.execJaeRel32 rel s
  | .jeRel32 rel => Sys2Proof.Machine.execJeRel32 rel s
  | .jneRel32 rel => Sys2Proof.Machine.execJneRel32 rel s
  | .jbeRel32 rel => Sys2Proof.Machine.execJbeRel32 rel s
  | .jaRel32 rel => Sys2Proof.Machine.execJaRel32 rel s
  | .jsRel32 rel => Sys2Proof.Machine.execJsRel32 rel s
  | .jnsRel32 rel => Sys2Proof.Machine.execJnsRel32 rel s
  | .jpRel32 rel => Sys2Proof.Machine.execJpRel32 rel s
  | .jnpRel32 rel => Sys2Proof.Machine.execJnpRel32 rel s
  | .jlRel32 rel => Sys2Proof.Machine.execJlRel32 rel s
  | .jgeRel32 rel => Sys2Proof.Machine.execJgeRel32 rel s
  | .jleRel32 rel => Sys2Proof.Machine.execJleRel32 rel s
  | .jgRel32 rel => Sys2Proof.Machine.execJgRel32 rel s
  | .jcxzRel8 rel => Sys2Proof.Machine.execJcxzRel8 rel s
  | .jecxzRel8 rel => Sys2Proof.Machine.execJecxzRel8 rel s
  | .jmpRel8 rel => Sys2Proof.Machine.execJmpRel8 rel s
  | .jmpRel16 rel => Sys2Proof.Machine.execJmpRel16 rel s
  | .jmpRel32 rel => Sys2Proof.Machine.execJmpRel32 rel s
  | .jmpRm16 rm => Sys2Proof.Machine.execJmpRm16 rm s
  | .jmpRm32 rm => Sys2Proof.Machine.execJmpRm32 rm s
  | .jmpPtr16x16 sel off => Sys2Proof.Machine.execJmpPtr16x16 sel off s
  | .jmpPtr16x32 sel off => Sys2Proof.Machine.execJmpPtr16x32 sel off s
  | .jmpM16x16 ea => Sys2Proof.Machine.execJmpM16x16 ea s
  | .jmpM16x32 ea => Sys2Proof.Machine.execJmpM16x32 ea s
  | .retNear => Sys2Proof.Machine.execRetNear s
  | .retNearImm16 imm => Sys2Proof.Machine.execRetNearImm16 imm s
  | .retFar => Sys2Proof.Machine.execRetFar s
  | .retFarImm16 imm => Sys2Proof.Machine.execRetFarImm16 imm s
  | .boundR16M16a16 r ea => Sys2Proof.Machine.execBoundR16M16a16 r ea s
  | .boundR32M32a32 r ea => Sys2Proof.Machine.execBoundR32M32a32 r ea s
  | .enterImm16Imm8 size level => Sys2Proof.Machine.execEnterImm16Imm8 size level s
  | .leave => Sys2Proof.Machine.execLeave s
  | .loopRel8 rel => Sys2Proof.Machine.execLoopRel8 rel s
  | .loopeRel8 rel => Sys2Proof.Machine.execLoopeRel8 rel s
  | .loopneRel8 rel => Sys2Proof.Machine.execLoopneRel8 rel s
  | .ud2 => Sys2Proof.Machine.execUd2 s
  | .cmpsb => Sys2Proof.Machine.execCmpsb s
  | .cmpsw => Sys2Proof.Machine.execCmpsw s
  | .cmpsd => Sys2Proof.Machine.execCmpsd s
  | .inAlImm8 imm => Sys2Proof.Machine.execInAlImm8 imm s
  | .inAxImm8 imm => Sys2Proof.Machine.execInAxImm8 imm s
  | .inEaxImm8 imm => Sys2Proof.Machine.execInEaxImm8 imm s
  | .inAlDx => Sys2Proof.Machine.execInAlDx s
  | .inAxDx => Sys2Proof.Machine.execInAxDx s
  | .inEaxDx => Sys2Proof.Machine.execInEaxDx s
  | .insb => Sys2Proof.Machine.execInsb s
  | .insw => Sys2Proof.Machine.execInsw s
  | .insd => Sys2Proof.Machine.execInsd s
  | .lodsb => Sys2Proof.Machine.execLodsb s
  | .lodsw => Sys2Proof.Machine.execLodsw s
  | .lodsd => Sys2Proof.Machine.execLodsd s
  | .movsb => Sys2Proof.Machine.execMovsb s
  | .movsw => Sys2Proof.Machine.execMovsw s
  | .movsd => Sys2Proof.Machine.execMovsd s
  | .outImm8Al imm => Sys2Proof.Machine.execOutImm8Al imm s
  | .outImm8Ax imm => Sys2Proof.Machine.execOutImm8Ax imm s
  | .outImm8Eax imm => Sys2Proof.Machine.execOutImm8Eax imm s
  | .outDxAl => Sys2Proof.Machine.execOutDxAl s
  | .outDxAx => Sys2Proof.Machine.execOutDxAx s
  | .outDxEax => Sys2Proof.Machine.execOutDxEax s
  | .outsb => Sys2Proof.Machine.execOutsb s
  | .outsw => Sys2Proof.Machine.execOutsw s
  | .outsd => Sys2Proof.Machine.execOutsd s
  | .scasb => Sys2Proof.Machine.execScasb s
  | .scasw => Sys2Proof.Machine.execScasw s
  | .scasd => Sys2Proof.Machine.execScasd s
  | .stosb => Sys2Proof.Machine.execStosb s
  | .stosw => Sys2Proof.Machine.execStosw s
  | .stosd => Sys2Proof.Machine.execStosd s
  | .clc => Sys2Proof.Machine.execClc s
  | .cld => Sys2Proof.Machine.execCld s
  | .cli => Sys2Proof.Machine.execCli s
  | .cmc => Sys2Proof.Machine.execCmc s
  | .lahf => Sys2Proof.Machine.execLahf s
  | .ldsR16M16x16 r ea => Sys2Proof.Machine.execLdsR16M16x16 r ea s
  | .ldsR32M16x32 r ea => Sys2Proof.Machine.execLdsR32M16x32 r ea s
  | .lssR16M16x16 r ea => Sys2Proof.Machine.execLssR16M16x16 r ea s
  | .lssR32M16x32 r ea => Sys2Proof.Machine.execLssR32M16x32 r ea s
  | .lesR16M16x16 r ea => Sys2Proof.Machine.execLesR16M16x16 r ea s
  | .lesR32M16x32 r ea => Sys2Proof.Machine.execLesR32M16x32 r ea s
  | .lfsR16M16x16 r ea => Sys2Proof.Machine.execLfsR16M16x16 r ea s
  | .lfsR32M16x32 r ea => Sys2Proof.Machine.execLfsR32M16x32 r ea s
  | .lgsR16M16x16 r ea => Sys2Proof.Machine.execLgsR16M16x16 r ea s
  | .lgsR32M16x32 r ea => Sys2Proof.Machine.execLgsR32M16x32 r ea s
  | .leaR16M r ea => Sys2Proof.Machine.execLeaR16M r ea s
  | .leaR32M r ea => Sys2Proof.Machine.execLeaR32M r ea s
  | .cpuid => Sys2Proof.Machine.execCpuid s
  | .nop => Sys2Proof.Machine.execNop s
  | .popf => Sys2Proof.Machine.execPopf s
  | .popfd => Sys2Proof.Machine.execPopfd s
  | .pushf => Sys2Proof.Machine.execPushf s
  | .pushfd => Sys2Proof.Machine.execPushfd s
  | .sahf => Sys2Proof.Machine.execSahf s
  | .stc => Sys2Proof.Machine.execStc s
  | .std => Sys2Proof.Machine.execStd s
  | .sti => Sys2Proof.Machine.execSti s
  | .feni => Sys2Proof.Machine.execFeni s
  | .fdisi => Sys2Proof.Machine.execFdisi s
  | .fsetpm => Sys2Proof.Machine.execFsetpm s
  | .fbldM80dec ea => Sys2Proof.Machine.execFbldM80dec ea s
  | .fbstpM80bcd ea => Sys2Proof.Machine.execFbstpM80bcd ea s
  | .fcmovbSt0Sti r => Sys2Proof.Machine.execFcmovbSt0Sti r s
  | .fcmoveSt0Sti r => Sys2Proof.Machine.execFcmoveSt0Sti r s
  | .fcmovbeSt0Sti r => Sys2Proof.Machine.execFcmovbeSt0Sti r s
  | .fcmovuSt0Sti r => Sys2Proof.Machine.execFcmovuSt0Sti r s
  | .fcmovnbSt0Sti r => Sys2Proof.Machine.execFcmovnbSt0Sti r s
  | .fcmovneSt0Sti r => Sys2Proof.Machine.execFcmovneSt0Sti r s
  | .fcmovnbeSt0Sti r => Sys2Proof.Machine.execFcmovnbeSt0Sti r s
  | .fcmovnuSt0Sti r => Sys2Proof.Machine.execFcmovnuSt0Sti r s
  | .fcomM32real ea => Sys2Proof.Machine.execFcomM32real ea s
  | .fcomM64real ea => Sys2Proof.Machine.execFcomM64real ea s
  | .fcomSti r => Sys2Proof.Machine.execFcomSti r s
  | .fcompM32real ea => Sys2Proof.Machine.execFcompM32real ea s
  | .fcompM64real ea => Sys2Proof.Machine.execFcompM64real ea s
  | .fcompSti r => Sys2Proof.Machine.execFcompSti r s
  | .fcompp => Sys2Proof.Machine.execFcompp s
  | .fcomiSt0Sti r => Sys2Proof.Machine.execFcomiSt0Sti r s
  | .fcomipSt0Sti r => Sys2Proof.Machine.execFcomipSt0Sti r s
  | .fucomiSt0Sti r => Sys2Proof.Machine.execFucomiSt0Sti r s
  | .fucomipSt0Sti r => Sys2Proof.Machine.execFucomipSt0Sti r s
  | .ficomM16int ea => Sys2Proof.Machine.execFicomM16int ea s
  | .ficomM32int ea => Sys2Proof.Machine.execFicomM32int ea s
  | .ficompM16int ea => Sys2Proof.Machine.execFicompM16int ea s
  | .ficompM32int ea => Sys2Proof.Machine.execFicompM32int ea s
  | .fildM16int ea => Sys2Proof.Machine.execFildM16int ea s
  | .fildM32int ea => Sys2Proof.Machine.execFildM32int ea s
  | .fildM64int ea => Sys2Proof.Machine.execFildM64int ea s
  | .fistM16int ea => Sys2Proof.Machine.execFistM16int ea s
  | .fistM32int ea => Sys2Proof.Machine.execFistM32int ea s
  | .fistpM16int ea => Sys2Proof.Machine.execFistpM16int ea s
  | .fistpM32int ea => Sys2Proof.Machine.execFistpM32int ea s
  | .fistpM64int ea => Sys2Proof.Machine.execFistpM64int ea s
  | .fldM32real ea => Sys2Proof.Machine.execFldM32real ea s
  | .fldM64real ea => Sys2Proof.Machine.execFldM64real ea s
  | .fldM80real ea => Sys2Proof.Machine.execFldM80real ea s
  | .fldSti r => Sys2Proof.Machine.execFldSti r s
  | .fld1 => Sys2Proof.Machine.execFld1 s
  | .fldl2t => Sys2Proof.Machine.execFldl2t s
  | .fldl2e => Sys2Proof.Machine.execFldl2e s
  | .fldpi => Sys2Proof.Machine.execFldpi s
  | .fldlg2 => Sys2Proof.Machine.execFldlg2 s
  | .fldln2 => Sys2Proof.Machine.execFldln2 s
  | .fldz => Sys2Proof.Machine.execFldz s
  | .fstM32real ea => Sys2Proof.Machine.execFstM32real ea s
  | .fstM64real ea => Sys2Proof.Machine.execFstM64real ea s
  | .fstSti r => Sys2Proof.Machine.execFstSti r s
  | .fstpM32real ea => Sys2Proof.Machine.execFstpM32real ea s
  | .fstpM64real ea => Sys2Proof.Machine.execFstpM64real ea s
  | .fstpM80real ea => Sys2Proof.Machine.execFstpM80real ea s
  | .fstpSti r => Sys2Proof.Machine.execFstpSti r s
  | .ftst => Sys2Proof.Machine.execFtst s
  | .fucomSti r => Sys2Proof.Machine.execFucomSti r s
  | .fucompSti r => Sys2Proof.Machine.execFucompSti r s
  | .fucompp => Sys2Proof.Machine.execFucompp s
  | .fxam => Sys2Proof.Machine.execFxam s
  | .fxchSti r => Sys2Proof.Machine.execFxchSti r s
  | .fabs => Sys2Proof.Machine.execFabs s
  | .faddM32real ea => Sys2Proof.Machine.execFaddM32real ea s
  | .faddM64real ea => Sys2Proof.Machine.execFaddM64real ea s
  | .faddSt0Sti r => Sys2Proof.Machine.execFaddSt0Sti r s
  | .faddStiSt0 r => Sys2Proof.Machine.execFaddStiSt0 r s
  | .faddpStiSt0 r => Sys2Proof.Machine.execFaddpStiSt0 r s
  | .fiaddM32int ea => Sys2Proof.Machine.execFiaddM32int ea s
  | .fiaddM16int ea => Sys2Proof.Machine.execFiaddM16int ea s
  | .fchs => Sys2Proof.Machine.execFchs s
  | .fdivM32real ea => Sys2Proof.Machine.execFdivM32real ea s
  | .fdivM64real ea => Sys2Proof.Machine.execFdivM64real ea s
  | .fdivSt0Sti r => Sys2Proof.Machine.execFdivSt0Sti r s
  | .fdivStiSt0 r => Sys2Proof.Machine.execFdivStiSt0 r s
  | .fdivpStiSt0 r => Sys2Proof.Machine.execFdivpStiSt0 r s
  | .fidivM32int ea => Sys2Proof.Machine.execFidivM32int ea s
  | .fidivM16int ea => Sys2Proof.Machine.execFidivM16int ea s
  | .fdivrM32real ea => Sys2Proof.Machine.execFdivrM32real ea s
  | .fdivrM64real ea => Sys2Proof.Machine.execFdivrM64real ea s
  | .fdivrSt0Sti r => Sys2Proof.Machine.execFdivrSt0Sti r s
  | .fdivrStiSt0 r => Sys2Proof.Machine.execFdivrStiSt0 r s
  | .fdivrpStiSt0 r => Sys2Proof.Machine.execFdivrpStiSt0 r s
  | .fidivrM32int ea => Sys2Proof.Machine.execFidivrM32int ea s
  | .fidivrM16int ea => Sys2Proof.Machine.execFidivrM16int ea s
  | .fmulM32real ea => Sys2Proof.Machine.execFmulM32real ea s
  | .fmulM64real ea => Sys2Proof.Machine.execFmulM64real ea s
  | .fmulSt0Sti r => Sys2Proof.Machine.execFmulSt0Sti r s
  | .fmulStiSt0 r => Sys2Proof.Machine.execFmulStiSt0 r s
  | .fmulpStiSt0 r => Sys2Proof.Machine.execFmulpStiSt0 r s
  | .fimulM32int ea => Sys2Proof.Machine.execFimulM32int ea s
  | .fimulM16int ea => Sys2Proof.Machine.execFimulM16int ea s
  | .fprem => Sys2Proof.Machine.execFprem s
  | .fprem1 => Sys2Proof.Machine.execFprem1 s
  | .frndint => Sys2Proof.Machine.execFrndint s
  | .fscale => Sys2Proof.Machine.execFscale s
  | .fsqrt => Sys2Proof.Machine.execFsqrt s
  | .fsubM32real ea => Sys2Proof.Machine.execFsubM32real ea s
  | .fsubM64real ea => Sys2Proof.Machine.execFsubM64real ea s
  | .fsubSt0Sti r => Sys2Proof.Machine.execFsubSt0Sti r s
  | .fsubStiSt0 r => Sys2Proof.Machine.execFsubStiSt0 r s
  | .fsubpStiSt0 r => Sys2Proof.Machine.execFsubpStiSt0 r s
  | .fisubM32int ea => Sys2Proof.Machine.execFisubM32int ea s
  | .fisubM16int ea => Sys2Proof.Machine.execFisubM16int ea s
  | .fsubrM32real ea => Sys2Proof.Machine.execFsubrM32real ea s
  | .fsubrM64real ea => Sys2Proof.Machine.execFsubrM64real ea s
  | .fsubrSt0Sti r => Sys2Proof.Machine.execFsubrSt0Sti r s
  | .fsubrStiSt0 r => Sys2Proof.Machine.execFsubrStiSt0 r s
  | .fsubrpStiSt0 r => Sys2Proof.Machine.execFsubrpStiSt0 r s
  | .fisubrM32int ea => Sys2Proof.Machine.execFisubrM32int ea s
  | .fisubrM16int ea => Sys2Proof.Machine.execFisubrM16int ea s
  | .fxtract => Sys2Proof.Machine.execFxtract s
  | .f2xm1 => Sys2Proof.Machine.execF2xm1 s
  | .fcos => Sys2Proof.Machine.execFcos s
  | .fpatan => Sys2Proof.Machine.execFpatan s
  | .fptan => Sys2Proof.Machine.execFptan s
  | .fsin => Sys2Proof.Machine.execFsin s
  | .fsincos => Sys2Proof.Machine.execFsincos s
  | .fyl2x => Sys2Proof.Machine.execFyl2x s
  | .fyl2xp1 => Sys2Proof.Machine.execFyl2xp1 s
  | .fnclex => Sys2Proof.Machine.execFnclex s
  | .fclex => Sys2Proof.Machine.execFclex s
  | .fdecstp => Sys2Proof.Machine.execFdecstp s
  | .ffreeSti r => Sys2Proof.Machine.execFfreeSti r s
  | .fincstp => Sys2Proof.Machine.execFincstp s
  | .fninit => Sys2Proof.Machine.execFninit s
  | .finit => Sys2Proof.Machine.execFinit s
  | .fldcwM2byte ea => Sys2Proof.Machine.execFldcwM2byte ea s
  | .fldenvMEnv ea => Sys2Proof.Machine.execFldenvMEnv ea s
  | .fnop => Sys2Proof.Machine.execFnop s
  | .frstorMState ea => Sys2Proof.Machine.execFrstorMState ea s
  | .fnsaveMState ea => Sys2Proof.Machine.execFnsaveMState ea s
  | .fsaveMState ea => Sys2Proof.Machine.execFsaveMState ea s
  | .fnstcwM2byte ea => Sys2Proof.Machine.execFnstcwM2byte ea s
  | .fstcwM2byte ea => Sys2Proof.Machine.execFstcwM2byte ea s
  | .fnstenvMEnv ea => Sys2Proof.Machine.execFnstenvMEnv ea s
  | .fstenvMEnv ea => Sys2Proof.Machine.execFstenvMEnv ea s
  | .fnstswM2byte ea => Sys2Proof.Machine.execFnstswM2byte ea s
  | .fnstswAx => Sys2Proof.Machine.execFnstswAx s
  | .fstswM2byte ea => Sys2Proof.Machine.execFstswM2byte ea s
  | .fstswAx => Sys2Proof.Machine.execFstswAx s
  | .wait => Sys2Proof.Machine.execWait s
  | .arplRm16R16 rm r => Sys2Proof.Machine.execArplRm16R16 rm r s
  | .clts => Sys2Proof.Machine.execClts s
  | .hlt => Sys2Proof.Machine.execHlt s
  | .invd => Sys2Proof.Machine.execInvd s
  | .invlpgM ea => Sys2Proof.Machine.execInvlpgM ea s
  | .larR16Rm16 r rm => Sys2Proof.Machine.execLarR16Rm16 r rm s
  | .larR32Rm32 r rm => Sys2Proof.Machine.execLarR32Rm32 r rm s
  | .lgdtM16a32 ea => Sys2Proof.Machine.execLgdtM16a32 ea s
  | .lidtM16a32 ea => Sys2Proof.Machine.execLidtM16a32 ea s
  | .lldtRm16 rm => Sys2Proof.Machine.execLldtRm16 rm s
  | .lmswRm16 rm => Sys2Proof.Machine.execLmswRm16 rm s
  | .lslR16Rm16 r rm => Sys2Proof.Machine.execLslR16Rm16 r rm s
  | .lslR32Rm32 r rm => Sys2Proof.Machine.execLslR32Rm32 r rm s
  | .ltrRm16 rm => Sys2Proof.Machine.execLtrRm16 rm s
  | .movCRnR32 n r => Sys2Proof.Machine.execMovCRnR32 n r s
  | .movR32CRn r n => Sys2Proof.Machine.execMovR32CRn r n s
  | .movR32DRn r n => Sys2Proof.Machine.execMovR32DRn r n s
  | .movDRnR32 n r => Sys2Proof.Machine.execMovDRnR32 n r s
  | .rdmsr => Sys2Proof.Machine.execRdmsr s
  | .rdpmc => Sys2Proof.Machine.execRdpmc s
  | .rdtsc => Sys2Proof.Machine.execRdtsc s
  | .rsm => Sys2Proof.Machine.execRsm s
  | .sgdtM ea => Sys2Proof.Machine.execSgdtM ea s
  | .sidtM ea => Sys2Proof.Machine.execSidtM ea s
  | .sldtRm16 rm => Sys2Proof.Machine.execSldtRm16 rm s
  | .sldtRm32 rm => Sys2Proof.Machine.execSldtRm32 rm s
  | .smswRm16 rm => Sys2Proof.Machine.execSmswRm16 rm s
  | .smswR32M16 rm => Sys2Proof.Machine.execSmswR32M16 rm s
  | .strRm16 rm => Sys2Proof.Machine.execStrRm16 rm s
  | .verrRm16 rm => Sys2Proof.Machine.execVerrRm16 rm s
  | .verwRm16 rm => Sys2Proof.Machine.execVerwRm16 rm s
  | .wbinvd => Sys2Proof.Machine.execWbinvd s
  | .wrmsr => Sys2Proof.Machine.execWrmsr s

end Sys2Proof.Machine
end

