-- ==== Sys2Proof/Machine/Fetch.lean ====
section
/-! DEFINITION. Fetching an instruction's bytes through CS (20_memory.md R136; 30_encoding.md R171), and what the
decoder's answers that are no instruction mean (R230, D83). -/

namespace Sys2Proof.Machine

/-- The offsets of the instruction's bytes have gone past FFFFFFFFH: none is left (20_memory.md R136, D52). -/
def State.spent (s : State) : Bool := decide (2 ^ 32 ≤ s.eip.toNat + (s.nextEip - s.eip).toNat)

/-- The bytes the decoder may look at: at most 15 from the cursor on (R171), or what is left of a repeated string
instruction in progress (R155). -/
def State.window (s : State) : List Byte :=
  match s.repCode with
  | none => if s.spent then [] else s.fetchWindow s.nextEip 15
  | some code => code.drop (s.nextEip - s.eip).toNat

/-- The context of decoding (10_state.md R41). -/
def State.ctx (s : State) : Ctx := { os32 := s.os32, as32 := s.as32, plain := s.pfx == noPrefixes }

/-- Is the instruction one of the eleven prefix bytes (R172)? -/
def isPrefix : Instr → Bool
  | .lock => true
  | .repne => true
  | .rep => true
  | .segCs => true
  | .segSs => true
  | .segDs => true
  | .segEs => true
  | .segFs => true
  | .segGs => true
  | .opSize => true
  | .addrSize => true
  | _ => false

/-- The state in which an instruction begins: no prefix read, the cursor at its first byte. -/
def State.begin (s : State) : State := { s with nextEip := s.eip, pfx := noPrefixes }

/-- The cursor moved past `n` bytes, modulo 2^32 (D52). -/
def State.past (s : State) (n : Nat) : State := { s with nextEip := s.nextEip + BitVec.ofNat 32 n }

/-- The next `n` bytes of the instruction are fetched and the cursor moves past them. Code on a device is one event of their
length, but for an iteration of a repeated string instruction, which goes on with the bytes of its first one (20_memory.md
R155, R162; log 56). -/
def State.fetched (s : State) (n : Nat) : State :=
  match s.repCode with
  | none => (s.noteAccess false (s.seg.cs.base + s.nextEip) n (s.readLin (s.seg.cs.base + s.nextEip) n)).past n
  | some _ => s.past n

/-- An undefined opcode is #UD; an undefined floating-point opcode takes #NM first (R230, R82), unless a LOCK prefix
makes it #UD already (R854). -/
def undefined (esc : Bool) (s : State) : Out :=
  stopped s (if esc && s.fpuOff && !s.pfx.lock then excNM else excUD)

/-- A byte beyond the CS limit is needed: #GP(0) (R136). -/
def fetchFault (s : State) : Out := stopped s (excGP 0#16)

/-- A LOCK prefix on an instruction that does not take it (R200). -/
def badLock (i : Instr) (s : State) : Bool := s.pfx.lock && !i.lockable

/-- Put bytes into memory from a linear address on, from outside the machine. -/
def State.load (s : State) (a : DWord) : List Byte → State
  | [] => s
  | b :: bs => State.load { s with mem := s.mem.write (s.phys a) b } (a + 1#32) bs

end Sys2Proof.Machine
end

