-- ==== Sys2Proof/Machine/Step.lean ====
section
/-! DEFINITION. The step of the machine: the time-stamp counter goes on; then what the boundary demands, else the next
instruction with its prefixes. -/

namespace Sys2Proof.Machine

/-- Read and run one instruction: each prefix byte in turn, then the instruction (30_encoding.md R171). At most four
prefixes are accepted (R173), so the fuel of `step` never runs out. -/
noncomputable def runInstr : Nat → State → Host.Outcome State Fault Refusal
  | 0, _ => .fault .prefixOverrun
  | fuel + 1, s =>
    match decode s.ctx s.window with
    | .short => fetchFault s
    | .undef esc => undefined esc s
    | .ok i rest =>
      if isPrefix i then
        match exec i (s.fetched (s.window.length - rest.length)) with
        | .next t => runInstr fuel t
        | o => o
      else if badLock i s then stopped s excUD
      else exec i (s.fetched (s.window.length - rest.length))

/-- One step: an event at the boundary (60_exceptions.md R854), or one instruction, or one iteration of a repeated string
instruction (44_string_and_io.md R448). The time-stamp counter has gone on when it begins (R885). -/
noncomputable def step (s : State) : Host.Outcome State Fault Refusal :=
  match boundary s.ticked with
  | some o => o
  | none => runInstr 6 s.ticked.begin

/-- The state with an instruction, given as the bits of its opcode-table row, stored where `step` fetches next. -/
def State.withFetchWord (s : State) (nbits w : Nat) : State :=
  { s.load (s.seg.cs.base + s.eip) (tableBytes nbits w) with repCode := none }

end Sys2Proof.Machine
end

