-- ==== Sys2Proof/Safety.lean ====
section
/-! DEFINITION. The terms that claims are stated in: the invariants that every step keeps, what an operand holds, the
state an instruction leaves when it completes, and the frame of memory. -/

namespace Sys2Proof.Machine

/-! ## Invariants -/

/-- CR0 and CR4 hold a legal value: ET reads 1, PG is clear (a load that would set it is refused), NW only with CD, and
the reserved bits clear (10_state.md R71, R74). -/
def State.controlOk (s : State) : Prop :=
  s.cr0.getLsbD 4 = true ∧ s.cr0.getLsbD 31 = false ∧ (s.cr0.getLsbD 29 = true → s.cr0.getLsbD 30 = true) ∧
  s.cr0 &&& cr0Reserved = 0#32 ∧ s.cr4 &&& 0xFFFFFE03#32 = 0#32

/-- LDTR holds an LDT descriptor where it is valid, and TR a busy TSS (10_state.md R81; 49_system_1.md R757, R760). -/
def State.systemOk (s : State) : Prop :=
  (s.ldtr.valid = true → s.ldtr.ty = 2#4) ∧ (s.tr.ty = 3#4 ∨ s.tr.ty = 0xB#4)

/-- The invariant of the data: memory and the caches' record are in their canonical form, no prefix is pending between
instructions, and the control and system registers hold legal values. -/
def State.inv (s : State) : Prop :=
  s.mem.wf = true ∧ cellsRise 0 s.dirty = true ∧ (∀ c ∈ s.dirty, c.1 < 2 ^ 32) ∧ s.pfx = noPrefixes ∧
  s.controlOk ∧ s.systemOk

/-- The invariant of the mode: outside protected mode CPL is 0 and VM is clear, and virtual-8086 mode runs at CPL 3
(10_state.md R37; 60_exceptions.md R880). -/
def State.modeOk (s : State) : Prop :=
  (s.pe = false → s.cpl = 0#2 ∧ s.flags.vm = false) ∧ (s.flags.vm = true → s.cpl = 3#2)

/-! ## Operands -/

/-- The value of an r/m operand of width `w` (30_encoding.md R193). -/
def State.rmVal (s : State) (w : Nat) : RM → BitVec w
  | .reg r => s.gpr.read w r
  | .mem e => BitVec.ofNat w (s.readLin (s.linear (s.eaLoc e)) (bytesOf w))

/-- A place can be read: its checks pass, and RAM or ROM answers. What a read does at a device and where nothing answers
is stated on its own (`LoadsAnywhere`). -/
def State.reads (s : State) (l : Loc) (n al : Nat) : Prop :=
  readFault s l n al = none ∧ s.quiet (s.linear l) n = true

/-- A place can be read and then written. -/
def State.updates (s : State) (l : Loc) (n al : Nat) : Prop :=
  writeFault s l n al = none ∧ s.quiet (s.linear l) n = true

/-- An r/m operand can be read: a register, or memory that can be read. -/
def State.canRead (s : State) (w : Nat) : RM → Prop
  | .reg _ => True
  | .mem e => s.reads (s.eaLoc e) (bytesOf w) (bytesOf w)

/-- An r/m operand can be read and then written. -/
def State.canWrite (s : State) (w : Nat) : RM → Prop
  | .reg _ => True
  | .mem e => s.updates (s.eaLoc e) (bytesOf w) (bytesOf w)

/-- An r/m operand can be stored to: a register, or memory that passes the checks of a write, whatever stands there. -/
def State.canStore (s : State) (w : Nat) : RM → Prop
  | .reg _ => True
  | .mem e => writeFault s (s.eaLoc e) (bytesOf w) (bytesOf w) = none

/-- The state with an r/m operand written. -/
def State.putRM (s : State) (w : Nat) (rm : RM) (v : BitVec w) : State :=
  match rm with
  | .reg r => { s with gpr := s.gpr.write w r v }
  | .mem e => s.store (s.linear (s.eaLoc e)) (bytesOf w) v.toNat

/-! ## Completion and frame -/

/-- The state after an instruction that began in `s` has done what `t` holds and goes on with the next one: EIP past its
last byte, no window, no prefix, and the single-step trap owed if TF was set. -/
def State.finish (s t : State) : State := s.completed { t with eip := s.nextEip, inhibit := .none }

/-- Every byte of memory outside the `n` bytes from linear address `a` on reads in `t` as it did in `s`. -/
def OnlyBytes (s t : State) (a : DWord) (n : Nat) : Prop :=
  s.mem.wf = true → ∀ b, (∀ k < n, b ≠ s.phys (a + BitVec.ofNat 32 k)) → t.mem.read b = s.mem.read b

/-- Memory changed at most in the r/m operand: not at all where that is a register. -/
def OnlyRM (s t : State) (w : Nat) : RM → Prop
  | .reg _ => t.mem = s.mem
  | .mem e => OnlyBytes s t (s.linear (s.eaLoc e)) (bytesOf w)

/-- The instruction completes with the r/m operand `v`, the flags `f` and nothing else changed. -/
def WritesRM (i : Instr) (s : State) (w : Nat) (rm : RM) (v : BitVec w) (f : Flags) : Prop :=
  ∃ n, exec i s = .next (s.finish { s.putRM w rm v with flags := f, fresh := n }) ∧
    OnlyRM s (s.finish { s.putRM w rm v with flags := f, fresh := n }) w rm

/-- The state after a read of `n` bytes from linear address `a` on: one event where a device is reached, and a new draw
where nothing answers. -/
def State.sawRead (s : State) (a : DWord) (n : Nat) : State :=
  { s with
    ioTrace := if s.touches .device a n then
        { space := .memory, write := false, addr := BitVec.ofNat 32 (s.phys a), width := n, value := s.readLin a n } ::
          s.ioTrace
      else s.ioTrace,
    fresh := if s.touches .nothing a n then s.fresh + 1 else s.fresh }

/-- The instruction completes with the flags `f` and nothing else changed. -/
def WritesFlags (i : Instr) (s : State) (f : Flags) : Prop :=
  ∃ n, exec i s = .next (s.finish { s with flags := f, fresh := n })

/-- The instruction completes with the general registers `g`, the flags `f` and nothing else changed. -/
def WritesRegs (i : Instr) (s : State) (g : Gprs) (f : Flags) : Prop :=
  ∃ n, exec i s = .next (s.finish { s with gpr := g, flags := f, fresh := n })

/-- The instruction takes an exception from the state before it (60_exceptions.md R836). -/
def Takes (i : Instr) (s : State) (e : Stop) : Prop := exec i s = stopped s e

/-- What an operation does: old flags, destination, source, result, new flags. -/
abbrev BinRel := ∀ w : Nat, Flags → BitVec w → BitVec w → BitVec w → Flags → Prop

/-! ## The forms of the two-operand instructions: accumulator or r/m with an immediate, r/m with a register, register
with r/m -/

/-- The forms r/m,imm, the immediate sign-extended from `n` bits; the accumulator forms are the case `rm = .reg rA`. -/
def FormRmImm (R : BinRel) (w n : Nat) (con : RM → BitVec n → Instr) : Prop :=
  ∀ (s : State) (rm : RM) (imm : BitVec n), s.canWrite w rm →
    ∃ v f, R w s.flags (s.rmVal w rm) (imm.signExtend w) v f ∧ WritesRM (con rm imm) s w rm v f

/-- The forms accumulator,imm. -/
def FormAccImm (R : BinRel) (w : Nat) (con : BitVec w → Instr) : Prop :=
  ∀ (s : State) (imm : BitVec w),
    ∃ v f, R w s.flags (s.gpr.read w rA) imm v f ∧ WritesRegs (con imm) s (s.gpr.write w rA v) f

/-- The forms r/m,r. -/
def FormRmReg (R : BinRel) (w : Nat) (con : RM → Reg → Instr) : Prop :=
  ∀ (s : State) (rm : RM) (r : Reg), s.canWrite w rm →
    ∃ v f, R w s.flags (s.rmVal w rm) (s.gpr.read w r) v f ∧ WritesRM (con rm r) s w rm v f

/-- The forms r,r/m. -/
def FormRegRm (R : BinRel) (w : Nat) (con : Reg → RM → Instr) : Prop :=
  ∀ (s : State) (r : Reg) (rm : RM), s.canRead w rm →
    ∃ v f, R w s.flags (s.gpr.read w r) (s.rmVal w rm) v f ∧ WritesRegs (con r rm) s (s.gpr.write w r v) f

/-- The comparing forms r/m,imm: the result is dropped. -/
def TestRmImm (R : BinRel) (w n : Nat) (con : RM → BitVec n → Instr) : Prop :=
  ∀ (s : State) (rm : RM) (imm : BitVec n), s.canRead w rm →
    ∃ v f, R w s.flags (s.rmVal w rm) (imm.signExtend w) v f ∧ WritesFlags (con rm imm) s f

/-- The comparing forms accumulator,imm. -/
def TestAccImm (R : BinRel) (w : Nat) (con : BitVec w → Instr) : Prop :=
  ∀ (s : State) (imm : BitVec w), ∃ v f, R w s.flags (s.gpr.read w rA) imm v f ∧ WritesFlags (con imm) s f

/-- The comparing forms r/m,r. -/
def TestRmReg (R : BinRel) (w : Nat) (con : RM → Reg → Instr) : Prop :=
  ∀ (s : State) (rm : RM) (r : Reg), s.canRead w rm →
    ∃ v f, R w s.flags (s.rmVal w rm) (s.gpr.read w r) v f ∧ WritesFlags (con rm r) s f

/-- The comparing forms r,r/m. -/
def TestRegRm (R : BinRel) (w : Nat) (con : Reg → RM → Instr) : Prop :=
  ∀ (s : State) (r : Reg) (rm : RM), s.canRead w rm →
    ∃ v f, R w s.flags (s.gpr.read w r) (s.rmVal w rm) v f ∧ WritesFlags (con r rm) s f

/-- The forms with one r/m operand, which is read and written; the source is not used. -/
def FormRm (R : BinRel) (w : Nat) (con : RM → Instr) : Prop :=
  ∀ (s : State) (rm : RM), s.canWrite w rm →
    ∃ v f, R w s.flags (s.rmVal w rm) 0#w v f ∧ WritesRM (con rm) s w rm v f

/-- The forms with one register operand. -/
def FormReg (R : BinRel) (w : Nat) (con : Reg → Instr) : Prop :=
  ∀ (s : State) (r : Reg),
    ∃ v f, R w s.flags (s.gpr.read w r) 0#w v f ∧ WritesRegs (con r) s (s.gpr.write w r v) f

/-! ## What the operations of these forms do -/

/-- ADD and, with the carry, ADC (41_binary_and_decimal_arithmetic.md R304, R305). -/
def addRel (cin : Flags → Bool) : BinRel := fun w f a b v g =>
  v = a + b + BitVec.ofNat w (cin f).toNat ∧ g = f.add a b (cin f)

/-- SUB and CMP and, with the borrow, SBB (R306, R316, R317). -/
def subRel (bin : Flags → Bool) : BinRel := fun w f a b v g =>
  v = a - b - BitVec.ofNat w (bin f).toNat ∧ g = f.sub a b (bin f)

/-- AND, OR, XOR and TEST: AF is any value (42_logical_shift_rotate_bit_byte.md R340, R349, R355, R356). -/
def logicRel (op : ∀ w : Nat, BitVec w → BitVec w → BitVec w) : BinRel := fun w f a b v g =>
  v = op w a b ∧ ∃ af, g = { f with cf := false, ofl := false, zf := v == 0#w, sf := v.msb,
                                    pf := parity (v.setWidth 8), af := af }

/-- INC: CF stays (R313). -/
def incRel : BinRel := fun w f a _ v g => v = a + 1#w ∧ g = { f.add a 1#w false with cf := f.cf }

/-- DEC: CF stays (R309). -/
def decRel : BinRel := fun w f a _ v g => v = a - 1#w ∧ g = { f.sub a 1#w false with cf := f.cf }

/-- NEG (R315). -/
def negRel : BinRel := fun w f a _ v g => v = -a ∧ g = f.sub 0#w a false

/-- NOT: no flag changes (R348). -/
def notRel : BinRel := fun _ f a _ v g => v = ~~~a ∧ g = f

/-! ## Multiplication and division (R310 to R312, R314) -/

/-- The double-width accumulator AX, DX:AX or EDX:EAX as a number. -/
def Gprs.pairVal (g : Gprs) (w : Nat) : Nat :=
  if w = 8 then (g.read 16 rA).toNat else (g.read w rD).toNat * 2 ^ w + (g.read w rA).toNat

/-- The double-width accumulator written. -/
def Gprs.putPair (g : Gprs) (w : Nat) (v : BitVec (2 * w)) : Gprs :=
  if w = 8 then g.write 16 rA (v.setWidth 16) else (g.write w rA (v.setWidth w)).write w rD ((v >>> w).setWidth w)

/-- Quotient and remainder written: AL and AH, AX and DX, or EAX and EDX. -/
def Gprs.putQuotient (g : Gprs) (w : Nat) (q r : BitVec w) : Gprs :=
  (g.write w rA q).write w (if w = 8 then rAH else rD) r

/-- A number is the value of a signed integer of `w` bits. -/
def fitsSigned (w : Nat) (n : Int) : Bool := decide (-(2 ^ (w - 1) : Int) ≤ n) && decide (n < (2 ^ (w - 1) : Int))

/-- CF and OF set together, and the other four status flags any value. -/
def MulFlags (f g : Flags) (b : Bool) : Prop := ∃ u, g = { f.setStatus u with cf := b, ofl := b }

/-- MUL: the product of the accumulator and the operand; CF and OF tell whether its upper half is not zero. -/
def MulForm (w : Nat) (con : RM → Instr) : Prop :=
  ∀ (s : State) (rm : RM), s.canRead w rm →
    let p := (s.gpr.read w rA).toNat * (s.rmVal w rm).toNat
    ∃ f, MulFlags s.flags f (decide (2 ^ w ≤ p)) ∧
      WritesRegs (con rm) s (s.gpr.putPair w (BitVec.ofNat (2 * w) p)) f

/-- IMUL with one operand. -/
def ImulForm1 (w : Nat) (con : RM → Instr) : Prop :=
  ∀ (s : State) (rm : RM), s.canRead w rm →
    let p := (s.gpr.read w rA).toInt * (s.rmVal w rm).toInt
    ∃ f, MulFlags s.flags f (!fitsSigned w p) ∧ WritesRegs (con rm) s (s.gpr.putPair w (BitVec.ofInt (2 * w) p)) f

/-- IMUL with two operands. -/
def ImulForm2 (w : Nat) (con : Reg → RM → Instr) : Prop :=
  ∀ (s : State) (r : Reg) (rm : RM), s.canRead w rm →
    let p := (s.gpr.read w r).toInt * (s.rmVal w rm).toInt
    ∃ f, MulFlags s.flags f (!fitsSigned w p) ∧ WritesRegs (con r rm) s (s.gpr.write w r (BitVec.ofInt w p)) f

/-- IMUL with three operands, the immediate sign-extended from `n` bits. -/
def ImulForm3 (w n : Nat) (con : Reg → RM → BitVec n → Instr) : Prop :=
  ∀ (s : State) (r : Reg) (rm : RM) (imm : BitVec n), s.canRead w rm →
    let p := (s.rmVal w rm).toInt * imm.toInt
    ∃ f, MulFlags s.flags f (!fitsSigned w p) ∧
      WritesRegs (con r rm imm) s (s.gpr.write w r (BitVec.ofInt w p)) f

/-- DIV where the quotient exists and fits; all six status flags become any value. -/
def DivForm (w : Nat) (con : RM → Instr) : Prop :=
  ∀ (s : State) (rm : RM) (q r : Nat), s.canRead w rm → s.gpr.pairVal w = q * (s.rmVal w rm).toNat + r →
    r < (s.rmVal w rm).toNat → q < 2 ^ w →
    ∃ u, WritesRegs (con rm) s (s.gpr.putQuotient w (BitVec.ofNat w q) (BitVec.ofNat w r)) (s.flags.setStatus u)

/-- IDIV where the quotient, truncated toward 0, exists and fits: the remainder has the sign of the dividend. -/
def IdivForm (w : Nat) (con : RM → Instr) : Prop :=
  ∀ (s : State) (rm : RM) (q r : Int), s.canRead w rm →
    (BitVec.ofNat (2 * w) (s.gpr.pairVal w)).toInt = q * (s.rmVal w rm).toInt + r →
    r.natAbs < (s.rmVal w rm).toInt.natAbs → 0 ≤ r * (BitVec.ofNat (2 * w) (s.gpr.pairVal w)).toInt →
    fitsSigned w q = true →
    ∃ u, WritesRegs (con rm) s (s.gpr.putQuotient w (BitVec.ofInt w q) (BitVec.ofInt w r)) (s.flags.setStatus u)

/-- DIV takes #DE where the divisor is 0 or the quotient does not fit. -/
def DivError (w : Nat) (con : RM → Instr) : Prop :=
  ∀ (s : State) (rm : RM), s.canRead w rm →
    ((s.rmVal w rm).toNat = 0 ∨ 2 ^ w * (s.rmVal w rm).toNat ≤ s.gpr.pairVal w) → Takes (con rm) s excDE

/-- IDIV takes #DE where the divisor is 0 or the truncated quotient does not fit. -/
def IdivError (w : Nat) (con : RM → Instr) : Prop :=
  ∀ (s : State) (rm : RM), s.canRead w rm →
    ((s.rmVal w rm).toInt = 0 ∨
      fitsSigned w ((BitVec.ofNat (2 * w) (s.gpr.pairVal w)).toInt.tdiv (s.rmVal w rm).toInt) = false) →
    Takes (con rm) s excDE

/-! ## Shifts and rotates (R350, R351, R353, R354) -/

/-- What a shift or rotate does: masked count, old flags, operand, result, new flags. -/
abbrev CountRel := ∀ w : Nat, Nat → Flags → BitVec w → BitVec w → Flags → Prop

/-- A count masked to five bits. -/
def maskCount (c : Byte) : Nat := c.toNat % 32

/-- The forms with a count of 1. -/
def CountOne (R : CountRel) (w : Nat) (con : RM → Instr) : Prop :=
  ∀ (s : State) (rm : RM), s.canWrite w rm →
    ∃ v f, R w 1 s.flags (s.rmVal w rm) v f ∧ WritesRM (con rm) s w rm v f

/-- The forms with the count in CL. -/
def CountCl (R : CountRel) (w : Nat) (con : RM → Instr) : Prop :=
  ∀ (s : State) (rm : RM), s.canWrite w rm →
    ∃ v f, R w (maskCount (s.gpr.read 8 rC)) s.flags (s.rmVal w rm) v f ∧ WritesRM (con rm) s w rm v f

/-- The forms with an immediate count. -/
def CountImm (R : CountRel) (w : Nat) (con : RM → Byte → Instr) : Prop :=
  ∀ (s : State) (rm : RM) (imm : Byte), s.canWrite w rm →
    ∃ v f, R w (maskCount imm) s.flags (s.rmVal w rm) v f ∧ WritesRM (con rm imm) s w rm v f

/-- The flags after a shift by a count that is not 0: SF, ZF and PF by the result, AF any value, CF given or any value,
OF given for a count of 1 and else any value. -/
def ShiftFlags {w : Nat} (c : Nat) (v : BitVec w) (cf : Option Bool) (ofl : Bool) (f g : Flags) : Prop :=
  ∃ a b o, g = { f with zf := v == 0#w, sf := v.msb, pf := parity (v.setWidth 8), af := a, cf := cf.getD b,
                        ofl := if c = 1 then ofl else o }

/-- SAL and SHL: CF is the last bit shifted out, any value for a count of the size or more. -/
def shlRel : CountRel := fun w c f d v g =>
  if c = 0 then v = d ∧ g = f
  else v = d <<< c ∧
    ShiftFlags c v (if c < w then some (d.getLsbD (w - c)) else none) (v.msb ^^ d.getLsbD (w - 1)) f g

/-- SHR. -/
def shrRel : CountRel := fun w c f d v g =>
  if c = 0 then v = d ∧ g = f
  else v = d >>> c ∧ ShiftFlags c v (if c < w then some (d.getLsbD (c - 1)) else none) d.msb f g

/-- SAR: the floor of the signed quotient; CF is the sign where the count exceeds the size. -/
def sarRel : CountRel := fun w c f d v g =>
  if c = 0 then v = d ∧ g = f
  else v = BitVec.ofInt w (d.toInt / 2 ^ c) ∧
    ShiftFlags c v (some (if c ≤ w then d.getLsbD (c - 1) else d.msb)) false f g

/-- The flags after a rotate by a count that is not 0: CF given, OF given for a count of 1 and else any value. -/
def RotateFlags (c : Nat) (cf ofl : Bool) (f g : Flags) : Prop :=
  ∃ o, g = { f with cf := cf, ofl := if c = 1 then ofl else o }

/-- One step of a rotate: the value and CF before and after. -/
abbrev RotateStep := ∀ w : Nat, BitVec w × Bool → BitVec w × Bool

/-- ROL: CF' = MSB(d), d' = d*2 + MSB(d). -/
def rolStep : RotateStep := fun w x => ((x.1 <<< 1) ||| (BitVec.ofBool x.1.msb).setWidth w, x.1.msb)

/-- ROR: CF' = LSB(d), d' = d/2 + LSB(d)*2^(n-1). -/
def rorStep : RotateStep := fun w x =>
  ((x.1 >>> 1) ||| ((BitVec.ofBool (x.1.getLsbD 0)).setWidth w <<< (w - 1)), x.1.getLsbD 0)

/-- RCL: d' = d*2 + CF, CF' = MSB(d). -/
def rclStep : RotateStep := fun w x => ((x.1 <<< 1) ||| (BitVec.ofBool x.2).setWidth w, x.1.msb)

/-- RCR: d' = d/2 + CF*2^(n-1), CF' = LSB(d). -/
def rcrStep : RotateStep := fun w x => ((x.1 >>> 1) ||| ((BitVec.ofBool x.2).setWidth w <<< (w - 1)), x.1.getLsbD 0)

/-- A step `c` times. -/
def rotateSteps {w : Nat} (step : BitVec w × Bool → BitVec w × Bool) : Nat → BitVec w × Bool → BitVec w × Bool
  | 0, x => x
  | c + 1, x => rotateSteps step c (step x)

/-- A rotate; `ofOne` is OF after a rotate by 1. -/
def rotateRel (rotate : ∀ w : Nat, Rotate w) (ofOne : ∀ w : Nat, BitVec w → Bool → Bool) : CountRel :=
  fun w c f d v g =>
    if c = 0 then v = d ∧ g = f
    else v = (rotate w c d f.cf).1 ∧ RotateFlags c (rotate w c d f.cf).2 (ofOne w v (rotate w c d f.cf).2) f g

/-- OF after a rotate left by 1: the top bit of the result against the new CF. -/
def leftOf (w : Nat) (v : BitVec w) (cf : Bool) : Bool := v.getLsbD (w - 1) ^^ cf

/-- OF after a rotate right by 1: the two top bits of the result. -/
def rightOf (w : Nat) (v : BitVec w) (_ : Bool) : Bool := v.getLsbD (w - 1) ^^ v.getLsbD (w - 2)

/-- What a double shift does: masked count, source, old flags, operand, result, new flags. -/
abbrev DoubleRel := ∀ w : Nat, Nat → BitVec w → Flags → BitVec w → BitVec w → Flags → Prop

/-- SHLD and SHRD: with a count of the size or more the result and the six status flags are any value. -/
def doubleRel (value : ∀ w : Nat, BitVec w → BitVec w → Nat → BitVec w) (out : Nat → Nat → Nat) : DoubleRel :=
  fun w c src f d v g =>
    if c = 0 then v = d ∧ g = f
    else if w ≤ c then ∃ u, g = f.setStatus u
    else v = value w d src c ∧ ShiftFlags c v (some (d.getLsbD (out w c))) (v.msb != d.msb) f g

/-- The forms of a double shift with an immediate count. -/
def DoubleImm (R : DoubleRel) (w : Nat) (con : RM → Reg → Byte → Instr) : Prop :=
  ∀ (s : State) (rm : RM) (r : Reg) (imm : Byte), s.canWrite w rm →
    ∃ v f, R w (maskCount imm) (s.gpr.read w r) s.flags (s.rmVal w rm) v f ∧ WritesRM (con rm r imm) s w rm v f

/-- The forms of a double shift with the count in CL. -/
def DoubleCl (R : DoubleRel) (w : Nat) (con : RM → Reg → Instr) : Prop :=
  ∀ (s : State) (rm : RM) (r : Reg), s.canWrite w rm →
    ∃ v f, R w (maskCount (s.gpr.read 8 rC)) (s.gpr.read w r) s.flags (s.rmVal w rm) v f ∧
      WritesRM (con rm r) s w rm v f

/-! ## Bits (R341 to R347, R352) and conditional moves (40_data_movement.md R252) -/

/-- CF given and the other five status flags any value. -/
def BitFlags (f g : Flags) (b : Bool) : Prop := ∃ u, g = { f.setStatus u with cf := b }

/-- The bit of a bit string: in a register the bit at the offset modulo the width; in memory the bit at that place of the
access that holds it. -/
def State.bitString (s : State) (w : Nat) (off : Int) : RM → BitVec w
  | .reg r => s.gpr.read w r
  | .mem e => BitVec.ofNat w (s.readLin (s.linear (bitLoc w (s.eaLoc e) off)) (bytesOf w))

/-- The place in a bit string can be read. -/
def State.canReadBit (s : State) (w : Nat) (off : Int) : RM → Prop
  | .reg _ => True
  | .mem e => s.reads (bitLoc w (s.eaLoc e) off) (bytesOf w) (bytesOf w)

/-- The place in a bit string can be written. -/
def State.canWriteBit (s : State) (w : Nat) (off : Int) : RM → Prop
  | .reg _ => True
  | .mem e => s.updates (bitLoc w (s.eaLoc e) off) (bytesOf w) (bytesOf w)

/-- The place in a bit string written. -/
def State.putBits (s : State) (w : Nat) (off : Int) (rm : RM) (v : BitVec w) : State :=
  match rm with
  | .reg r => { s with gpr := s.gpr.write w r v }
  | .mem e => s.store (s.linear (bitLoc w (s.eaLoc e) off)) (bytesOf w) v.toNat

/-- Memory changed at most in the access that holds the bit. -/
def OnlyBits (s t : State) (w : Nat) (off : Int) : RM → Prop
  | .reg _ => t.mem = s.mem
  | .mem e => OnlyBytes s t (s.linear (bitLoc w (s.eaLoc e) off)) (bytesOf w)

/-- BT: CF takes the bit and nothing is written. -/
def BitTested (i : Instr) (s : State) (w : Nat) (rm : RM) (off : Int) : Prop :=
  s.canReadBit w off rm →
    ∃ f, BitFlags s.flags f ((s.bitString w off rm).getLsbD (off % w).toNat) ∧ WritesFlags i s f

/-- BTC, BTR and BTS: CF takes the bit, and the bit becomes `set` of it; every other bit of the access stays. -/
def BitChanged (set : Bool → Bool) (i : Instr) (s : State) (w : Nat) (rm : RM) (off : Int) : Prop :=
  s.canWriteBit w off rm →
    ∃ f n v, BitFlags s.flags f ((s.bitString w off rm).getLsbD (off % w).toNat) ∧
      (∀ k < w, v.getLsbD k = if k = (off % w).toNat then set ((s.bitString w off rm).getLsbD k)
                              else (s.bitString w off rm).getLsbD k) ∧
      exec i s = .next (s.finish { s.putBits w off rm v with flags := f, fresh := n }) ∧
      OnlyBits s (s.finish { s.putBits w off rm v with flags := f, fresh := n }) w off rm

/-- The forms with a register offset, which is signed. -/
def BitReg (P : Instr → State → Nat → RM → Int → Prop) (w : Nat) (con : RM → Reg → Instr) : Prop :=
  ∀ (s : State) (rm : RM) (r : Reg), P (con rm r) s w rm (s.gpr.read w r).toInt

/-- The forms with an immediate offset, which is taken modulo the operand size. -/
def BitImm (P : Instr → State → Nat → RM → Int → Prop) (w : Nat) (con : RM → Byte → Instr) : Prop :=
  ∀ (s : State) (rm : RM) (imm : Byte), P (con rm imm) s w rm ((imm.toNat % w : Nat) : Int)

/-- BSF and BSR: `best` says that an index is the one the instruction looks for. A source of 0 sets ZF and leaves any
value in the destination. -/
def ScanForm (best : ∀ w : Nat, BitVec w → Nat → Prop) (w : Nat) (con : Reg → RM → Instr) : Prop :=
  ∀ (s : State) (r : Reg) (rm : RM), s.canRead w rm →
    ∃ u, if s.rmVal w rm = 0#w then
        ∃ v, WritesRegs (con r rm) s (s.gpr.write w r v) { s.flags.setStatus u with zf := true }
      else ∃ k, best w (s.rmVal w rm) k ∧
        WritesRegs (con r rm) s (s.gpr.write w r (BitVec.ofNat w k)) { s.flags.setStatus u with zf := false }

/-- The least significant 1 bit. -/
def lowestOne (w : Nat) (v : BitVec w) (k : Nat) : Prop := v.getLsbD k = true ∧ ∀ j < k, v.getLsbD j = false

/-- The most significant 1 bit. -/
def highestOne (w : Nat) (v : BitVec w) (k : Nat) : Prop := v.getLsbD k = true ∧ ∀ j, k < j → v.getLsbD j = false

/-- SETcc: 1 or 0 by the condition. -/
def SetForm (cond : Flags → Bool) (con : RM → Instr) : Prop :=
  ∀ (s : State) (rm : RM), s.canStore 8 rm →
    WritesRM (con rm) s 8 rm (if cond s.flags then 1#8 else 0#8) s.flags

/-- CMOVcc: the source must be readable whether or not the condition holds. -/
def CmovForm (cond : Flags → Bool) (w : Nat) (con : Reg → RM → Instr) : Prop :=
  ∀ (s : State) (r : Reg) (rm : RM), s.canRead w rm →
    WritesRegs (con r rm) s (if cond s.flags then s.gpr.write w r (s.rmVal w rm) else s.gpr) s.flags

/-! ## Moves and exchanges (40_data_movement.md R250 to R266) -/

/-- The instruction completes with `w` bits stored at a place, the flags `f` and nothing else changed. -/
def WritesLoc (i : Instr) (s : State) (w : Nat) (l : Loc) (v : BitVec w) (f : Flags) : Prop :=
  ∃ n, exec i s = .next (s.finish { s.store (s.linear l) (bytesOf w) v.toNat with flags := f, fresh := n }) ∧
    OnlyBytes s (s.finish { s.store (s.linear l) (bytesOf w) v.toNat with flags := f, fresh := n }) (s.linear l)
      (bytesOf w)

/-- The state with the general registers `g` and then an r/m operand written; its address is the one before. -/
def State.putRMRegs (s : State) (w : Nat) (rm : RM) (v : BitVec w) (g : Gprs) : State :=
  match rm with
  | .reg r => { s with gpr := g.write w r v }
  | .mem e => { s.store (s.linear (s.eaLoc e)) (bytesOf w) v.toNat with gpr := g }

/-- The instruction completes with the general registers `g`, then the r/m operand `v`, the flags `f` and nothing else
changed. -/
def WritesBoth (i : Instr) (s : State) (w : Nat) (rm : RM) (v : BitVec w) (g : Gprs) (f : Flags) : Prop :=
  ∃ n, exec i s = .next (s.finish { s.putRMRegs w rm v g with flags := f, fresh := n }) ∧
    OnlyRM s (s.finish { s.putRMRegs w rm v g with flags := f, fresh := n }) w rm

/-- MOV r/m,r. -/
def MovToRM (w : Nat) (con : RM → Reg → Instr) : Prop :=
  ∀ (s : State) (rm : RM) (r : Reg), s.canStore w rm → WritesRM (con rm r) s w rm (s.gpr.read w r) s.flags

/-- MOV r,r/m, and with `ext` MOVSX and MOVZX from `n` bits. -/
def MovFromRM (n w : Nat) (ext : BitVec n → BitVec w) (con : Reg → RM → Instr) : Prop :=
  ∀ (s : State) (r : Reg) (rm : RM), s.canRead n rm →
    WritesRegs (con r rm) s (s.gpr.write w r (ext (s.rmVal n rm))) s.flags

/-- MOVSX and MOVZX r32,r/m16, which with OS = 16 move the word unchanged (R257, R258). -/
def MovWord (ext : Word → DWord) (con : Reg → RM → Instr) : Prop :=
  ∀ (s : State) (r : Reg) (rm : RM), s.canRead 16 rm →
    WritesRegs (con r rm) s
      (if s.os32 then s.gpr.write 32 r (ext (s.rmVal 16 rm)) else s.gpr.write 16 r (s.rmVal 16 rm)) s.flags

/-- MOV r/m,imm. -/
def MovImmRM (w : Nat) (con : RM → BitVec w → Instr) : Prop :=
  ∀ (s : State) (rm : RM) (imm : BitVec w), s.canStore w rm → WritesRM (con rm imm) s w rm imm s.flags

/-- MOV r,imm. -/
def MovImm (w : Nat) (con : Reg → BitVec w → Instr) : Prop :=
  ∀ (s : State) (r : Reg) (imm : BitVec w), WritesRegs (con r imm) s (s.gpr.write w r imm) s.flags

/-- MOV accumulator,moffs. -/
def MovFromMoffs (w : Nat) (con : Moffs → Instr) : Prop :=
  ∀ (s : State) (mo : Moffs), s.reads (s.moffsLoc mo) (bytesOf w) (bytesOf w) →
    WritesRegs (con mo) s
      (s.gpr.write w rA (BitVec.ofNat w (s.readLin (s.linear (s.moffsLoc mo)) (bytesOf w)))) s.flags

/-- MOV moffs,accumulator. -/
def MovToMoffs (w : Nat) (con : Moffs → Instr) : Prop :=
  ∀ (s : State) (mo : Moffs), writeFault s (s.moffsLoc mo) (bytesOf w) (bytesOf w) = none →
    WritesLoc (con mo) s w (s.moffsLoc mo) (s.gpr.read w rA) s.flags

/-- XCHG r/m,r. -/
def XchgForm (w : Nat) (con : RM → Reg → Instr) : Prop :=
  ∀ (s : State) (rm : RM) (r : Reg), s.canWrite w rm →
    WritesBoth (con rm r) s w rm (s.gpr.read w r) (s.gpr.write w r (s.rmVal w rm)) s.flags

/-- XADD: the source register takes the old destination, the destination the sum. -/
def XaddForm (w : Nat) (con : RM → Reg → Instr) : Prop :=
  ∀ (s : State) (rm : RM) (r : Reg), s.canWrite w rm →
    WritesBoth (con rm r) s w rm (s.rmVal w rm + s.gpr.read w r) (s.gpr.write w r (s.rmVal w rm))
      (s.flags.add (s.rmVal w rm) (s.gpr.read w r) false)

/-- CMPXCHG: an equal destination takes the source, another one goes to the accumulator and is written back. -/
def CmpxchgForm (w : Nat) (con : RM → Reg → Instr) : Prop :=
  ∀ (s : State) (rm : RM) (r : Reg), s.canWrite w rm →
    if s.gpr.read w rA = s.rmVal w rm then
      WritesBoth (con rm r) s w rm (s.gpr.read w r) s.gpr (s.flags.sub (s.gpr.read w rA) (s.rmVal w rm) false)
    else
      WritesBoth (con rm r) s w rm (s.rmVal w rm) (s.gpr.write w rA (s.rmVal w rm))
        (s.flags.sub (s.gpr.read w rA) (s.rmVal w rm) false)

/-! ## The stack (20_memory.md R132; 40_data_movement.md R259 to R263) -/

/-- The state with an item of `n` bytes pushed. -/
def State.pushed (s : State) (n v : Nat) : State :=
  (s.store (s.linear (s.pushLoc n)) n v).setStackTop (s.pushLoc n).off

/-- The state with `n` bytes popped. -/
def State.popped (s : State) (n : Nat) : State := s.setStackTop (s.stackLoc (BitVec.ofNat 32 n)).off

/-- The item of `n` bytes that stands `d` bytes above the top of the stack. -/
def State.stackItem (s : State) (d n : Nat) : Nat := s.readLin (s.linear (s.stackLoc (BitVec.ofNat 32 d))) n

/-- That item can be read. -/
def State.canPeek (s : State) (d n : Nat) : Prop := s.reads (s.stackLoc (BitVec.ofNat 32 d)) n n

/-- The instruction pushes an item where the stack has room for it. -/
def Pushes (i : Instr) (s : State) (n v : Nat) : Prop :=
  writeFault s (s.pushLoc n) n n = none →
    exec i s = .next (s.finish (s.pushed n v)) ∧ OnlyBytes s (s.finish (s.pushed n v)) (s.linear (s.pushLoc n)) n

/-- POP to an r/m operand, whose address is the one after the stack pointer moved. -/
def PopForm (w : Nat) (con : RM → Instr) : Prop :=
  ∀ (s : State) (rm : RM), s.reads (s.stackLoc 0#32) (bytesOf w) (bytesOf w) →
    (s.popped (bytesOf w)).canStore w rm →
    exec (con rm) s = .next (s.finish ((s.popped (bytesOf w)).putRM w rm (BitVec.ofNat w (s.stackItem 0 (bytesOf w))))) ∧
      OnlyRM (s.popped (bytesOf w))
        (s.finish ((s.popped (bytesOf w)).putRM w rm (BitVec.ofNat w (s.stackItem 0 (bytesOf w))))) w rm

/-- Items pushed one after the other, each checked, aligned on `al`. -/
def State.canPushAll (s : State) (n al : Nat) : List Nat → Prop
  | [] => True
  | v :: vs => writeFault s (s.pushLoc n) n al = none ∧ State.canPushAll (s.pushed n v) n al vs

/-- The state with items pushed, the first one highest. -/
def State.pushedAll (s : State) (n : Nat) : List Nat → State
  | [] => s
  | v :: vs => State.pushedAll (s.pushed n v) n vs

/-- Memory changed at most in the `k` items of `n` bytes below the top of the stack. -/
def OnlyPushed (s t : State) (n k : Nat) : Prop :=
  s.mem.wf = true → ∀ b, (∀ i < k, ∀ j < n,
      b ≠ s.phys (s.linear (s.stackLoc (0#32 - BitVec.ofNat 32 (n * (i + 1)))) + BitVec.ofNat 32 j)) →
    t.mem.read b = s.mem.read b

/-- The low `w` bits of the eight registers in the order of PUSHA (R263). -/
def Gprs.inOrder (g : Gprs) (w : Nat) : List Nat :=
  [g.eax, g.ecx, g.edx, g.ebx, g.esp, g.ebp, g.esi, g.edi].map fun v => (v.setWidth w).toNat

/-- PUSHA and PUSHAD: outside protected mode (E)SP is not one of the odd values 1 to 15 of R262. -/
def PushaForm (w : Nat) (i : Instr) : Prop :=
  ∀ s : State, s.canPushAll (bytesOf w) 1 (s.gpr.inOrder w) →
    (s.isProt = true ∨ s.stackTop.toNat % 2 = 0 ∨ 15 < s.stackTop.toNat) →
    exec i s = .next (s.finish (s.pushedAll (bytesOf w) (s.gpr.inOrder w))) ∧
      OnlyPushed s (s.finish (s.pushedAll (bytesOf w) (s.gpr.inOrder w))) (bytesOf w) 8

/-- POPA and POPAD: the slot of the stack pointer is skipped, so that anything may stand there (R260). -/
def PopaForm (w : Nat) (i : Instr) : Prop :=
  ∀ s : State, (∀ k < 8, readFault s (s.stackLoc (BitVec.ofNat 32 (k * bytesOf w))) (bytesOf w) 1 = none) →
    (∀ k < 8, k ≠ 3 → s.quiet (s.linear (s.stackLoc (BitVec.ofNat 32 (k * bytesOf w)))) (bytesOf w) = true) →
    let v := fun k => BitVec.ofNat w (s.stackItem (k * bytesOf w) (bytesOf w))
    let t := s.popped (8 * bytesOf w)
    exec i s = .next (s.finish { t with
      gpr := ((((((t.gpr.write w rDI (v 0)).write w rSI (v 1)).write w rBP (v 2)).write w rB (v 4)).write w rD
        (v 5)).write w rC (v 6)).write w rA (v 7) })

/-! ## Loads of segment registers (20_memory.md R141, R143, R148; 60_exceptions.md R852) -/

/-- A load of a segment register other than CS passes its checks: none outside protected mode; else a selector that is
null and not for SS, or a descriptor that passes. -/
def State.canLoadSeg (s : State) (sr : SegReg) (sel : Word) : Prop :=
  s.isProt = false ∨ (sr = .ss ∧ ssLoadFault s sel = none) ∨
    (sr ≠ .ss ∧ (selNull sel = true ∨ dsLoadFault s sel = none))

/-- The state with that segment register loaded. -/
def State.loadedSeg (s : State) (sr : SegReg) (sel : Word) : State :=
  if s.isProt = false then s.loadReal sr sel
  else if sr ≠ .ss ∧ selNull sel = true then s.loadNull sr sel
  else s.loadFromTable sr sel

/-- The fault of a load in protected mode that does not pass. -/
def State.segFault (s : State) (sr : SegReg) (sel : Word) : Option Stop :=
  if s.isProt = false then none
  else if sr = .ss then ssLoadFault s sel
  else if selNull sel = true then none
  else dsLoadFault s sel

/-- As `finish`, and the window of one instruction opens after a load of SS. -/
def State.finishSeg (s t : State) (sr : SegReg) : State :=
  s.completed { t with eip := s.nextEip, inhibit := if sr = .ss then .ss else .none }

/-- POP of a segment register from a slot of the operand size; a load that does not pass takes the fault of its check. -/
def PopSegForm (sr : SegReg) (i : Instr) : Prop :=
  ∀ s : State, s.reads (s.stackLoc 0#32) s.osBytes s.osBytes →
    let sel := BitVec.ofNat 16 (s.stackItem 0 s.osBytes)
    ((s.popped s.osBytes).canLoadSeg sr sel →
      exec i s = .next (s.finishSeg ((s.popped s.osBytes).loadedSeg sr sel) sr)) ∧
    (∀ e, (s.popped s.osBytes).segFault sr sel = some e → Takes i s e)

/-- LDS, LES, LFS, LGS and LSS: the offset first in memory, then the selector, wherever they stand
(45_flag_segment_misc.md R485). -/
def FarLoadForm (w : Nat) (sr : SegReg) (con : Reg → Ea → Instr) : Prop :=
  ∀ (s : State) (r : Reg) (ea : Ea), readFault s (s.eaLoc ea) (bytesOf w + 2) (bytesOf w) = none →
    let a := s.linear (s.eaLoc ea)
    let t := s.sawRead a (bytesOf w)
    let u := t.sawRead (a + BitVec.ofNat 32 (bytesOf w)) 2
    let sel := BitVec.ofNat 16 (t.readLin (a + BitVec.ofNat 32 (bytesOf w)) 2)
    (u.canLoadSeg sr sel → exec (con r ea) s = .next (s.finish { u.loadedSeg sr sel with
      gpr := s.gpr.write w r (BitVec.ofNat w (s.readLin a (bytesOf w))) })) ∧
    (∀ e, u.segFault sr sel = some e → Takes (con r ea) s e)

/-! ## Near transfers (43_control_transfer_1.md R390, R404, R405, R409; 43_control_transfer_2.md R423) -/

/-- The state after a transfer within the code segment that began in `s` and leaves `t`: EIP is `eip`. -/
def State.goTo (s t : State) (eip : DWord) : State := s.completed { t with eip := eip, inhibit := .none }

/-- The target of a relative transfer: cut to 16 bits where the operand size is 16. -/
def State.relTarget (s : State) (wide : Bool) (rel : DWord) : DWord :=
  if wide then s.nextEip + rel else (s.nextEip + rel) &&& 0xFFFF#32

/-- The offset lies within the limit of the code segment. -/
def State.inCs (s : State) (off : DWord) : Prop := s.seg.cs.inLimit off true 1 = true

/-- The instruction goes on at `t` with the general registers `g` where `t` lies in the code segment, and else takes
#GP(0) from the state before it. -/
def JumpsTo (i : Instr) (s : State) (g : Gprs) (t : DWord) : Prop :=
  (s.inCs t → exec i s = .next (s.goTo { s with gpr := g } t)) ∧ (¬ s.inCs t → Takes i s (excGP 0#16))

/-- Jcc: a jump that is not taken goes on with the next instruction. -/
def JccForm (cond : Flags → Bool) (wide : State → Bool) (n : Nat) (con : BitVec n → Instr) : Prop :=
  ∀ (s : State) (rel : BitVec n),
    if cond s.flags then JumpsTo (con rel) s s.gpr (s.relTarget (wide s) (rel.signExtend 32))
    else exec (con rel) s = .next (s.goTo s s.nextEip)

/-- JCXZ and JECXZ. -/
def JcxzForm (w : Nat) (con : Byte → Instr) : Prop :=
  ∀ (s : State) (rel : Byte),
    if s.gpr.read w rC = 0#w then JumpsTo (con rel) s s.gpr (s.relTarget s.os32 (rel.signExtend 32))
    else exec (con rel) s = .next (s.goTo s s.nextEip)

/-- LOOP, LOOPE and LOOPNE: the count is ECX or CX by the address size; `zf` is the condition besides it. -/
def LoopForm (zf : Flags → Bool) (con : Byte → Instr) : Prop :=
  ∀ (s : State) (rel : Byte),
    let w := if s.as32 then 32 else 16
    let c := s.gpr.read w rC - 1#w
    if c ≠ 0#w ∧ zf s.flags = true then
      JumpsTo (con rel) s (s.gpr.write w rC c) (s.relTarget s.os32 (rel.signExtend 32))
    else exec (con rel) s = .next (s.goTo { s with gpr := s.gpr.write w rC c } s.nextEip)

/-- CALL to an offset of the code segment: the offset of the next instruction is pushed, after the check of the limit. -/
def CallsTo (i : Instr) (s : State) (n : Nat) (t : DWord) : Prop :=
  (¬ s.inCs t → Takes i s (excGP 0#16)) ∧
  (s.inCs t → writeFault s (s.pushLoc n) n n = none →
    exec i s = .next (s.goTo (s.pushed n s.nextEip.toNat) t) ∧
      OnlyBytes s (s.goTo (s.pushed n s.nextEip.toNat) t) (s.linear (s.pushLoc n)) n)

/-- RET near: the offset is popped, then `imm` bytes are released. -/
def RetForm (i : Instr) (imm : Word) : Prop :=
  ∀ s : State, s.reads (s.stackLoc 0#32) s.osBytes s.osBytes →
    let t := BitVec.ofNat 32 (s.stackItem 0 s.osBytes)
    (s.inCs t → exec i s = .next (s.goTo ((s.popped s.osBytes).popped imm.toNat) t)) ∧
    (¬ s.inCs t → Takes i s (excGP 0#16))

/-! ## Far transfers (R391 to R396, R406 to R412) -/

/-- CS loaded from the descriptor `d` that was checked, whose accessed bit is set at its address `a`, at privilege level
`l`, and EIP. -/
def State.entered (s : State) (sel : Word) (a : DWord) (d : QWord) (l : BitVec 2) (off : DWord) : State :=
  { s.setAccessed a with
    seg := { s.seg with cs := segOfDesc (withRpl sel l) (d ||| (1#64 <<< 40)) }, cpl := l, eip := off }

/-- CS loaded outside protected mode, which marks it usable (DEDUCED, log 52), and EIP. -/
def State.enteredReal (s : State) (sel : Word) (off : DWord) : State := { s.loadReal .cs sel with eip := off }

/-- The selector names the descriptor at `a`, which stands in RAM or ROM, and it is a code segment that is present. -/
def State.codeAt (s : State) (sel : Word) (a : DWord) : Prop :=
  selNull sel = false ∧ s.descAddr sel = some a ∧ s.quiet a 8 = true ∧ (s.descAt a).getLsbD 44 = true ∧
  (s.descAt a).getLsbD 43 = true ∧ (s.descAt a).getLsbD 47 = true

/-- The offset lies within the limit of the segment of the descriptor at `a`. -/
def State.inSeg (s : State) (a off : DWord) : Prop := (segOfDesc 0#16 (s.descAt a)).inLimit off true 1 = true

/-- A descriptor of a code segment: S and bit 3 of the type are set (20_memory.md R142). -/
def codeSegment (d : QWord) : Prop := d.getLsbD 44 = true ∧ d.getLsbD 43 = true

/-- A descriptor of a data segment that may be written. -/
def mayWrite (d : QWord) : Prop := d.getLsbD 44 = true ∧ d.getLsbD 43 = false ∧ d.getLsbD 41 = true

/-- A system descriptor of one of the types (20_memory.md R144). -/
def systemOf (types : List (BitVec 4)) (d : QWord) : Prop := d.getLsbD 44 = false ∧ descType d ∈ types

/-- A selector as an error code: bits 1:0 clear (60_exceptions.md R845). -/
def codeOf (sel : Word) : Word := sel &&& 0xFFFC#16

/-- The levels of a code segment `d` that a far JMP or CALL may name directly: conforming and not less privileged than CPL, or
not conforming at the level CPL with RPL not above CPL (R393, R407). -/
def State.levelFits (s : State) (sel : Word) (d : QWord) : Prop :=
  if d.getLsbD 42 then descDpl d ≤ s.cpl else rpl sel ≤ s.cpl ∧ descDpl d = s.cpl

/-- A code segment that a far JMP or CALL may name directly (R393, R407). -/
def State.mayEnter (s : State) (sel : Word) (a : DWord) : Prop := s.codeAt sel a ∧ s.levelFits sel (s.descAt a)

/-- Neither CPL nor RPL is above the DPL of a gate or a TSS (R394, R396, R407, R408). -/
def State.gateLevel (s : State) (sel : Word) (d : QWord) : Prop := s.cpl ≤ descDpl d ∧ rpl sel ≤ descDpl d

/-- Far JMP and CALL through a task gate that is open and present: the checks of the TSS that it names, up to the task switch
that the model refuses (R396, R408; D24; a descriptor that is no TSS counts as a busy one: DESIGN CHOICE, log 58). -/
def TaskGateFaults (i : Instr) (s : State) (tss : Word) : Prop :=
  (selTi tss = true ∨ s.descAddr tss = none → Takes i s (excGP (codeOf tss))) ∧
  (∀ b, selTi tss = false → s.descAddr tss = some b →
    (¬ systemOf [1#4, 9#4] (s.descAt b) → Takes i s (excGP (codeOf tss))) ∧
    (systemOf [1#4, 9#4] (s.descAt b) → (s.descAt b).getLsbD 47 = false → Takes i s (excNP (codeOf tss))) ∧
    (systemOf [1#4, 9#4] (s.descAt b) → (s.descAt b).getLsbD 47 = true → exec i s = .refused .taskSwitch))

/-- Far JMP and CALL in protected mode whose selector is not null and lies outside its table, or names a descriptor of a wrong
type, at a wrong level or not present: #GP and #NP with the selector, from the state before (R392, R393, R394, R396, R407,
R408); a TSS that passes them, and one that a task gate names, end in the task switch that the model refuses (D24). -/
def FarFaults (i : Instr) (s : State) (sel : Word) : Prop :=
  s.isProt = true → selNull sel = false →
  (s.descAddr sel = none → Takes i s (excGP (codeOf sel))) ∧
  ∀ a, s.descAddr sel = some a →
    let d := s.descAt a
    (¬ codeSegment d → ¬ systemOf [1#4, 3#4, 4#4, 5#4, 9#4, 0xB#4, 0xC#4] d → Takes i s (excGP (codeOf sel))) ∧
    (codeSegment d → ¬ s.levelFits sel d → Takes i s (excGP (codeOf sel))) ∧
    (codeSegment d → s.levelFits sel d → d.getLsbD 47 = false → Takes i s (excNP (codeOf sel))) ∧
    (systemOf [1#4, 4#4, 5#4, 9#4, 0xC#4] d → ¬ s.gateLevel sel d → Takes i s (excGP (codeOf sel))) ∧
    (systemOf [3#4, 0xB#4] d → Takes i s (excGP (codeOf sel))) ∧
    (systemOf [1#4, 4#4, 5#4, 9#4, 0xC#4] d → s.gateLevel sel d → d.getLsbD 47 = false →
      Takes i s (excNP (codeOf sel))) ∧
    (systemOf [1#4, 9#4] d → s.gateLevel sel d → d.getLsbD 47 = true → selTi sel = false →
      exec i s = .refused .taskSwitch) ∧
    (systemOf [5#4] d → s.gateLevel sel d → d.getLsbD 47 = true → s.quiet a 8 = true → TaskGateFaults i s (gateSel d))

/-- As `completed`, and the window of the instruction before is over. -/
def State.done (s t : State) : State := s.completed { t with inhibit := .none }

/-- JMP far: outside protected mode, and to a code segment in protected mode; a null selector is #GP(0), and the other faults
of the selector are `FarFaults`. -/
def JumpsFar (i : Instr) (s : State) (sel : Word) (off : DWord) : Prop :=
  FarFaults i s sel ∧
  (s.isProt = false → s.inCs off → exec i s = .next (s.done (s.enteredReal sel off))) ∧
  (s.isProt = false → ¬ s.inCs off → Takes i s (excGP 0#16)) ∧
  (s.isProt = true → selNull sel = true → Takes i s (excGP 0#16)) ∧
  (∀ a, s.isProt = true → s.mayEnter sel a →
    (s.inSeg a off → exec i s = .next (s.done (s.entered sel a (s.descAt a) s.cpl off))) ∧
    (¬ s.inSeg a off → Takes i s (excGP 0#16)))

/-- The return address of a far call: CS, then the offset of the next instruction. -/
def State.returnItems (s : State) : List Nat := [s.seg.cs.sel.toNat, s.nextEip.toNat]

/-- CALL far with items of `n` bytes: without room for the return address #SS(0), after the checks of the selector; the rest
as `JumpsFar`. -/
def CallsFar (i : Instr) (s : State) (n : Nat) (sel : Word) (off : DWord) : Prop :=
  FarFaults i s sel ∧
  (s.isProt = true → selNull sel = true → Takes i s (excGP 0#16)) ∧
  (s.stackRoom n 2 = false → s.isProt = false ∨ (∃ a, s.mayEnter sel a) → Takes i s (excSS 0#16)) ∧
  (s.stackRoom n 2 = true → s.canPushAll n n s.returnItems →
    (s.isProt = false → s.inCs off → exec i s = .next (s.done ((s.pushedAll n s.returnItems).enteredReal sel off))) ∧
    (s.isProt = false → ¬ s.inCs off → Takes i s (excGP 0#16)) ∧
    (∀ a, s.isProt = true → s.mayEnter sel a →
      (s.inSeg a off → exec i s = .next (s.done ((s.pushedAll n s.returnItems).entered sel a (s.descAt a) s.cpl off))) ∧
      (¬ s.inSeg a off → Takes i s (excGP 0#16))))

/-- A far pointer in memory: the offset of `w` bits first, then the selector. -/
def FarPtr (s : State) (w : Nat) (ea : Ea) (P : Word → DWord → Prop) : Prop :=
  s.reads (s.eaLoc ea) (bytesOf w + 2) (bytesOf w) →
    P (BitVec.ofNat 16 (s.readLin (s.linear (s.eaLoc ea) + BitVec.ofNat 32 (bytesOf w)) 2))
      (BitVec.ofNat 32 (s.readLin (s.linear (s.eaLoc ea)) (bytesOf w)))

/-- A frame of `k` items of `n` bytes at the top of the stack lies in the stack segment, and every item can be read. -/
def State.canPeekAll (s : State) (n k : Nat) : Prop := s.topIn 0 (k * n) = true ∧ ∀ j < k, s.canPeek (j * n) n

/-- The `j`-th item of `n` bytes at the top of the stack. -/
def State.frameItem (s : State) (n j : Nat) : DWord := BitVec.ofNat 32 (s.stackItem (j * n) n)

/-- A code segment that RET or IRET may return to at the level of the selector's RPL (R403, R411). -/
def State.mayReturn (s : State) (sel : Word) (a : DWord) : Prop :=
  s.codeAt sel a ∧ s.cpl ≤ rpl sel ∧
  if (s.descAt a).getLsbD 42 then descDpl (s.descAt a) ≤ rpl sel else descDpl (s.descAt a) = rpl sel

/-- A stack segment of level `l` whose descriptor stands in RAM or ROM: writable data, present, with RPL and DPL equal to `l`
(R403, R412), and not one that the model refuses (log 17). -/
def State.stackAt (s : State) (sel : Word) (l : BitVec 2) (a : DWord) : Prop :=
  selNull sel = false ∧ s.descAddr sel = some a ∧ s.quiet a 8 = true ∧ rpl sel = l ∧
  (segOfDesc sel (s.descAt a)).isWritableData = true ∧ descDpl (s.descAt a) = l ∧ descP (s.descAt a) = true ∧ (segOfDesc sel (s.descAt a)).refused = false

/-- A data segment register that CPL may not use any more becomes null: data, or code that is not conforming, with a DPL
below CPL (R403, R412). -/
def State.dropped (s : State) (sr : SegReg) : State :=
  if (s.seg.get sr).valid = true ∧ (s.seg.get sr).s = true ∧
      ((s.seg.get sr).ty.getLsbD 3 = true → (s.seg.get sr).ty.getLsbD 2 = false) ∧ (s.seg.get sr).dpl < s.cpl then
    s.loadNull sr 0#16
  else s

/-- SS loaded from the descriptor `d` that was checked, whose accessed bit is set at its address `b`, and ESP. -/
def State.onStack (s : State) (ss : Word) (b : DWord) (d : QWord) (esp : DWord) : State :=
  { s.setAccessed b with
    seg := { s.seg with ss := segOfDesc ss (d ||| (1#64 <<< 40)) }, gpr := { s.gpr with esp := esp } }

/-- The stack of the outer level: SS, ESP and `imm` bytes released; then the data segment registers are looked at. -/
def State.outer (s : State) (ssel : Word) (b : DWord) (d : QWord) (esp : DWord) (imm : Nat) : State :=
  (((((s.onStack ssel b d esp).popped imm).dropped .es).dropped .fs).dropped .gs).dropped .ds

/-- A return in protected mode whose code selector is null, lies outside its table, or names a descriptor that is no code
segment, at a wrong level or not present (R403, R411). -/
def ReturnFaults (i : Instr) (s : State) (sel : Word) : Prop :=
  (selNull sel = true → Takes i s (excGP 0#16)) ∧
  (selNull sel = false → s.descAddr sel = none → Takes i s (excGP (codeOf sel))) ∧
  ∀ a, selNull sel = false → s.descAddr sel = some a →
    let d := s.descAt a
    let fits := s.cpl ≤ rpl sel ∧ if d.getLsbD 42 then descDpl d ≤ rpl sel else descDpl d = rpl sel
    (¬ codeSegment d ∨ ¬ fits → Takes i s (excGP (codeOf sel))) ∧
    (codeSegment d → fits → d.getLsbD 47 = false → Takes i s (excNP (codeOf sel)))

/-- A stack segment that a change to level `l` cannot use: not writable data, or with another RPL or DPL (R395, R403, R412). -/
def wrongStack (ss : Word) (l : BitVec 2) (d : QWord) : Prop := rpl ss ≠ l ∨ descDpl d ≠ l ∨ ¬ mayWrite d

/-- A return to the outer level `l` whose stack selector is null, lies outside its table, or names a wrong segment or one that
is not present, `absent` being the fault of that (R403, R412). -/
def OuterFaults (i : Instr) (s : State) (ss : Word) (l : BitVec 2) (absent : Word → Stop) : Prop :=
  (selNull ss = true → Takes i s (excGP 0#16)) ∧
  (selNull ss = false → s.descAddr ss = none → Takes i s (excGP (codeOf ss))) ∧
  ∀ b, selNull ss = false → s.descAddr ss = some b →
    (wrongStack ss l (s.descAt b) → Takes i s (excGP (codeOf ss))) ∧
    (¬ wrongStack ss l (s.descAt b) → (s.descAt b).getLsbD 47 = false → Takes i s (absent (codeOf ss)))

/-- The item of `n` bytes that stands `d` bytes above the top of the stack does not lie within the limit of the stack segment,
which is one that may be read. -/
def State.itemOut (s : State) (d n : Nat) : Prop :=
  s.seg.ss.valid = true ∧ s.seg.ss.isCode = false ∧
  s.seg.ss.inLimit (s.stackLoc (BitVec.ofNat 32 d)).off s.sas32 n = false

/-- RET far, `imm` bytes released. -/
def RetFarForm (i : Instr) (imm : Word) : Prop :=
  ∀ s : State,
    let n := s.osBytes
    let t := s.frameItem n 0
    let sel := (s.frameItem n 1).setWidth 16
    (s.isProt = false → s.topIn 0 (2 * n) = false → Takes i s (excSS 0#16)) ∧
    (s.isProt = false → s.canPeekAll n 2 →
      (s.inCs t → exec i s = .next (s.done ((s.popped (2 * n + imm.toNat)).enteredReal sel t))) ∧
      (¬ s.inCs t → Takes i s (excGP 0#16))) ∧
    (s.isProt = true → s.itemOut n n → Takes i s (excSS 0#16)) ∧
    (s.isProt = true → s.canPeek n n → ReturnFaults i s sel) ∧
    (∀ a, s.isProt = true → s.canPeek n n → s.mayReturn sel a → rpl sel = s.cpl → s.itemOut 0 n →
      Takes i s (excSS 0#16)) ∧
    (∀ a, s.isProt = true → s.canPeekAll n 2 → s.mayReturn sel a → rpl sel = s.cpl →
      (s.inSeg a t →
        exec i s = .next (s.done ((s.popped (2 * n + imm.toNat)).entered sel a (s.descAt a) (rpl sel) t))) ∧
      (¬ s.inSeg a t → Takes i s (excGP 0#16))) ∧
    (∀ a, s.isProt = true → s.canPeek n n → s.mayReturn sel a → s.cpl < rpl sel →
      s.topIn 0 (4 * n + imm.toNat) = false → Takes i s (excSS 0#16)) ∧
    (∀ a, s.isProt = true → s.canPeekAll n 2 → s.mayReturn sel a → s.cpl < rpl sel →
      s.topIn 0 (4 * n + imm.toNat) = true →
      s.canPeek (2 * n + imm.toNat) n → s.canPeek (3 * n + imm.toNat) n →
      let ssel := BitVec.ofNat 16 (s.stackItem (3 * n + imm.toNat) n)
      OuterFaults i s ssel (rpl sel) excSS ∧
      ∀ b, s.stackAt ssel (rpl sel) b →
        (s.inSeg a t → exec i s = .next (s.done ((s.entered sel a (s.descAt a) (rpl sel) t).outer ssel b (s.descAt b)
          (BitVec.ofNat 32 (s.stackItem (2 * n + imm.toNat) n)) imm.toNat))) ∧
        (¬ s.inSeg a t → Takes i s (excGP 0#16)))

/-- The flags that IRET loads in protected mode: IF only with CPL <= IOPL, IOPL, VIF and VIP only at CPL 0 (R403). -/
def State.iretMask (s : State) (wide : Bool) : DWord :=
  (if wide then 0x254DD5#32 else 0x4DD5#32) ||| (if s.cpl ≤ s.flags.iopl then 0x200#32 else 0#32) |||
    (if s.cpl = 0#2 then (if wide then 0x1A3000#32 else 0x3000#32) else 0#32)

/-- IRET with items of `n` bytes, NT clear: real-address mode, virtual-8086 mode, and protected mode at the same level and
to an outer one. -/
def IretForm (i : Instr) (n : Nat) : Prop :=
  ∀ s : State,
    let t := s.frameItem n 0
    let sel := (s.frameItem n 1).setWidth 16
    let img := s.frameItem n 2
    let wide := decide (n = 4)
    (s.isReal = true ∨ (s.isV86 = true ∧ s.flags.iopl = 3#2) ∨ (s.isProt = true ∧ s.flags.nt = false) →
      s.topIn 0 (3 * n) = false → Takes i s (excSS 0#16)) ∧
    (s.isReal = true → s.canPeekAll n 3 →
      (s.inCs t → exec i s = .next (s.done { (s.popped (3 * n)).enteredReal sel t with
        flags := s.flags.load img (if wide then 0x257FD5#32 else 0x7FD5#32) })) ∧
      (¬ s.inCs t → Takes i s (excGP 0#16))) ∧
    (s.isV86 = true → s.flags.iopl ≠ 3#2 → Takes i s (excGP 0#16)) ∧
    (s.isV86 = true → s.flags.iopl = 3#2 → s.canPeekAll n 3 →
      (s.inCs t → exec i s = .next (s.done { (s.popped (3 * n)).enteredReal sel t with
        flags := s.flags.load img (if wide then 0x254FD5#32 else 0x4FD5#32) })) ∧
      (¬ s.inCs t → Takes i s (excGP 0#16))) ∧
    (s.isProt = true → s.flags.nt = false → s.canPeekAll n 3 → (img.getLsbD 17 = false ∨ s.cpl ≠ 0#2) →
      ReturnFaults i s sel) ∧
    (∀ a, s.isProt = true → s.flags.nt = false → s.canPeekAll n 3 → (img.getLsbD 17 = false ∨ s.cpl ≠ 0#2) →
      s.mayReturn sel a → rpl sel = s.cpl →
      (s.inSeg a t → exec i s = .next (s.done { (s.popped (3 * n)).entered sel a (s.descAt a) (rpl sel) t with
        flags := s.flags.load img (s.iretMask wide) })) ∧
      (¬ s.inSeg a t → Takes i s (excGP 0#16))) ∧
    (∀ a, s.isProt = true → s.flags.nt = false → s.canPeekAll n 3 → (img.getLsbD 17 = false ∨ s.cpl ≠ 0#2) →
      s.mayReturn sel a → s.cpl < rpl sel → s.topIn (3 * n) (2 * n) = false → Takes i s (excSS 0#16)) ∧
    (∀ a, s.isProt = true → s.flags.nt = false → s.canPeekAll n 3 → (img.getLsbD 17 = false ∨ s.cpl ≠ 0#2) →
      s.topIn (3 * n) (2 * n) = true → s.canPeek (3 * n) n → s.canPeek (4 * n) n →
      s.mayReturn sel a → s.cpl < rpl sel →
      let ssel := (s.frameItem n 4).setWidth 16
      OuterFaults i s ssel (rpl sel) excNP ∧
      ∀ b, s.stackAt ssel (rpl sel) b →
        (s.inSeg a t → exec i s = .next (s.done ({ s.entered sel a (s.descAt a) (rpl sel) t with
          flags := s.flags.load img (s.iretMask wide) }.outer ssel b (s.descAt b) (s.frameItem n 3) 0))) ∧
        (¬ s.inSeg a t → Takes i s (excGP 0#16)))

/-! ## Delivery of interrupts and exceptions (60_exceptions.md R840 to R848) -/

/-- After REAL-ADDRESS-MODE delivery of a vector: FLAGS, CS and the return offset pushed, IF, TF and AC clear, and CS:IP
from the vector table (R841). -/
def State.deliveredReal (s : State) (v : Byte) (ret : DWord) : State :=
  let t := s.pushedAll 2 [s.flags.toWord.toNat % 65536, s.seg.cs.sel.toNat, ret.toNat % 65536]
  let a := s.idtr.base + BitVec.ofNat 32 (4 * v.toNat)
  { t.enteredReal (BitVec.ofNat 16 (t.readLin (a + 2#32) 2)) (BitVec.ofNat 32 (t.readLin a 2)) with
    flags := { s.flags with ifl := false, tf := false, ac := false } }

/-- The vector has an entry, in RAM or ROM, and the stack has room for three words (R841). -/
def State.canDeliverReal (s : State) (v : Byte) : Prop :=
  s.isReal = true ∧ 4 * v.toNat + 3 ≤ s.idtr.limit.toNat ∧ s.stackRoom 2 3 = true ∧
  s.quiet (s.idtr.base + BitVec.ofNat 32 (4 * v.toNat)) 4 = true

/-- The IDT entry of a vector in protected mode. -/
def State.gate (s : State) (v : Byte) : QWord := s.descAt (s.idtr.base + BitVec.ofNat 32 (8 * v.toNat))

/-- The entry, in RAM or ROM, is a present interrupt or trap gate whose selector names a present code segment at `a`, no
less privileged than CPL (R842, R844). -/
def State.gateOpens (s : State) (v : Byte) (a : DWord) : Prop :=
  8 * v.toNat + 7 ≤ s.idtr.limit.toNat ∧ s.quiet (s.idtr.base + BitVec.ofNat 32 (8 * v.toNat)) 8 = true ∧
  descS (s.gate v) = false ∧ descP (s.gate v) = true ∧
  (descType (s.gate v) = 6#4 ∨ descType (s.gate v) = 7#4 ∨ descType (s.gate v) = 0xE#4 ∨
    descType (s.gate v) = 0xF#4) ∧
  s.codeAt (gateSel (s.gate v)) a ∧ descDpl (s.descAt a) ≤ s.cpl ∧ s.inSeg a (gateOff (s.gate v))

/-- The vectors of the contributory exceptions: #DE, #TS, #NP, #SS and #GP (R860). -/
def contributoryVectors : List Byte := [0#8, 10#8, 11#8, 12#8, 13#8]

/-- The flags of the handler: TF, NT, VM and RF clear, IF clear through an interrupt gate (types 6 and 14). -/
def handlerFlags (f : Flags) (g : QWord) : Flags :=
  { f with tf := false, nt := false, vm := false, rf := false, ifl := f.ifl && g.getLsbD 40 }

/-- What every delivery in protected mode pushes of the interrupted program: EFLAGS, CS and EIP. -/
def State.eventItems (s : State) (ret : DWord) : List Nat :=
  [s.flags.toWord.toNat, s.seg.cs.sel.toNat, ret.toNat]

/-- The error code, where the event has one, as a list of items. -/
def codeItem (err : Option Word) : List Nat := err.toList.map (·.toNat)

/-- After INTRA-PRIVILEGE-LEVEL-INTERRUPT (R848): three items, CS:EIP, the error code, the flags. -/
def State.deliveredSame (s : State) (v : Byte) (a : DWord) (err : Option Word) (ret : DWord) : State :=
  let g := s.gate v
  let t := (s.pushedAll (gateBytes g) (s.eventItems ret)).entered (gateSel g) a (s.descAt a) s.cpl (gateOff g)
  { t.pushedAll (gateBytes g) (codeItem err) with flags := handlerFlags s.flags g }

/-- The handler runs at the same level: a conforming segment or one of DPL = CPL, outside virtual-8086 mode. -/
def State.sameLevel (s : State) (v : Byte) (a : DWord) (err : Option Word) : Prop :=
  s.isProt = true ∧ s.gateOpens v a ∧ ((s.descAt a).getLsbD 42 = true ∨ descDpl (s.descAt a) = s.cpl) ∧
  s.stackRoom (gateBytes (s.gate v)) (3 + err.toList.length) = true

/-- The TSS holds a stack pointer for level `d`, in RAM or ROM, and what it is: SS and ESP (20_memory.md R147; R846). -/
def State.innerStack (s : State) (d : BitVec 2) (ss : Word) (esp : DWord) : Prop :=
  if s.tr.ty.getLsbD 3 then
    8 * d.toNat + 11 ≤ s.tr.limit.toNat ∧ s.quiet (s.tr.base + BitVec.ofNat 32 (8 * d.toNat + 4)) 6 = true ∧
    esp = BitVec.ofNat 32 (s.readLin (s.tr.base + BitVec.ofNat 32 (8 * d.toNat + 4)) 4) ∧
    ss = BitVec.ofNat 16 (s.readLin (s.tr.base + BitVec.ofNat 32 (8 * d.toNat + 8)) 2)
  else
    4 * d.toNat + 6 ≤ s.tr.limit.toNat ∧ s.quiet (s.tr.base + BitVec.ofNat 32 (4 * d.toNat + 2)) 4 = true ∧
    esp = BitVec.ofNat 32 (s.readLin (s.tr.base + BitVec.ofNat 32 (4 * d.toNat + 2)) 2) ∧
    ss = BitVec.ofNat 16 (s.readLin (s.tr.base + BitVec.ofNat 32 (4 * d.toNat + 4)) 2)

/-- The new stack is a present stack segment of level `d` at `b`, with room for `k` items of `n` bytes below ESP. -/
def State.innerRoom (s : State) (d : BitVec 2) (ss : Word) (esp : DWord) (b : DWord) (n k : Nat) : Prop :=
  s.innerStack d ss esp ∧ s.stackAt ss d b ∧
  roomBelow (segOfDesc ss (s.descAt b)) (descDb (s.descAt b)) (wrapOff (descDb (s.descAt b)) esp) n k = true

/-- After INTER-PRIVILEGE-LEVEL-INTERRUPT (R846): SS:ESP and CS:EIP, and on the new stack the old one is pushed first. -/
def State.deliveredInner (s : State) (v : Byte) (a : DWord) (ss : Word) (b esp : DWord) (err : Option Word)
    (ret : DWord) : State :=
  let g := s.gate v
  let t := (s.onStack ss b (s.descAt b) esp).entered (gateSel g) a (s.descAt a) (descDpl (s.descAt a)) (gateOff g)
  { t.pushedAll (gateBytes g) ([s.seg.ss.sel.toNat, s.gpr.esp.toNat] ++ s.eventItems ret ++ codeItem err) with
    flags := handlerFlags s.flags g }

/-- After INTERRUPT-FROM-VIRTUAL-8086-MODE (R847): the flags and SS:ESP; GS, FS, DS and ES pushed before the old stack;
they become null; CS:EIP last. -/
def State.deliveredV86 (s : State) (v : Byte) (a : DWord) (ss : Word) (b esp : DWord) (err : Option Word)
    (ret : DWord) : State :=
  let g := s.gate v
  let t := { s with flags := handlerFlags s.flags g }.onStack ss b (s.descAt b) esp
  let u := t.pushedAll (gateBytes g) ([s.seg.gs.sel.toNat, s.seg.fs.sel.toNat, s.seg.ds.sel.toNat,
    s.seg.es.sel.toNat, s.seg.ss.sel.toNat, s.gpr.esp.toNat] ++ s.eventItems ret ++ codeItem err)
  ((((u.loadNull .gs 0#16).loadNull .fs 0#16).loadNull .ds 0#16).loadNull .es 0#16).entered (gateSel g) a
    (s.descAt a) (descDpl (s.descAt a)) (gateOff g)

/-- The handler runs at a more privileged level: a segment that is not conforming, with a DPL below CPL. -/
def State.innerLevel (s : State) (v : Byte) (a : DWord) : Prop :=
  s.gateOpens v a ∧ (s.descAt a).getLsbD 42 = false ∧ descDpl (s.descAt a) < s.cpl

/-- A software interrupt of vector `v` that the instruction makes: delivery with the offset of the next instruction. In
protected mode the gate's DPL must not be below CPL. -/
def SoftwareInterrupt (i : Instr) (s : State) (v : Byte) : Prop :=
  (s.canDeliverReal v → exec i s = .next (s.done (s.deliveredReal v s.nextEip))) ∧
  (s.isReal = true → s.idtr.limit.toNat < 4 * v.toNat + 3 → Takes i s (excGP 0#16)) ∧
  (∀ a, s.sameLevel v a none → s.cpl ≤ descDpl (s.gate v) →
    exec i s = .next (s.done (s.deliveredSame v a none s.nextEip))) ∧
  (∀ a ss b esp, s.isProt = true → s.innerLevel v a → s.cpl ≤ descDpl (s.gate v) →
    s.innerRoom (descDpl (s.descAt a)) ss esp b (gateBytes (s.gate v)) 5 →
    exec i s = .next (s.done (s.deliveredInner v a ss b esp none s.nextEip))) ∧
  (∀ a ss b esp, s.isV86 = true → s.innerLevel v a → s.cpl ≤ descDpl (s.gate v) → descDpl (s.descAt a) = 0#2 →
    s.innerRoom 0#2 ss esp b (gateBytes (s.gate v)) 9 →
    exec i s = .next (s.done (s.deliveredV86 v a ss b esp none s.nextEip)))

/-! ## Bounds and frames (43_control_transfer_2.md R420 to R422) -/

/-- BOUND: two signed bounds in memory, checked together and read one after the other, the lower first; the upper one is
compared after the operand size in bytes is added to it (R420; 20_memory.md R137). -/
def BoundForm (w : Nat) (con : Reg → Ea → Instr) : Prop :=
  ∀ (s : State) (r : Reg) (ea : Ea), readFault s (s.eaLoc ea) (2 * bytesOf w) (bytesOf w) = none →
    let a := s.linear (s.eaLoc ea)
    let t := s.sawRead a (bytesOf w)
    let i := (s.gpr.read w r).toInt
    let lower := (BitVec.ofNat w (s.readLin a (bytesOf w))).toInt
    let upper := (BitVec.ofNat w (t.readLin (a + BitVec.ofNat 32 (bytesOf w)) (bytesOf w))).toInt
    if i < lower ∨ upper + (bytesOf w : Nat) < i then Takes (con r ea) s excBR
    else exec (con r ea) s = .next (s.finish (t.sawRead (a + BitVec.ofNat 32 (bytesOf w)) (bytesOf w)))

/-- EBP or BP set, by the stack width. -/
def State.withFrame (s : State) (v : DWord) : State :=
  { s with gpr := if s.sas32 then s.gpr.write 32 rBP v else s.gpr.write 16 rBP (v.setWidth 16) }

/-- EBP or BP, by the stack width. -/
def State.framePtr (s : State) : DWord := if s.sas32 then s.gpr.ebp else s.gpr.ebp &&& 0xFFFF#32

/-- The place that the frame pointer names. -/
def State.frameLoc (s : State) : Loc := { seg := .ss, off := s.framePtr, wide := s.sas32 }

/-- ENTER copies `k` frame pointers of the enclosing levels: the frame pointer goes down by `n`, and what it names is
pushed. -/
def State.displayed (s : State) (n : Nat) : Nat → State
  | 0 => s
  | k + 1 =>
    let t := s.withFrame (s.framePtr - BitVec.ofNat 32 n)
    State.displayed (t.pushed n (t.readLin (t.linear t.frameLoc) n)) n k

/-- Those reads and pushes pass their checks. -/
def State.canDisplay (s : State) (n : Nat) : Nat → Prop
  | 0 => True
  | k + 1 =>
    let t := s.withFrame (s.framePtr - BitVec.ofNat 32 n)
    t.reads t.frameLoc n 1 ∧ writeFault t (t.pushLoc n) n 1 = none ∧
      State.canDisplay (t.pushed n (t.readLin (t.linear t.frameLoc) n)) n k

/-- The stack pointer moved by `d`. -/
def State.moved (s : State) (d : DWord) : State := s.setStackTop (s.stackLoc d).off

/-- ENTER of a level above 0 has its display: the enclosing frame pointers, then its own. -/
def State.leveled (s : State) (n l : Nat) : State :=
  if l = 0 then s else (s.displayed n (l - 1)).pushed n s.stackTop.toNat

/-- Its reads and pushes pass their checks. -/
def State.canLevel (s : State) (n l : Nat) : Prop :=
  l = 0 ∨ (s.canDisplay n (l - 1) ∧
    writeFault (s.displayed n (l - 1)) ((s.displayed n (l - 1)).pushLoc n) n 1 = none)


/-! ## String and I/O instructions (44_string_and_io.md R440 to R450; 20_memory.md R160, R165, R166) -/

/-- The element at `seg:(E)SI`. -/
def State.siLoc (s : State) : Loc := s.asLoc (s.segFor .ds) s.gpr.esi

/-- The element at `ES:(E)DI`. -/
def State.diLoc (s : State) : Loc := s.asLoc .es s.gpr.edi

/-- An index register moved past an element of `w` bits, down where DF is set; with AS = 16 its low word alone. -/
def State.stepped (s : State) (r : Reg) (w : Nat) : State :=
  let a := if s.as32 then 32 else 16
  let d : BitVec a := if s.flags.df then 0#a - BitVec.ofNat a (bytesOf w) else BitVec.ofNat a (bytesOf w)
  { s with gpr := s.gpr.write a r (s.gpr.read a r + d) }

/-- ECX or CX by the address size. -/
def State.repCount (s : State) : Nat := if s.as32 then s.gpr.ecx.toNat else (s.gpr.read 16 rC).toNat

/-- The count one lower. -/
def State.counted (s : State) : State :=
  let a := if s.as32 then 32 else 16
  { s with gpr := s.gpr.write a rC (s.gpr.read a rC - 1#a) }

/-- The repetition ends: the count is 0, or after CMPS and SCAS ZF is against the prefix. -/
def State.repEnds (s : State) (scan : Bool) : Prop :=
  s.repCount = 0 ∨ (scan = true ∧ s.flags.zf = (if s.pfx.rep = .rep then false else true))

/-- A string instruction whose one execution turns `s` into `t`. Unprefixed it does that and goes on; with a repeat prefix
each step is one iteration, after which the instruction ends or EIP still names it (R448). In the state between two
iterations no single-step trap is owed (DEDUCED, log 18), and the flags (D45) and the bytes (R155) of the instruction's
start are kept (DEDUCED, log 53). -/
def StringStep (i : Instr) (s t : State) (scan : Bool) : Prop :=
  (s.pfx.rep = .none → exec i s = .next (s.finish t)) ∧
  (s.pfx.rep ≠ .none → s.repCount ≠ 0 →
    (t.counted.repEnds scan → exec i s = .next (s.finish t.counted)) ∧
    (¬ t.counted.repEnds scan →
      exec i s = .next { t.counted with pfx := noPrefixes, trapOwed := false,
                                        repFlags := some (s.repFlags.getD s.flags),
                                        repCode := some (s.repCode.getD (s.fetchWindow s.eip 15)) }))

/-- With a count of 0 nothing happens. -/
def StringNone (i : Instr) : Prop :=
  ∀ s : State, s.pfx.rep ≠ .none → s.repCount = 0 → exec i s = .next (s.finish s)

/-- An element of `w` bits can be read. -/
def State.canReadAt (s : State) (l : Loc) (w : Nat) : Prop := s.reads l (bytesOf w) (bytesOf w)

/-- An element of `w` bits can be written. -/
def State.canWriteAt (s : State) (l : Loc) (w : Nat) : Prop := writeFault s l (bytesOf w) (bytesOf w) = none

/-- The element of `w` bits. -/
def State.item (s : State) (l : Loc) (w : Nat) : BitVec w := BitVec.ofNat w (s.readLin (s.linear l) (bytesOf w))

/-- The element written. -/
def State.putItem (s : State) (l : Loc) (w : Nat) (v : BitVec w) : State := s.store (s.linear l) (bytesOf w) v.toNat

/-- CMPS. -/
def CmpsForm (w : Nat) (i : Instr) : Prop :=
  ∀ s : State, s.canReadAt s.siLoc w → s.canReadAt s.diLoc w →
    StringStep i s (({ s with
      flags := s.flags.sub (s.item s.siLoc w) (s.item s.diLoc w) false }.stepped rSI w).stepped rDI w) true

/-- SCAS. -/
def ScasForm (w : Nat) (i : Instr) : Prop :=
  ∀ s : State, s.canReadAt s.diLoc w →
    StringStep i s ({ s with flags := s.flags.sub (s.gpr.read w rA) (s.item s.diLoc w) false }.stepped rDI w) true

/-- LODS. -/
def LodsForm (w : Nat) (i : Instr) : Prop :=
  ∀ s : State, s.canReadAt s.siLoc w →
    StringStep i s ({ s with gpr := s.gpr.write w rA (s.item s.siLoc w) }.stepped rSI w) false

/-- STOS. -/
def StosForm (w : Nat) (i : Instr) : Prop :=
  ∀ s : State, s.canWriteAt s.diLoc w →
    StringStep i s ((s.putItem s.diLoc w (s.gpr.read w rA)).stepped rDI w) false

/-- MOVS. -/
def MovsForm (w : Nat) (i : Instr) : Prop :=
  ∀ s : State, s.canReadAt s.siLoc w → s.canWriteAt s.diLoc w →
    StringStep i s (((s.putItem s.diLoc w (s.item s.siLoc w)).stepped rSI w).stepped rDI w) false

/-- I/O at a port is allowed: real-address mode; CPL <= IOPL outside virtual-8086 mode; or the bits of the permission map
of a 32-bit TSS for the `n` ports are clear and lie within its limit (R160). -/
def State.ioAllowed (s : State) (port : Word) (n : Nat) : Prop :=
  s.isReal = true ∨ (s.flags.vm = false ∧ s.cpl ≤ s.flags.iopl) ∨
    (s.tr.ty.getLsbD 3 = true ∧
      let at_ := s.readLin (s.tr.base + 0x66#32) 2 + port.toNat / 8
      at_ + 1 ≤ s.tr.limit.toNat ∧
        ∀ k < n, (s.readLin (s.tr.base + BitVec.ofNat 32 at_) 2).testBit (port.toNat % 8 + k) = false)

/-- Where the permission map is consulted, its base in the TSS and the two bytes of it stand in RAM or ROM. -/
def State.ioQuiet (s : State) (port : Word) : Prop :=
  s.isReal = true ∨ (s.flags.vm = false ∧ s.cpl ≤ s.flags.iopl) ∨
    (s.quiet (s.tr.base + 0x66#32) 2 = true ∧
      s.quiet (s.tr.base + BitVec.ofNat 32 (s.readLin (s.tr.base + 0x66#32) 2 + port.toNat / 8)) 2 = true)

/-- The value that the host answers to a read of `w` bits (R166): its next one, all ones where it has none (DESIGN CHOICE,
log 5). -/
def State.offered (s : State) (w : Nat) : BitVec w := (s.host.portIn.headD 0xFFFFFFFF#32).setWidth w

/-- The state after a read of a port: the host's value is used up, and the event is on record, the latest first (DESIGN
CHOICE, log 5). -/
def State.ioIn (s : State) (port : Word) (w : Nat) : State :=
  { s with
    host := { s.host with portIn := s.host.portIn.tail },
    ioTrace := { space := .port, write := false, addr := port.setWidth 32, width := bytesOf w,
                 value := (s.offered w).toNat } :: s.ioTrace }

/-- The state after a write to a port. -/
def State.ioOut (s : State) (port : Word) (w : Nat) (v : BitVec w) : State :=
  { s with ioTrace := { space := .port, write := true, addr := port.setWidth 32, width := bytesOf w,
                        value := v.toNat } :: s.ioTrace }

/-- IN: a port that is not allowed is #GP(0). -/
def InForm (w : Nat) (i : Instr) (port : State → Word) : Prop :=
  ∀ s : State,
    (s.ioAllowed (port s) (bytesOf w) → s.ioQuiet (port s) →
      exec i s = .next (s.finish { s.ioIn (port s) w with gpr := s.gpr.write w rA (s.offered w) })) ∧
    (¬ s.ioAllowed (port s) (bytesOf w) → Takes i s (excGP 0#16))

/-- OUT. -/
def OutForm (w : Nat) (i : Instr) (port : State → Word) : Prop :=
  ∀ s : State,
    (s.ioAllowed (port s) (bytesOf w) → s.ioQuiet (port s) →
      exec i s = .next (s.finish (s.ioOut (port s) w (s.gpr.read w rA)))) ∧
    (¬ s.ioAllowed (port s) (bytesOf w) → Takes i s (excGP 0#16))

/-- The port that DX holds. -/
def dxPort (s : State) : Word := s.gpr.read 16 rD

/-- A string instruction at a port that is not allowed is #GP(0), from the state of this iteration, with the status flags
from before the repetition, unless the repetition is over. -/
def PortRefused (w : Nat) (i : Instr) : Prop :=
  ∀ s : State, ¬ s.ioAllowed (dxPort s) (bytesOf w) → (s.pfx.rep = .none ∨ s.repCount ≠ 0) → Takes i s (excGP 0#16)

/-- INS. -/
def InsForm (w : Nat) (i : Instr) : Prop :=
  PortRefused w i ∧
  ∀ s : State, s.ioAllowed (dxPort s) (bytesOf w) → s.ioQuiet (dxPort s) → s.canWriteAt s.diLoc w →
    StringStep i s (((s.ioIn (dxPort s) w).putItem s.diLoc w (s.offered w)).stepped rDI w) false

/-- OUTS. -/
def OutsForm (w : Nat) (i : Instr) : Prop :=
  PortRefused w i ∧
  ∀ s : State, s.ioAllowed (dxPort s) (bytesOf w) → s.ioQuiet (dxPort s) → s.canReadAt s.siLoc w →
    StringStep i s ((s.ioOut (dxPort s) w (s.item s.siLoc w)).stepped rSI w) false

/-! ## Flags (45_flag_segment_misc.md R480 to R496) -/

/-- IF may be changed by CLI and STI: real-address mode, CPL <= IOPL in protected mode, IOPL = 3 in virtual-8086 mode. -/
def State.mayChangeIf (s : State) : Prop :=
  s.isReal = true ∨ (s.isProt = true ∧ s.cpl ≤ s.flags.iopl) ∨ (s.isV86 = true ∧ s.flags.iopl = 3#2)

/-- The flags that POPF and POPFD leave (R491). -/
def State.popfFlags (s : State) (wide : Bool) (v : DWord) : Flags :=
  { s.flags with
    cf := v.getLsbD 0, pf := v.getLsbD 2, af := v.getLsbD 4, zf := v.getLsbD 6, sf := v.getLsbD 7,
    tf := v.getLsbD 8, df := v.getLsbD 10, ofl := v.getLsbD 11, nt := v.getLsbD 14,
    ifl := if s.flags.vm = true ∨ s.isReal = true ∨ s.cpl ≤ s.flags.iopl then v.getLsbD 9 else s.flags.ifl,
    iopl := if s.flags.vm = false ∧ s.privileged = true then v.extractLsb' 12 2 else s.flags.iopl,
    ac := if wide then v.getLsbD 18 else s.flags.ac, idf := if wide then v.getLsbD 21 else s.flags.idf,
    vip := if wide ∧ s.flags.vm = false then false else s.flags.vip,
    vif := if wide ∧ s.flags.vm = false then false else s.flags.vif }

/-- POPF and POPFD, and #GP(0) in virtual-8086 mode below IOPL 3. -/
def PopfForm (w : Nat) (i : Instr) : Prop :=
  ∀ s : State,
    (s.flags.vm = true ∧ s.flags.iopl ≠ 3#2 → Takes i s (excGP 0#16)) ∧
    (s.flags.vm = false ∨ s.flags.iopl = 3#2 → s.reads (s.stackLoc 0#32) (bytesOf w) (bytesOf w) →
      exec i s = .next (s.finish { s.popped (bytesOf w) with
        flags := s.popfFlags (decide (w = 32)) (BitVec.ofNat 32 (s.stackItem 0 (bytesOf w))) }))

/-- PUSHF and PUSHFD, and #GP(0) in virtual-8086 mode below IOPL 3; the image of PUSHFD has VM and RF clear. -/
def PushfForm (w : Nat) (i : Instr) : Prop :=
  ∀ s : State,
    (s.flags.vm = true ∧ s.flags.iopl ≠ 3#2 → Takes i s (excGP 0#16)) ∧
    (s.flags.vm = false ∨ s.flags.iopl = 3#2 →
      Pushes i s (bytesOf w) ({ s.flags with vm := false, rf := false }.toWord.toNat % 2 ^ w))

/-! ## System instructions (49_system_1.md) -/

/-- Outside protected mode the instruction is #UD. -/
def OnlyProt (i : Instr) : Prop := ∀ s : State, s.isProt = false → Takes i s excUD

/-- In protected mode above CPL 0 and in virtual-8086 mode the instruction is #GP(0). -/
def Privileged (i : Instr) : Prop := ∀ s : State, s.privileged = false → Takes i s (excGP 0#16)

/-- The descriptor that a selector names, for LAR, LSL, VERR and VERW: the selector is not null and in its table, and the
segment is conforming code or neither CPL nor RPL is above its DPL. -/
def State.visible (s : State) (sel : Word) (d : QWord) : Prop :=
  selNull sel = false ∧ (∃ a, s.descAddr sel = some a ∧ d = s.descAt a) ∧
  ((d.getLsbD 44 = true ∧ d.getLsbD 43 = true ∧ d.getLsbD 42 = true) ∨
    (s.cpl ≤ d.extractLsb' 45 2 ∧ rpl sel ≤ d.extractLsb' 45 2))

/-- The descriptor that a selector names, if any, stands in RAM or ROM. -/
def State.quietDesc (s : State) (sel : Word) : Prop := ∀ a, s.descAddr sel = some a → s.quiet a 8 = true

/-- LAR and LSL: where the selector names a visible descriptor of an accepted type, ZF and its value; else ZF clear and
nothing more. The operand has `m` bits, and the selector is its low word. -/
def DescForm (m w : Nat) (ok : QWord → Prop) (val : QWord → DWord) (con : Reg → RM → Instr) : Prop :=
  ∀ (s : State) (r : Reg) (rm : RM), s.isProt = true → s.canRead m rm →
    let sel := (s.rmVal m rm).setWidth 16
    s.quietDesc sel →
    (∀ d, s.visible sel d → ok d →
      WritesRegs (con r rm) s (s.gpr.write w r ((val d).setWidth w)) { s.flags with zf := true }) ∧
    ((∀ d, s.visible sel d → ¬ ok d) → WritesFlags (con r rm) s { s.flags with zf := false })

/-- VERR and VERW: ZF tells whether the segment is visible and may be read, or written. -/
def VerifyForm (ok : QWord → Prop) (con : RM → Instr) : Prop :=
  ∀ (s : State) (rm : RM), s.isProt = true → s.canRead 16 rm → s.quietDesc (s.rmVal 16 rm) →
    (∀ d, s.visible (s.rmVal 16 rm) d → ok d → WritesFlags (con rm) s { s.flags with zf := true }) ∧
    ((∀ d, s.visible (s.rmVal 16 rm) d → ¬ ok d) → WritesFlags (con rm) s { s.flags with zf := false })

/-- A code or data segment, or a system descriptor whose type is in the list. -/
def segmentOr (types : List (BitVec 4)) (d : QWord) : Prop := d.getLsbD 44 = true ∨ d.extractLsb' 40 4 ∈ types

/-- A data segment, or code that may be read. -/
def mayRead (d : QWord) : Prop := d.getLsbD 44 = true ∧ (d.getLsbD 43 = true → d.getLsbD 41 = true)

/-- A selector operand of LLDT, LTR and LMSW can be read; these make no alignment check. -/
def State.canReadSel (s : State) : RM → Prop
  | .reg _ => True
  | .mem e => s.reads (s.eaLoc e) 2 1

/-- A system word stored (R768 to R770): two bytes of memory; of a register the low word, and with `wide` zeros, or for
SMSW any value, above it. -/
def StoresWord (i : Instr) (s : State) (wide : Bool) (rm : RM) (v : Word) (high : Word → Prop) : Prop :=
  match rm with
  | .mem e => s.canStore 16 (.mem e) → WritesRM i s 16 (.mem e) v s.flags
  | .reg r =>
    if wide then ∃ h, high h ∧ WritesRegs i s (s.gpr.write 32 r (h ++ v)) s.flags
    else WritesRegs i s (s.gpr.write 16 r v) s.flags

/-- LGDT and LIDT: the limit first in memory, then the base, 24 bits of it with OS = 16, wherever they stand. -/
def LoadTableForm (put : State → TableReg → State) (con : Ea → Instr) : Prop :=
  ∀ (s : State) (ea : Ea), s.privileged = true → readFault s (s.eaLoc ea) 6 1 = none →
    let a := s.linear (s.eaLoc ea)
    let t := s.sawRead a 2
    exec (con ea) s = .next (s.finish (put (t.sawRead (a + 2#32) 4)
      { limit := BitVec.ofNat 16 (s.readLin a 2),
        base := BitVec.ofNat 32 (t.readLin (a + 2#32) 4) &&& (if s.os32 then 0xFFFFFFFF#32 else 0x00FFFFFF#32) }))

/-- SGDT and SIDT: the same six bytes, at every level, the limit first; the base doubleword has to be aligned where
alignment is checked (log 38). -/
def StoreTableForm (table : State → TableReg) (con : Ea → Instr) : Prop :=
  ∀ (s : State) (ea : Ea), writeFault s (s.eaLoc ea) 6 1 = none →
    (s.alignChecked = false ∨ (s.linear (s.eaLoc ea) + 2#32).toNat % 4 = 0) →
    let a := s.linear (s.eaLoc ea)
    let base := (table s).base &&& (if s.os32 then 0xFFFFFFFF#32 else 0x00FFFFFF#32)
    let t := s.finish ((s.store a 2 (table s).limit.toNat).store (a + 2#32) 4 base.toNat)
    exec (con ea) s = .next t ∧ OnlyBytes s t a 6

/-- The instruction completes with the state `t` but for the six status flags, which are any value. -/
def WritesStatusAny (i : Instr) (s t : State) : Prop :=
  ∃ u n, exec i s = .next (s.finish { t with flags := s.flags.setStatus u, fresh := n })

/-- The debug register that a number names: DR4 and DR5 are DR6 and DR7. -/
def DebugRegs.named (d : DebugRegs) (n : BitVec 3) : DWord :=
  if n = 0#3 then d.dr0 else if n = 1#3 then d.dr1 else if n = 2#3 then d.dr2 else if n = 3#3 then d.dr3
  else if n = 4#3 ∨ n = 6#3 then d.dr6 else d.dr7

/-- The time-stamp counter has advanced from its last reading or write by a positive amount below 2^64, modulo 2^64
(10_state.md R98; 60_exceptions.md R885). -/
def TscAfter (old v : QWord) : Prop := ∃ d : Nat, 0 < d ∧ d < 2 ^ 64 ∧ v.toNat = (old.toNat + d) % 2 ^ 64

/-- After INVD each address written since the last write back reads as its old or its new value, every other one as
before (R753). -/
def Dropped (s : State) (m : Memory) : Prop :=
  m.wf = true ∧ ∀ a, m.read a = s.mem.read a ∨ ∃ old, (a, old) ∈ s.dirty ∧ m.read a = old

/-! ## The floating-point unit (46_fpu_numerics.md R540 to R550) -/

/-- A waiting floating-point instruction goes ahead: EM and TS are clear, and no unmasked exception is pending, or one that
IGNNE# lets pass with NE clear (R540, R549). -/
def State.fpuRuns (s : State) : Prop :=
  s.cr0.getLsbD 2 = false ∧ s.cr0.getLsbD 3 = false ∧
  (s.fpu.es = false ∨ (s.cr0.getLsbD 5 = false ∧ s.host.ignne = true))

/-- The instruction completes with the FPU `g` and nothing else changed. -/
def WritesFpu (i : Instr) (s : State) (g : Fpu) : Prop :=
  ∃ n, exec i s = .next (s.finish { s with fpu := g, fresh := n })

/-- The FPU after an instruction without a memory operand noted its pointers: the data pointer is any value (10_state.md
R105, R106). -/
def State.notedReg (s : State) (op : BitVec 11) (f : Fpu) : Prop :=
  ∃ sel off, f = { s.fpu with fcs := s.seg.cs.sel, fip := s.eip, fop := op, fds := sel, fdp := off }

/-- The same for an instruction with a memory operand; the opcode is the low three bits of the first byte and the ModR/M
byte. -/
def State.notedMem (s : State) (first digit : BitVec 3) (e : Ea) : Fpu :=
  { s.fpu with fcs := s.seg.cs.sel, fip := s.eip, fop := first ++ (encEa digit e).headD 0#8,
               fds := (s.seg.get (s.eaLoc e).seg).sel, fdp := (s.eaLoc e).off }

/-- C0, C2 and C3 any value, all else the same (10_state.md R103). -/
def AnyC (f g : Fpu) : Prop := ∃ a b c, g = { f with st := { f.st with c0 := a, c2 := b, c3 := c } }

/-- All four condition codes any value. -/
def AnyC4 (f g : Fpu) : Prop := ∃ a b c d, g = { f with st := { f.st with c0 := a, c1 := b, c2 := c, c3 := d } }

/-- A stack fault: IE and SF, C1 by its kind, and with IM set the masked response (R542). -/
def Fpu.faulted (f : Fpu) (above : Bool) (masked : Fpu → Fpu) : Fpu :=
  let g := { f with st := { f.st with ie := true, sf := true, c1 := above } }
  if f.cw.getLsbD 0 then masked g else g

/-- An answer: its flags are added, C1 is set, and its value, unless an unmasked exception holds it back, is put where it
belongs (R549). -/
def Fpu.answered {α : Type} (f : Fpu) (c : Calc α) (put : Fpu → α → Fpu) : Fpu :=
  let g := { f with st := { f.st with
    ie := f.st.ie || c.ie, de := f.st.de || c.de, ze := f.st.ze || c.ze, oe := f.st.oe || c.oe,
    ue := f.st.ue || c.ue, pe := f.st.pe || c.pe, c1 := c.c1 } }
  match c.val with
  | none => g
  | some v => put g v

/-- The FPU after an operation on the registers `srcs` with its result in ST(dst) and `k` pops. -/
def Computes (dst : Reg) (k : Nat) (srcs : List Reg) (ans : Fpu → Calc Ext) (f g : Fpu) : Prop :=
  ∃ h, AnyC f h ∧
    g = if srcs.any f.isEmpty then h.faulted false (fun x => (x.setReg dst indefinite).pops k)
        else h.answered (ans f) (fun x v => (x.setReg dst v).pops k)

/-- What FPREM and FPREM1 say of the quotient in the condition codes: its bits 2, 1 and 0 in C0, C3 and C1, and C2 set where
the reduction is incomplete; without a quotient C2 is clear (R656). -/
def quotientCodes (r : Remainder) (t : FpuStatus) : FpuStatus :=
  match r.q with
  | none => { t with c2 := false }
  | some q => { t with c0 := q.testBit 2, c3 := q.testBit 1, c1 := q.testBit 0, c2 := r.incomplete }

/-- An operation that depends on precision control can run: PC is not the reserved 01B, or it needs no precision. -/
def PcOk (srcs : List Reg) (ans : Fpu → Calc Ext) (f : Fpu) : Prop :=
  f.cw.extractLsb' 8 2 ≠ 1#2 ∨ srcs.any f.isEmpty = true ∨ (ans f).usesPc = false

/-- An arithmetic instruction: it completes with what it computes, and with PC = 01B where the precision matters it is
refused (93_implementation_defined.md U-PC-RESERVED; log 16). -/
def Arith (i : Instr) (s : State) (noted : Fpu → Prop) (dst : Reg) (k : Nat) (srcs : List Reg)
    (ans : Fpu → Calc Ext) : Prop :=
  (PcOk srcs ans s.fpu → ∃ f g, noted f ∧ Computes dst k srcs ans f g ∧ WritesFpu i s g) ∧
  (¬ PcOk srcs ans s.fpu → exec i s = .refused .reservedPrecision)

/-- The answer of an operation on two operands, to the precision of PC. -/
def binAnswer (op : BinOp) (f : Fpu) (x y : FpOperand) : Calc Ext :=
  arith f.cw (pcBits f.cw) [x, y] (op f.cw x.val y.val)

/-- ST(0) <- ST(0) op ST(i). -/
def BinTopForm (op : BinOp) (code : BitVec 11) (con : Reg → Instr) : Prop :=
  ∀ (s : State) (i : Reg), s.fpuRuns →
    Arith (con i) s (s.notedReg (code ||| i.setWidth 11)) 0#3 0 [0#3, i]
      fun f => binAnswer op f (regOperand (f.reg 0#3)) (regOperand (f.reg i))

/-- ST(i) <- ST(i) op ST(0), then `k` pops. -/
def BinStiForm (op : BinOp) (code : BitVec 11) (k : Nat) (con : Reg → Instr) : Prop :=
  ∀ (s : State) (i : Reg), s.fpuRuns →
    Arith (con i) s (s.notedReg (code ||| i.setWidth 11)) i k [i, 0#3]
      fun f => binAnswer op f (regOperand (f.reg i)) (regOperand (f.reg 0#3))

/-- A memory operand of `n` bytes, aligned on `al`, of a waiting instruction can be read. -/
def State.fpuReads (s : State) (ea : Ea) (n al : Nat) : Prop := s.fpuRuns ∧ s.reads (s.eaLoc ea) n al

/-- The memory operand. -/
def State.operand (s : State) (ea : Ea) (n : Nat) : Nat := s.readLin (s.linear (s.eaLoc ea)) n

/-- ST(0) <- ST(0) op a real of `n` bytes with `eb` exponent and `fb` fraction bits. -/
def BinRealForm (op : BinOp) (first digit : BitVec 3) (n eb fb : Nat) (con : Ea → Instr) : Prop :=
  ∀ (s : State) (ea : Ea), s.fpuReads ea n n →
    Arith (con ea) s (fun f => f = s.notedMem first digit ea) 0#3 0 [0#3]
      fun f => binAnswer op f (regOperand (f.reg 0#3)) (widenReal eb fb (s.operand ea n))

/-- ST(0) <- ST(0) op an integer of `n` bytes. -/
def BinIntForm (op : BinOp) (first digit : BitVec 3) (n : Nat) (con : Ea → Instr) : Prop :=
  ∀ (s : State) (ea : Ea), s.fpuReads ea n n →
    Arith (con ea) s (fun f => f = s.notedMem first digit ea) 0#3 0 [0#3]
      fun f => binAnswer op f (regOperand (f.reg 0#3))
        (regOperand (extOfInt (BitVec.ofNat (8 * n) (s.operand ea n)).toInt))

/-- An instruction that computes ST(dst) from registers, whatever PC says. -/
def RegForm (op : BitVec 11) (dst : Reg) (k : Nat) (srcs : List Reg) (ans : State → Fpu → Calc Ext) (i : Instr) : Prop :=
  ∀ s : State, s.fpuRuns → ∃ f g, s.notedReg op f ∧ Computes dst k srcs (ans s) f g ∧ WritesFpu i s g

/-- The FPU after a push, or the overflow of the stack. -/
def PushesReg (ans : Fpu → Calc Ext) (f g : Fpu) : Prop :=
  ∃ h, AnyC f h ∧
    g = if f.isEmpty 7#3 then h.answered (ans f) Fpu.push else h.faulted true (fun x => x.push indefinite)

/-- A load from memory that pushes. -/
def LoadForm (first digit : BitVec 3) (n al : Nat) (ans : Fpu → Nat → Calc Ext → Prop) (con : Ea → Instr) : Prop :=
  ∀ (s : State) (ea : Ea), s.fpuReads ea n al →
    ∃ c g, ans s.fpu (s.operand ea n) c ∧ PushesReg (fun _ => c) (s.notedMem first digit ea) g ∧
      WritesFpu (con ea) s g

/-- A constant: the nearest value, or with RC other than nearest either of its two neighbours (R609, U-FLD-CONST; DESIGN
CHOICE, log 29). -/
def nearestOr (nearest other : Ext) (f : Fpu) (v : Ext) : Prop :=
  v = nearest ∨ (f.cw.extractLsb' 10 2 ≠ 0#2 ∧ v = other)

/-- A load of a constant. -/
def ConstForm (op : BitVec 11) (val : Fpu → Ext → Prop) (i : Instr) : Prop :=
  ∀ s : State, s.fpuRuns → ∃ f g v, s.notedReg op f ∧ val f v ∧ PushesReg (fun _ => Calc.pure v) f g ∧ WritesFpu i s g

/-- Memory written where there is a value to write. -/
def State.putBytes (s : State) (l : Loc) (n : Nat) : Option Nat → State
  | none => s
  | some v => s.store (s.linear l) n v

/-- A store of ST(0) with `k` pops: the value and the FPU after it, by the stack fault or the answer. `indef` and `ans`
say which indefinite and which answers are possible. -/
def StoreForm (first digit : BitVec 3) (n al k : Nat) (indef : Nat → Prop) (ans : Word → Ext → Calc Nat → Prop)
    (con : Ea → Instr) : Prop :=
  ∀ (s : State) (ea : Ea), s.fpuRuns → writeFault s (s.eaLoc ea) n al = none →
    ∃ h v c m, AnyC (s.notedMem first digit ea) h ∧ indef v ∧ ans s.fpu.cw (s.fpu.reg 0#3) c ∧
      let g := if s.fpu.isEmpty 0#3 then h.faulted false (fun x => x.pops k)
               else h.answered c (fun x _ => x.pops k)
      let b := if s.fpu.isEmpty 0#3 then (if s.fpu.cw.getLsbD 0 then some v else none) else c.val
      exec (con ea) s = .next (s.finish { s.putBytes (s.eaLoc ea) n b with fpu := g, fresh := m }) ∧
        OnlyBytes s (s.finish { s.putBytes (s.eaLoc ea) n b with fpu := g, fresh := m }) (s.linear (s.eaLoc ea)) n

/-- What a comparison of ST(0) answers as C3 C2 C0: nothing where an unmasked exception holds it back. -/
def comparison (f : Fpu) (quietOk denormals : Bool) (srcs : List Reg) (y : FpOperand) : Option (BitVec 3) :=
  if srcs.any f.isEmpty then (if f.cw.getLsbD 0 then some 7#3 else none)
  else (compare f.cw quietOk denormals (regOperand (f.reg 0#3)) y).val

/-- The FPU after a comparison with `k` pops; with `codes` the answer goes to C3, C2 and C0. -/
def Fpu.compared (f : Fpu) (quietOk denormals codes : Bool) (k : Nat) (srcs : List Reg) (y : FpOperand) : Fpu :=
  let put := fun (x : Fpu) (r : BitVec 3) =>
    (if codes then { x with st := { x.st with c3 := r.getLsbD 2, c2 := r.getLsbD 1, c0 := r.getLsbD 0 } } else x).pops k
  if srcs.any f.isEmpty then f.faulted false (fun x => put x 7#3)
  else f.answered (compare f.cw quietOk denormals (regOperand (f.reg 0#3)) y) put

/-- FCOM, FCOMP, FCOMPP and the unordered ones, with a register. -/
def ComRegForm (op : BitVec 11) (quietOk : Bool) (k : Nat) (r : Reg) (i : Instr) : Prop :=
  ∀ s : State, s.fpuRuns → ∃ f, s.notedReg op f ∧
    WritesFpu i s (f.compared quietOk true true k [0#3, r] (regOperand (f.reg r)))

/-- FCOM, FCOMP, FICOM and FICOMP with memory. -/
def ComMemForm (first digit : BitVec 3) (n k : Nat) (operand : Nat → FpOperand) (con : Ea → Instr) : Prop :=
  ∀ (s : State) (ea : Ea), s.fpuReads ea n n →
    WritesFpu (con ea) s
      ((s.notedMem first digit ea).compared false true true k [0#3] (operand (s.operand ea n)))

/-- FCOMI and its relatives: the answer goes to ZF, PF and CF. -/
def ComFlagsForm (op : BitVec 11) (quietOk : Bool) (k : Nat) (con : Reg → Instr) : Prop :=
  ∀ (s : State) (i : Reg), s.fpuRuns → ∃ f n, s.notedReg (op ||| i.setWidth 11) f ∧
    exec (con i) s = .next (s.finish { s with
      fpu := f.compared quietOk false false k [0#3, i] (regOperand (f.reg i)), fresh := n,
      flags := match comparison f quietOk false [0#3, i] (regOperand (f.reg i)) with
        | none => s.flags
        | some r => { s.flags with zf := r.getLsbD 2, pf := r.getLsbD 1, cf := r.getLsbD 0 } })

/-- A waiting instruction without a memory operand where it does not run: #NM, #MF, or it waits (R540, R549). -/
def FpuWaits (i : Instr) : Prop :=
  ∀ s : State,
    (s.fpuOff = true → Takes i s excNM) ∧
    (s.fpuOff = false → s.fpu.es = true → s.cr0.getLsbD 5 = true → Takes i s excMF) ∧
    (s.fpuOff = false → s.fpu.es = true → s.cr0.getLsbD 5 = false → s.host.ignne = false →
      exec i s = .next { s with pfx := noPrefixes, inhibit := .none })

/-- The same for an instruction with a memory operand. -/
def FpuWaitsMem (con : Ea → Instr) : Prop := ∀ ea, FpuWaits (con ea)

/-- The state between WAIT and the rest of a composite form: one byte on. -/
def State.afterWait (s : State) : State := s.completed { s with eip := s.eip + 1#32, inhibit := .none }

/-- WAIT passes: not with both MP and TS set, and no pending exception that traps or waits (R725, R549). -/
def State.waitPasses (s : State) : Prop :=
  (s.cr0.getLsbD 1 = false ∨ s.cr0.getLsbD 3 = false) ∧
  (s.fpu.es = false ∨ (s.cr0.getLsbD 5 = false ∧ s.host.ignne = true))

/-- WAIT passes and no event comes between it and the rest of a composite form (log 10). -/
def State.compositeRuns (s : State) : Prop := s.waitPasses ∧ boundary s.afterWait = none

/-- WAIT and the composite forms where their WAIT does not pass: #NM with MP and TS set, and else with an unmasked exception
pending #MF where NE is set, and the wait where NE is clear and IGNNE# inactive (R725, R549). -/
def WaitStops (i : Instr) : Prop :=
  ∀ s : State,
    let passes := s.cr0.getLsbD 1 = false ∨ s.cr0.getLsbD 3 = false
    (s.cr0.getLsbD 1 = true → s.cr0.getLsbD 3 = true → Takes i s excNM) ∧
    (passes → s.fpu.es = true → s.cr0.getLsbD 5 = true → Takes i s excMF) ∧
    (passes → s.fpu.es = true → s.cr0.getLsbD 5 = false → s.host.ignne = false →
      exec i s = .next { s with pfx := noPrefixes, inhibit := .none })

/-- A composite form: the stops of its WAIT; and behind a WAIT that passes the #NM of its second half, with EM or TS set. -/
def CompositeStops (i : Instr) : Prop :=
  WaitStops i ∧ ∀ s : State, s.compositeRuns → s.fpuOff = true → exec i s = stopped s.afterWait excNM

/-- A control instruction that begins in `s` and does its work from the state `s0`: EM and TS have to be clear. It
completes with the FPU `g`. -/
def ControlFrom (i : Instr) (s s0 : State) (post : Fpu → Fpu → Prop) : Prop :=
  s0.fpuOff = false → ∃ g n, post s0.fpu g ∧ exec i s = .next (s0.finish { s0 with fpu := g, fresh := n })

/-- What holds of a composite form from the state after its WAIT, whose condition codes are those before it (log 10). -/
def AfterWait (s : State) (P : State → Prop) : Prop := s.compositeRuns → P s.afterWait

/-- A control instruction that does not wait, and the composite form of it. -/
def ControlForms (i w : Instr) (post : Fpu → Fpu → Prop) : Prop :=
  ∀ s, ControlFrom i s s post ∧ AfterWait s fun s0 => ControlFrom w s s0 post

/-- A control instruction that stores `n` bytes, aligned on `al`. -/
def StoresFrom (i : Instr) (s s0 : State) (ea : Ea) (n al : Nat) (val : State → Nat → Prop) (post : Fpu → Fpu → Prop) :
    Prop :=
  s0.fpuOff = false → writeFault s0 (s0.eaLoc ea) n al = none →
    ∃ v g m, val s0 v ∧ post s0.fpu g ∧
      exec i s = .next (s0.finish { s0.store (s0.linear (s0.eaLoc ea)) n v with fpu := g, fresh := m }) ∧
      OnlyBytes s (s0.finish { s0.store (s0.linear (s0.eaLoc ea)) n v with fpu := g, fresh := m })
        (s0.linear (s0.eaLoc ea)) n

/-- A storing control instruction that does not wait, and the composite form of it; sizes may depend on the operand
size. -/
def StoreControlForms (n al : State → Nat) (val : State → Nat → Prop) (post : Fpu → Fpu → Prop) (con wait : Ea → Instr) :
    Prop :=
  ∀ s ea, StoresFrom (con ea) s s ea (n s) (al s) val post ∧
    AfterWait s fun s0 => StoresFrom (wait ea) s s0 ea (n s0) (al s0) val post

/-- FPU after FINIT: control word 037FH, status and pointers 0, every register empty; the data registers stay (R709). -/
def Fpu.cleared (f : Fpu) : Fpu :=
  { f with
    cw := 0x037F#16, fcs := 0#16, fip := 0#32, fds := 0#16, fdp := 0#32, fop := 0#11,
    empty := Vector.replicate 8 true,
    st := { ie := false, de := false, ze := false, oe := false, ue := false, pe := false, sf := false, c0 := false,
            c1 := false, c2 := false, c3 := false, top := 0#3 } }

/-! ## Status word, tag word and images (10_state.md R102, R104; 46_fpu_numerics.md R570) -/

/-- The `n` bits of a number from bit `b` on. -/
def field (v b n : Nat) : Nat := v / 2 ^ b % 2 ^ n

/-- The places of the exception flags, the condition codes and TOP in the status word (R102). -/
def StatusIn (t : FpuStatus) (w : Nat) : Prop :=
  w.testBit 0 = t.ie ∧ w.testBit 1 = t.de ∧ w.testBit 2 = t.ze ∧ w.testBit 3 = t.oe ∧ w.testBit 4 = t.ue ∧
  w.testBit 5 = t.pe ∧ w.testBit 6 = t.sf ∧ w.testBit 8 = t.c0 ∧ w.testBit 9 = t.c1 ∧ w.testBit 10 = t.c2 ∧
  field w 11 3 = t.top.toNat ∧ w.testBit 14 = t.c3

/-- The status word of an FPU: besides that, ES in bit 7 and B in bit 15, which tell of an exception flag whose mask bit is
clear (R102; B: D69). -/
def StatusWordIn (f : Fpu) (w : Nat) : Prop :=
  let es := (f.st.ie && !f.cw.getLsbD 0) || (f.st.de && !f.cw.getLsbD 1) || (f.st.ze && !f.cw.getLsbD 2) ||
    (f.st.oe && !f.cw.getLsbD 3) || (f.st.ue && !f.cw.getLsbD 4) || (f.st.pe && !f.cw.getLsbD 5)
  StatusIn f.st w ∧ w.testBit 7 = es ∧ w.testBit 15 = es

/-- The tag word: the tag of physical register `i` in bits 2i+1:2i, 11B empty, 01B a zero, 00B a normal finite number, else
10B (R104). -/
def TagsIn (f : Fpu) (w : Nat) : Prop :=
  ∀ i : Fin 8, field w (2 * i.val) 2 =
    if f.empty.get i = true then 3 else if isZero (f.regs.get i) = true then 1
    else if classOf (f.regs.get i) = .normal then 0 else 2

/-- The environment in the image of 28 bytes of protected mode. -/
def EnvProt32 (f : Fpu) (v : Nat) : Prop :=
  field v 0 16 = f.cw.toNat ∧ StatusWordIn f (field v 32 16) ∧ TagsIn f (field v 64 16) ∧
  field v 96 32 = f.fip.toNat ∧ field v 128 16 = f.fcs.toNat ∧ field v 144 11 = f.fop.toNat ∧ field v 155 5 = 0 ∧
  field v 160 32 = f.fdp.toNat ∧ field v 192 16 = f.fds.toNat

/-- The linear address of a pointer that the formats outside protected mode hold. -/
def linearPointer (sel : Word) (off : DWord) : Nat := (16 * sel.toNat + off.toNat) % 2 ^ 32

/-- The environment in the image of 28 bytes outside protected mode. -/
def EnvReal32 (f : Fpu) (v : Nat) : Prop :=
  let i := linearPointer f.fcs f.fip
  let d := linearPointer f.fds f.fdp
  field v 0 16 = f.cw.toNat ∧ StatusWordIn f (field v 32 16) ∧ TagsIn f (field v 64 16) ∧
  field v 96 16 = field i 0 16 ∧ field v 128 11 = f.fop.toNat ∧ field v 139 1 = 0 ∧ field v 140 16 = field i 16 16 ∧
  field v 156 4 = 0 ∧ field v 160 16 = field d 0 16 ∧ field v 192 12 = 0 ∧ field v 204 16 = field d 16 16 ∧
  field v 220 4 = 0

/-- The environment in the image of 14 bytes of protected mode. -/
def EnvProt16 (f : Fpu) (v : Nat) : Prop :=
  field v 0 16 = f.cw.toNat ∧ StatusWordIn f (field v 16 16) ∧ TagsIn f (field v 32 16) ∧
  field v 48 16 = field f.fip.toNat 0 16 ∧ field v 64 16 = f.fcs.toNat ∧ field v 80 16 = field f.fdp.toNat 0 16 ∧
  field v 96 16 = f.fds.toNat

/-- The environment in the image of 14 bytes outside protected mode. -/
def EnvReal16 (f : Fpu) (v : Nat) : Prop :=
  let i := linearPointer f.fcs f.fip
  let d := linearPointer f.fds f.fdp
  field v 0 16 = f.cw.toNat ∧ StatusWordIn f (field v 16 16) ∧ TagsIn f (field v 32 16) ∧
  field v 48 16 = field i 0 16 ∧ field v 64 11 = f.fop.toNat ∧ field v 75 1 = 0 ∧ field v 76 4 = field i 16 4 ∧
  field v 80 16 = field d 0 16 ∧ field v 96 12 = 0 ∧ field v 108 4 = field d 16 4

/-- Control, status and tags loaded from an image whose words stand `n` bits apart: bits 7 and 15 of the status word are
ignored, and a tag tells only whether its register is empty. The data registers stay. -/
def LoadedWords (f g : Fpu) (v n : Nat) : Prop :=
  g.cw.toNat = field v 0 16 ∧ StatusIn g.st (field v n 16) ∧
  (∀ i : Fin 8, g.empty.get i = decide (field v (2 * n + 2 * i.val) 2 = 3)) ∧ g.regs = f.regs

/-- Instruction and data pointer, as numbers. -/
def PointersAre (g : Fpu) (cs ip ds dp : Nat) : Prop :=
  g.fcs.toNat = cs ∧ g.fip.toNat = ip ∧ g.fds.toNat = ds ∧ g.fdp.toNat = dp

/-! ## Memory that is not RAM (20_memory.md R162, R167; 00_scope.md R12) -/

/-- The state after the processor reads the descriptor that a selector names, if it is not null and in its table. -/
def State.sawSel (s : State) (sel : Word) : State :=
  if selNull sel then s
  else match s.descAddr sel with
    | none => s
    | some a => s.sawRead a 8

/-- The state after the reads of the permission map: its base in the TSS, then two bytes of it. -/
def State.sawMap (s : State) (port : Word) : State :=
  (s.sawRead (s.tr.base + 0x66#32) 2).sawRead
    (s.tr.base + BitVec.ofNat 32 (s.readLin (s.tr.base + 0x66#32) 2 + port.toNat / 8)) 2

/-- The descriptor at `a` marked by one bit of its type: a read of all its eight bytes and a write of them (20_memory.md R145;
49_system_1.md R760). -/
def State.marked (s : State) (a : DWord) (bit : Nat) : State :=
  (s.sawRead a 8).store a 8 (s.descAt a ||| (1#64 <<< bit)).toNat

/-- The processor's own reads and writes, wherever they go: a descriptor that is loaded or looked at, its accessed and busy
bits, the permission map, and the code itself (20_memory.md R138, R145, R162; log 56). The mark of a descriptor reads it
once more, which is the model's choice (DESIGN CHOICE, log 56). The permission map is read for
IN AL,DX (R160, R442; log 54), whose value is the host's (R166; its form is the model's choice, DESIGN CHOICE, log 5). -/
def OwnAccesses (s : State) : Prop :=
  (∀ (sr : SegReg) (sel : Word) (a : DWord), s.descAddr sel = some a → s.loadFromTable sr sel =
    { (s.sawRead a 8).setAccessed a with seg := s.seg.set sr (segOfDesc sel (s.descAt a ||| (1#64 <<< 40))) }) ∧
  (∀ a : DWord, s.setAccessed a = if (s.descAt a).getLsbD 40 then s else s.marked a 40) ∧
  (∀ (off : DWord) (sel : Word) (a : DWord), s.isProt = true → selNull sel = false → s.descAddr sel = some a →
    (s.descAt a).getLsbD 44 = true → (s.descAt a).getLsbD 43 = true → (s.descAt a).getLsbD 42 = false →
    (s.descAt a).getLsbD 47 = true → rpl sel ≤ s.cpl → descDpl (s.descAt a) = s.cpl → s.inSeg a off →
    exec (.jmpPtr16x32 sel off) s = .next (s.done ((s.sawRead a 8).entered sel a (s.descAt a) s.cpl off))) ∧
  (∀ r : Reg, s.isProt = true → ∃ z, exec (.verrRm16 (.reg r)) s =
    .next (s.finish { s.sawSel (s.gpr.read 16 r) with flags := { s.flags with zf := z } })) ∧
  (∀ (r : Reg) (a : DWord), s.isProt = true → s.cpl = 0#2 → selNull (s.gpr.read 16 r) = false →
    selTi (s.gpr.read 16 r) = false → s.descAddr (s.gpr.read 16 r) = some a → (s.descAt a).getLsbD 44 = false →
    (s.descAt a).getLsbD 47 = true → (descType (s.descAt a) = 1#4 ∨ descType (s.descAt a) = 9#4) →
    ∃ t : SysSeg, exec (.ltrRm16 (.reg r)) s = .next (s.finish { (s.sawRead a 8).marked a 41 with tr := t })) ∧
  (s.isProt = true → s.flags.iopl < s.cpl → s.ioAllowed (dxPort s) 1 →
    exec .inAlDx s = .next (s.finish { (s.sawMap (dxPort s)).ioIn (dxPort s) 8 with
      gpr := s.gpr.write 8 rA (s.offered 8) })) ∧
  (∀ n : Nat, s.repCode = none → s.fetched n =
    { s with nextEip := s.nextEip + BitVec.ofNat 32 n,
             ioTrace := (s.sawRead (s.seg.cs.base + s.nextEip) n).ioTrace }) ∧
  (∀ n : Nat, s.repCode ≠ none → s.fetched n = { s with nextEip := s.nextEip + BitVec.ofNat 32 n })

/-- A load of a register completes whatever its place holds. -/
def LoadsAnywhere (w : Nat) (con : Reg → RM → Instr) : Prop :=
  ∀ (s : State) (r : Reg) (e : Ea), readFault s (s.eaLoc e) (bytesOf w) (bytesOf w) = none →
    exec (con r (.mem e)) s = .next (s.finish { s.sawRead (s.linear (s.eaLoc e)) (bytesOf w) with
      gpr := s.gpr.write w r (s.rmVal w (.mem e)) })

/-- A read and write of a place completes whatever it holds: at a device that is two events. -/
def UpdatesAnywhere (w : Nat) (f : BitVec w → BitVec w) (con : RM → Instr) : Prop :=
  ∀ (s : State) (e : Ea), writeFault s (s.eaLoc e) (bytesOf w) (bytesOf w) = none →
    exec (con (.mem e)) s = .next (s.finish ((s.sawRead (s.linear (s.eaLoc e)) (bytesOf w)).store
      (s.linear (s.eaLoc e)) (bytesOf w) (f (s.rmVal w (.mem e))).toNat))

/-- The event of a store of `n` bytes. -/
def State.storeTrace (s : State) (a : DWord) (n v : Nat) : List IoEvent :=
  if s.touches .device a n then
    { space := .memory, write := true, addr := BitVec.ofNat 32 (s.phys a), width := n, value := v % 256 ^ n } ::
      s.ioTrace
  else s.ioTrace

/-! ## Call gates (43_control_transfer_1.md R394, R395, R408) -/

/-- `k` parameters copied, the highest first, from the stack that `s` names to the current one of `t`. -/
def State.copied (s t : State) (n : Nat) : Nat → State
  | 0 => t
  | k + 1 => State.copied s (t.pushed n (t.readLin (s.linear (s.stackLoc (BitVec.ofNat 32 (k * n)))) n)) n k

/-- The call gate of `ThroughGate`, where its code selector or the new stack does not pass: #GP and #NP with the code selector,
#GP(0) for a null one and for an offset beyond the limit, #SS(0) without room on the current stack, #TS and #SS with the
selector of the new stack (R394, R395, R407). -/
def GateFaults (s : State) (jmp call : Instr) (gate : QWord) : Prop :=
  let csel := gateSel gate
  let n := gateBytes gate
  (selNull csel = true → Takes jmp s (excGP 0#16) ∧ Takes call s (excGP 0#16)) ∧
  (selNull csel = false → s.descAddr csel = none → Takes jmp s (excGP (codeOf csel)) ∧ Takes call s (excGP (codeOf csel))) ∧
  (∀ a, selNull csel = false → s.descAddr csel = some a →
    let cs := s.descAt a
    let same := (cs.getLsbD 42 = true ∧ descDpl cs ≤ s.cpl) ∨ descDpl cs = s.cpl
    (¬ codeSegment cs ∨ ¬ same → Takes jmp s (excGP (codeOf csel))) ∧
    (¬ codeSegment cs ∨ s.cpl < descDpl cs → Takes call s (excGP (codeOf csel))) ∧
    (codeSegment cs → cs.getLsbD 47 = false → (same → Takes jmp s (excNP (codeOf csel))) ∧
      (descDpl cs ≤ s.cpl → Takes call s (excNP (codeOf csel))))) ∧
  (∀ a, s.codeAt csel a →
    let cs := s.descAt a
    let l := descDpl cs
    ((cs.getLsbD 42 = true ∧ l ≤ s.cpl) ∨ l = s.cpl →
      (s.stackRoom n 2 = false → Takes call s (excSS 0#16)) ∧
      (¬ s.inSeg a (gateOff gate) → Takes jmp s (excGP 0#16) ∧ (s.stackRoom n 2 = true → Takes call s (excGP 0#16)))) ∧
    (cs.getLsbD 42 = false → l < s.cpl →
      ((if s.tr.ty.getLsbD 3 then s.tr.limit.toNat < 8 * l.toNat + 11 else s.tr.limit.toNat < 4 * l.toNat + 6) →
        Takes call s (excTS (codeOf s.tr.sel))) ∧
      ∀ ss esp, s.innerStack l ss esp →
        (selNull ss = true → Takes call s (excTS 0#16)) ∧
        (selNull ss = false → s.descAddr ss = none → Takes call s (excTS (codeOf ss))) ∧
        (∀ b, selNull ss = false → s.descAddr ss = some b →
          (wrongStack ss l (s.descAt b) → Takes call s (excTS (codeOf ss))) ∧
          (¬ wrongStack ss l (s.descAt b) → (s.descAt b).getLsbD 47 = false → Takes call s (excSS (codeOf ss)))) ∧
        (∀ b, s.stackAt ss l b →
          let room := roomBelow (segOfDesc ss (s.descAt b)) (descDb (s.descAt b)) (wrapOff (descDb (s.descAt b)) esp) n
            (gateCount gate + 4)
          (room = false → Takes call s (excSS (codeOf ss))) ∧
          (room = true → ¬ s.inSeg a (gateOff gate) → Takes call s (excGP 0#16)))))

/-- Far JMP and CALL whose selector names a call gate at `g`, present and open to CPL and RPL: the faults of what it names; and
where its code segment stands at `a`: to the same level, and for CALL to a more privileged one, where the new SS:ESP and
CS:EIP are loaded before the pushes on the new stack. -/
def ThroughGate (s : State) (jmp call : Instr) (sel : Word) : Prop :=
  ∀ g : DWord, s.isProt = true → selNull sel = false → s.descAddr sel = some g → s.quiet g 8 = true →
    let gate := s.descAt g
    let n := gateBytes gate
    gate.getLsbD 44 = false → (descType gate = 4#4 ∨ descType gate = 0xC#4) → s.gateLevel sel gate →
    descP gate = true →
    GateFaults s jmp call gate ∧
    ∀ a, s.codeAt (gateSel gate) a → s.inSeg a (gateOff gate) →
      let cs := s.descAt a
      ((cs.getLsbD 42 = true ∧ descDpl cs ≤ s.cpl) ∨ descDpl cs = s.cpl →
        exec jmp s = .next (s.done (s.entered (gateSel gate) a cs s.cpl (gateOff gate))) ∧
        (s.stackRoom n 2 = true → s.canPushAll n n s.returnItems →
          exec call s = .next (s.done ((s.pushedAll n s.returnItems).entered (gateSel gate) a cs s.cpl (gateOff gate))))) ∧
      (∀ ss b esp, cs.getLsbD 42 = false → descDpl cs < s.cpl →
        s.innerRoom (descDpl cs) ss esp b n (gateCount gate + 4) →
        (∀ k < gateCount gate, s.reads (s.stackLoc (BitVec.ofNat 32 (k * n))) n 1) →
        let t := (s.onStack ss b (s.descAt b) esp).entered (gateSel gate) a cs (descDpl cs) (gateOff gate)
        exec call s = .next (s.done ((s.copied (t.pushedAll n [s.seg.ss.sel.toNat, s.gpr.esp.toNat]) n
          (gateCount gate)).pushedAll n s.returnItems)))

/-! ## Numbers (46_fpu_numerics.md R533, R544, R546, R548) -/

/-- Two exact numbers are equal. -/
def Dyadic.same (a b : Dyadic) : Prop := ∀ e, e ≤ a.exp → e ≤ b.exp → a.scaled e = b.scaled e

/-- One exact number is less than another. -/
def Dyadic.less (a b : Dyadic) : Prop := ∀ e, e ≤ a.exp → e ≤ b.exp → a.scaled e < b.scaled e

/-- The power of two 2^k. -/
def powerOfTwo (k : Int) : Dyadic := { sign := false, mant := 1, exp := k }

/-- The magnitude of a number is less than another number. -/
def Dyadic.below (a b : Dyadic) : Prop := { a with sign := false }.less b

/-- The magnitude of a number is at most another number. -/
def Dyadic.atMost (a b : Dyadic) : Prop := ¬ b.less { a with sign := false }

/-- The magnitude m of an operand is at most 1 - sqrt 2 / 2: m <= 1, and 1 <= 2 (1 - m)^2 (R692). -/
def logRange (x : Ext) : Prop :=
  ∀ e, e ≤ (valueOf x).exp → e ≤ 0 →
    let m := (valueOf x).mant * 2 ^ ((valueOf x).exp - e).toNat
    let one := 2 ^ (-e).toNat
    m ≤ one ∧ one * one ≤ 2 * ((one - m) * (one - m))

/-- A zero of a sign. -/
def zeroOf (sign : Bool) : Ext := BitVec.ofBool sign ++ 0#79

/-- An infinity of a sign. -/
def infOf (sign : Bool) : Ext := BitVec.ofBool sign ++ 0x7FFF#15 ++ 0x8000000000000000#64

/-- The answers at two points lie in the order of the function there, rising or falling (R560): the results of 64 bits, and
the numbers that are rounded once more. -/
def AnswersInOrder (op : Config.Transcend) (rc : BitVec 2) (y x y' x' : Ext) : Prop :=
  asked op y' x' = true →
    let rises := valueLe op y x y' x' = true
    let falls := valueLe op y' x' y x = true
    let g := transcend op rc y x
    let g' := transcend op rc y' x'
    (rises ∨ falls) ∧ (rises → g.le g' = true) ∧ (falls → g'.le g = true) ∧
    ((approx op y x).mant ≠ 0 → (approx op y' x').mant ≠ 0 →
      ∀ a b, asks op rc y x = .num a → asks op rc y' x' = .num b →
        (rises → a.le b = true) ∧ (falls → b.le a = true))

/-- A rounded number with its sign. -/
def Rounded.value (sign : Bool) (r : Rounded) : Dyadic := { sign := sign, mant := r.mant, exp := r.exp }

/-- `r` is the magnitude of `d` rounded to a multiple of 2^(its exponent) by RC, and tells whether that was inexact and
whether the magnitude grew (R544, Table 7-5). -/
def RoundsTo (d : Dyadic) (rc : BitVec 2) (r : Rounded) : Prop :=
  ∀ e, e ≤ d.exp → e ≤ r.exp →
    let x := d.mant * 2 ^ (d.exp - e).toNat
    let y := r.mant * 2 ^ (r.exp - e).toNat
    let u := 2 ^ (r.exp - e).toNat
    (r.inexact = decide (y ≠ x)) ∧ (r.up = decide (x < y)) ∧
    (rc = 0#2 → (2 * y ≤ 2 * x + u ∧ 2 * x ≤ 2 * y + u) ∧
      (2 * y = 2 * x + u ∨ 2 * x = 2 * y + u → r.mant % 2 = 0)) ∧
    (rc = 3#2 → y ≤ x ∧ x < y + u) ∧
    (rc = 1#2 → if d.sign then x ≤ y ∧ y < x + u else y ≤ x ∧ x < y + u) ∧
    (rc = 2#2 → if d.sign then y ≤ x ∧ x < y + u else x ≤ y ∧ y < x + u)

/-- An extended real is the finite number `d`. -/
def IsNumber (x : Ext) (d : Dyadic) : Prop := isFinite x = true ∧ xSign x = d.sign ∧ (valueOf x).same d

/-- An answer that sets no flag but those named, and has a value or none. -/
def Answer {α : Type} (ie de ze oe ue pe c1 : Bool) (pc : Bool) (val : Option α) : Calc α :=
  { ie := ie, de := de, ze := ze, oe := oe, ue := ue, pe := pe, c1 := c1, usesPc := pc, val := val }

/-- The answer of an invalid operation, `v` being its masked response (R543). -/
def InvalidAnswer {α : Type} (cw : Word) (v : α) : Calc α :=
  Answer true false false false false false false false (if cw.getLsbD 0 then some v else none)

/-- An answer `c` of an operation with a denormal operand: DE is added, and unmasked that is all (R545),
with C1 = 0 (DEDUCED, log 45). -/
def DenormalAnswer {α : Type} (cw : Word) (den : Bool) (c : Calc α) : Calc α :=
  if den = false then c
  else if cw.getLsbD 1 then { c with de := true }
  else Answer false true false false false false false false none

/-- An infinity is the rounded form of an overflow: to nearest, and toward its sign (R546, Table 7-22). -/
def toInfinity (rc : BitVec 2) (sign : Bool) : Bool :=
  rc == 0#2 || (rc == 1#2 && sign) || (rc == 2#2 && !sign)

/-- An infinity with a sign, by its bits. -/
def isInfinity (x : Ext) (sign : Bool) : Prop :=
  x = BitVec.ofBool sign ++ 0x7FFF#15 ++ 0x8000000000000000#64

/-- A zero with a sign, by its bits. -/
def isSignedZero (x : Ext) (sign : Bool) : Prop := x = BitVec.ofBool sign ++ 0#79

/-- The result of an operation that is not exact zero, rounded to `p` bits: in range, overflow or underflow, masked or not
(R544, R546). `r` is the number rounded to `p` bits without a bound on the exponent, `k` its exponent. The largest value of
`p` bits and the single rounding of a tiny result are DEDUCED, #P and C1 by the significand where an unmasked answer is an
infinity or a zero are a DESIGN CHOICE (log 46). -/
def RegisterResult (cw : Word) (p : Nat) (d : Dyadic) (c : Calc Ext) : Prop :=
  let rc := rcOf cw
  let r := d.roundTo rc p
  let k := r.exp + p - 1
  (-16382 ≤ k → k ≤ 16383 →
    ∃ v, IsNumber v (r.value d.sign) ∧ c = Answer false false false false false r.inexact r.up true (some v)) ∧
  (16383 < k → cw.getLsbD 3 = true → ∃ v, c =
      Answer false false false true false true (toInfinity rc d.sign) true (some v) ∧
    (if toInfinity rc d.sign then isInfinity v d.sign
     else IsNumber v { sign := d.sign, mant := 2 ^ p - 1, exp := 16384 - p })) ∧
  (16383 < k → cw.getLsbD 3 = false → ∃ v, c = Answer false false false true false r.inexact r.up true (some v) ∧
    (if k ≤ 16383 + 24576 then IsNumber v { r.value d.sign with exp := r.exp - 24576 } else isInfinity v d.sign)) ∧
  (k < -16382 → cw.getLsbD 4 = true →
    let t := d.roundAt rc (-16381 - p)
    ∃ v, c = Answer false false false false t.inexact t.inexact t.up true (some v) ∧ IsNumber v (t.value d.sign)) ∧
  (k < -16382 → cw.getLsbD 4 = false → ∃ v, c = Answer false false false false true r.inexact r.up true (some v) ∧
    (if -16382 - 24576 ≤ k then IsNumber v { r.value d.sign with exp := r.exp + 24576 } else isSignedZero v d.sign))

/-- The result of a store of a number that is not zero in a real format (R546, R610): `w` reads the stored bits back. -/
def StoredReal (cw : Word) (eb fb : Nat) (d : Dyadic) (c : Calc Nat) : Prop :=
  let rc := rcOf cw
  let bias : Int := 2 ^ (eb - 1) - 1
  let r := d.roundTo rc (fb + 1)
  let k := r.exp + fb
  let reads := fun (v : Nat) (x : Dyadic) => v < 2 ^ (eb + fb + 1) ∧ IsNumber (widenReal eb fb v).val x
  (1 - bias ≤ k → k ≤ bias → ∃ v, reads v (r.value d.sign) ∧
    c = Answer false false false false false r.inexact r.up false (some v)) ∧
  (bias < k → if cw.getLsbD 3 then
      ∃ v, c = Answer false false false true false true (toInfinity rc d.sign) false (some v) ∧
        (if toInfinity rc d.sign then isInfinity (widenReal eb fb v).val d.sign
         else reads v { sign := d.sign, mant := 2 ^ (fb + 1) - 1, exp := bias - fb })
    else c = Answer false false false true false false false false none) ∧
  (k < 1 - bias → if cw.getLsbD 4 then
      let t := d.roundAt rc (1 - bias - fb)
      ∃ v, c = Answer false false false false t.inexact t.inexact t.up false (some v) ∧ reads v (t.value d.sign)
    else c = Answer false false false false true false false false none)

end Sys2Proof.Machine
end

