-- ==== Sys2Proof/Certificates/Slice0/Obligations.lean ====
section
/-! DEFINITION. The statements for the provers. -/

open Sys2Proof Sys2Proof.Machine

/-- ADD, ADC, SUB and SBB: result, flags and frame of all 56 forms, and AddFlags and SubFlags by their arithmetic
meaning. Every form of ADD and ADC completes whenever its memory operand (if any) passes the access checks: the
destination takes the sum (with CF for ADC), the flags those of AddFlags, and nothing else changes but the bytes of a
memory destination. Every form of SUB and SBB completes whenever its memory operand (if any) passes the access checks:
the destination takes the difference (less CF for SBB), the flags those of SubFlags, and nothing else changes but the
bytes of a memory destination. For sums and differences with carry and borrow in every width: the result modulo 2^n,
CF as carry out or borrow, AF out of bit 3 and as bit 4 of the exclusive or, OF as the signed result outside its range
(R61 and R62 mark their formulas as derived), ZF, SF, and PF by the number of 1 bits of the low byte. -/
def Obligations.AddSubResult : Prop :=
  (FormAccImm (addRel fun _ => false) 8 .addAlImm8 ∧ FormAccImm (addRel fun _ => false) 16 .addAxImm16 ∧
  FormAccImm (addRel fun _ => false) 32 .addEaxImm32 ∧ FormRmImm (addRel fun _ => false) 8 8 .addRm8Imm8 ∧
  FormRmImm (addRel fun _ => false) 16 16 .addRm16Imm16 ∧ FormRmImm (addRel fun _ => false) 32 32 .addRm32Imm32 ∧
  FormRmImm (addRel fun _ => false) 16 8 .addRm16Imm8 ∧ FormRmImm (addRel fun _ => false) 32 8 .addRm32Imm8 ∧
  FormRmReg (addRel fun _ => false) 8 .addRm8R8 ∧ FormRmReg (addRel fun _ => false) 16 .addRm16R16 ∧
  FormRmReg (addRel fun _ => false) 32 .addRm32R32 ∧ FormRegRm (addRel fun _ => false) 8 .addR8Rm8 ∧
  FormRegRm (addRel fun _ => false) 16 .addR16Rm16 ∧ FormRegRm (addRel fun _ => false) 32 .addR32Rm32 ∧
  FormAccImm (addRel fun f => f.cf) 8 .adcAlImm8 ∧ FormAccImm (addRel fun f => f.cf) 16 .adcAxImm16 ∧
  FormAccImm (addRel fun f => f.cf) 32 .adcEaxImm32 ∧ FormRmImm (addRel fun f => f.cf) 8 8 .adcRm8Imm8 ∧
  FormRmImm (addRel fun f => f.cf) 16 16 .adcRm16Imm16 ∧ FormRmImm (addRel fun f => f.cf) 32 32 .adcRm32Imm32 ∧
  FormRmImm (addRel fun f => f.cf) 16 8 .adcRm16Imm8 ∧ FormRmImm (addRel fun f => f.cf) 32 8 .adcRm32Imm8 ∧
  FormRmReg (addRel fun f => f.cf) 8 .adcRm8R8 ∧ FormRmReg (addRel fun f => f.cf) 16 .adcRm16R16 ∧
  FormRmReg (addRel fun f => f.cf) 32 .adcRm32R32 ∧ FormRegRm (addRel fun f => f.cf) 8 .adcR8Rm8 ∧
  FormRegRm (addRel fun f => f.cf) 16 .adcR16Rm16 ∧ FormRegRm (addRel fun f => f.cf) 32 .adcR32Rm32) ∧
  (FormAccImm (subRel fun _ => false) 8 .subAlImm8 ∧ FormAccImm (subRel fun _ => false) 16 .subAxImm16 ∧
  FormAccImm (subRel fun _ => false) 32 .subEaxImm32 ∧ FormRmImm (subRel fun _ => false) 8 8 .subRm8Imm8 ∧
  FormRmImm (subRel fun _ => false) 16 16 .subRm16Imm16 ∧ FormRmImm (subRel fun _ => false) 32 32 .subRm32Imm32 ∧
  FormRmImm (subRel fun _ => false) 16 8 .subRm16Imm8 ∧ FormRmImm (subRel fun _ => false) 32 8 .subRm32Imm8 ∧
  FormRmReg (subRel fun _ => false) 8 .subRm8R8 ∧ FormRmReg (subRel fun _ => false) 16 .subRm16R16 ∧
  FormRmReg (subRel fun _ => false) 32 .subRm32R32 ∧ FormRegRm (subRel fun _ => false) 8 .subR8Rm8 ∧
  FormRegRm (subRel fun _ => false) 16 .subR16Rm16 ∧ FormRegRm (subRel fun _ => false) 32 .subR32Rm32 ∧
  FormAccImm (subRel fun f => f.cf) 8 .sbbAlImm8 ∧ FormAccImm (subRel fun f => f.cf) 16 .sbbAxImm16 ∧
  FormAccImm (subRel fun f => f.cf) 32 .sbbEaxImm32 ∧ FormRmImm (subRel fun f => f.cf) 8 8 .sbbRm8Imm8 ∧
  FormRmImm (subRel fun f => f.cf) 16 16 .sbbRm16Imm16 ∧ FormRmImm (subRel fun f => f.cf) 32 32 .sbbRm32Imm32 ∧
  FormRmImm (subRel fun f => f.cf) 16 8 .sbbRm16Imm8 ∧ FormRmImm (subRel fun f => f.cf) 32 8 .sbbRm32Imm8 ∧
  FormRmReg (subRel fun f => f.cf) 8 .sbbRm8R8 ∧ FormRmReg (subRel fun f => f.cf) 16 .sbbRm16R16 ∧
  FormRmReg (subRel fun f => f.cf) 32 .sbbRm32R32 ∧ FormRegRm (subRel fun f => f.cf) 8 .sbbR8Rm8 ∧
  FormRegRm (subRel fun f => f.cf) 16 .sbbR16Rm16 ∧ FormRegRm (subRel fun f => f.cf) 32 .sbbR32Rm32) ∧
  (∀ (w : Nat) (f : Flags) (a b : BitVec w) (c : Bool), (w = 8 ∨ w = 16 ∨ w = 32) →
    let s := a.toNat + b.toNat + c.toNat
    let d : Int := a.toNat - b.toNat - c.toNat
    let r := addResult a b c
    let q := subResult a b c
    r.toNat = s % 2 ^ w ∧ (f.add a b c).cf = decide (2 ^ w ≤ s) ∧
    (f.add a b c).af = decide (16 ≤ a.toNat % 16 + b.toNat % 16 + c.toNat) ∧
    (f.add a b c).af = (a ^^^ b ^^^ r).getLsbD 4 ∧
    (f.add a b c).ofl = decide (a.toInt + b.toInt + c.toNat < -2 ^ (w - 1) ∨ 2 ^ (w - 1) ≤ a.toInt + b.toInt + c.toNat) ∧
    (q.toNat : Int) = d % 2 ^ w ∧ (f.sub a b c).cf = decide (d < 0) ∧
    (f.sub a b c).af = decide (a.toNat % 16 < b.toNat % 16 + c.toNat) ∧
    (f.sub a b c).af = (a ^^^ b ^^^ q).getLsbD 4 ∧
    (f.sub a b c).ofl = decide (a.toInt - b.toInt - c.toNat < -2 ^ (w - 1) ∨ 2 ^ (w - 1) ≤ a.toInt - b.toInt - c.toNat) ∧
    (∀ v ∈ [(r, f.add a b c), (q, f.sub a b c)], v.2.zf = decide (v.1 = 0#w) ∧ v.2.sf = v.1.getLsbD (w - 1) ∧
      v.2.pf = decide (((List.range 8).countP fun k => v.1.getLsbD k) % 2 = 0)))

/-- CMP and TEST: flags and frame of all 23 forms, and the orders that the conditions tell after CMP. Every form of
CMP sets the flags of the subtraction and every form of TEST those of AND; no operand is written and memory only has
to be readable. After CMP of a with b, B, AE, E, NE, BE and A are the unsigned relations of a to b, and L, GE, LE and
G the signed ones, in every width. -/
def Obligations.CompareAndTest : Prop :=
  (TestAccImm (subRel fun _ => false) 8 .cmpAlImm8 ∧ TestAccImm (subRel fun _ => false) 16 .cmpAxImm16 ∧
  TestAccImm (subRel fun _ => false) 32 .cmpEaxImm32 ∧ TestRmImm (subRel fun _ => false) 8 8 .cmpRm8Imm8 ∧
  TestRmImm (subRel fun _ => false) 16 16 .cmpRm16Imm16 ∧ TestRmImm (subRel fun _ => false) 32 32 .cmpRm32Imm32 ∧
  TestRmImm (subRel fun _ => false) 16 8 .cmpRm16Imm8 ∧ TestRmImm (subRel fun _ => false) 32 8 .cmpRm32Imm8 ∧
  TestRmReg (subRel fun _ => false) 8 .cmpRm8R8 ∧ TestRmReg (subRel fun _ => false) 16 .cmpRm16R16 ∧
  TestRmReg (subRel fun _ => false) 32 .cmpRm32R32 ∧ TestRegRm (subRel fun _ => false) 8 .cmpR8Rm8 ∧
  TestRegRm (subRel fun _ => false) 16 .cmpR16Rm16 ∧ TestRegRm (subRel fun _ => false) 32 .cmpR32Rm32 ∧
  TestAccImm (logicRel fun _ a b => a &&& b) 8 .testAlImm8 ∧
  TestAccImm (logicRel fun _ a b => a &&& b) 16 .testAxImm16 ∧
  TestAccImm (logicRel fun _ a b => a &&& b) 32 .testEaxImm32 ∧
  TestRmImm (logicRel fun _ a b => a &&& b) 8 8 .testRm8Imm8 ∧
  TestRmImm (logicRel fun _ a b => a &&& b) 16 16 .testRm16Imm16 ∧
  TestRmImm (logicRel fun _ a b => a &&& b) 32 32 .testRm32Imm32 ∧
  TestRmReg (logicRel fun _ a b => a &&& b) 8 .testRm8R8 ∧
  TestRmReg (logicRel fun _ a b => a &&& b) 16 .testRm16R16 ∧
  TestRmReg (logicRel fun _ a b => a &&& b) 32 .testRm32R32) ∧
  (∀ (w : Nat) (f : Flags) (a b : BitVec w), (w = 8 ∨ w = 16 ∨ w = 32) →
    let g := f.sub a b false
    (g.cond 2#4 = decide (a.toNat < b.toNat)) ∧ (g.cond 3#4 = decide (b.toNat ≤ a.toNat)) ∧
    (g.cond 4#4 = decide (a = b)) ∧ (g.cond 5#4 = decide (a ≠ b)) ∧
    (g.cond 6#4 = decide (a.toNat ≤ b.toNat)) ∧ (g.cond 7#4 = decide (b.toNat < a.toNat)) ∧
    (g.cond 12#4 = decide (a.toInt < b.toInt)) ∧ (g.cond 13#4 = decide (b.toInt ≤ a.toInt)) ∧
    (g.cond 14#4 = decide (a.toInt ≤ b.toInt)) ∧ (g.cond 15#4 = decide (b.toInt < a.toInt)))

/-- AND, OR, XOR, INC, DEC, NEG and NOT: result, flags and frame of all 58 forms. Every form of AND, OR and XOR
completes with the bitwise result, OF and CF clear, SF ZF PF from the result, AF any value, and nothing else changed.
Every form of INC, DEC, NEG and NOT completes: INC and DEC leave CF, NEG sets the flags of 0 minus the operand, NOT
changes no flag, and nothing else changes but the destination. -/
def Obligations.LogicAndUnary : Prop :=
  (FormAccImm (logicRel fun _ a b => a &&& b) 8 .andAlImm8 ∧
  FormAccImm (logicRel fun _ a b => a &&& b) 16 .andAxImm16 ∧
  FormAccImm (logicRel fun _ a b => a &&& b) 32 .andEaxImm32 ∧
  FormRmImm (logicRel fun _ a b => a &&& b) 8 8 .andRm8Imm8 ∧
  FormRmImm (logicRel fun _ a b => a &&& b) 16 16 .andRm16Imm16 ∧
  FormRmImm (logicRel fun _ a b => a &&& b) 32 32 .andRm32Imm32 ∧
  FormRmImm (logicRel fun _ a b => a &&& b) 16 8 .andRm16Imm8 ∧
  FormRmImm (logicRel fun _ a b => a &&& b) 32 8 .andRm32Imm8 ∧
  FormRmReg (logicRel fun _ a b => a &&& b) 8 .andRm8R8 ∧ FormRmReg (logicRel fun _ a b => a &&& b) 16 .andRm16R16 ∧
  FormRmReg (logicRel fun _ a b => a &&& b) 32 .andRm32R32 ∧ FormRegRm (logicRel fun _ a b => a &&& b) 8 .andR8Rm8 ∧
  FormRegRm (logicRel fun _ a b => a &&& b) 16 .andR16Rm16 ∧
  FormRegRm (logicRel fun _ a b => a &&& b) 32 .andR32Rm32 ∧
  FormAccImm (logicRel fun _ a b => a ||| b) 8 .orAlImm8 ∧
  FormAccImm (logicRel fun _ a b => a ||| b) 16 .orAxImm16 ∧
  FormAccImm (logicRel fun _ a b => a ||| b) 32 .orEaxImm32 ∧
  FormRmImm (logicRel fun _ a b => a ||| b) 8 8 .orRm8Imm8 ∧
  FormRmImm (logicRel fun _ a b => a ||| b) 16 16 .orRm16Imm16 ∧
  FormRmImm (logicRel fun _ a b => a ||| b) 32 32 .orRm32Imm32 ∧
  FormRmImm (logicRel fun _ a b => a ||| b) 16 8 .orRm16Imm8 ∧
  FormRmImm (logicRel fun _ a b => a ||| b) 32 8 .orRm32Imm8 ∧
  FormRmReg (logicRel fun _ a b => a ||| b) 8 .orRm8R8 ∧ FormRmReg (logicRel fun _ a b => a ||| b) 16 .orRm16R16 ∧
  FormRmReg (logicRel fun _ a b => a ||| b) 32 .orRm32R32 ∧ FormRegRm (logicRel fun _ a b => a ||| b) 8 .orR8Rm8 ∧
  FormRegRm (logicRel fun _ a b => a ||| b) 16 .orR16Rm16 ∧
  FormRegRm (logicRel fun _ a b => a ||| b) 32 .orR32Rm32 ∧
  FormAccImm (logicRel fun _ a b => a ^^^ b) 8 .xorAlImm8 ∧
  FormAccImm (logicRel fun _ a b => a ^^^ b) 16 .xorAxImm16 ∧
  FormAccImm (logicRel fun _ a b => a ^^^ b) 32 .xorEaxImm32 ∧
  FormRmImm (logicRel fun _ a b => a ^^^ b) 8 8 .xorRm8Imm8 ∧
  FormRmImm (logicRel fun _ a b => a ^^^ b) 16 16 .xorRm16Imm16 ∧
  FormRmImm (logicRel fun _ a b => a ^^^ b) 32 32 .xorRm32Imm32 ∧
  FormRmImm (logicRel fun _ a b => a ^^^ b) 16 8 .xorRm16Imm8 ∧
  FormRmImm (logicRel fun _ a b => a ^^^ b) 32 8 .xorRm32Imm8 ∧
  FormRmReg (logicRel fun _ a b => a ^^^ b) 8 .xorRm8R8 ∧ FormRmReg (logicRel fun _ a b => a ^^^ b) 16 .xorRm16R16 ∧
  FormRmReg (logicRel fun _ a b => a ^^^ b) 32 .xorRm32R32 ∧ FormRegRm (logicRel fun _ a b => a ^^^ b) 8 .xorR8Rm8 ∧
  FormRegRm (logicRel fun _ a b => a ^^^ b) 16 .xorR16Rm16 ∧
  FormRegRm (logicRel fun _ a b => a ^^^ b) 32 .xorR32Rm32) ∧
  (FormRm incRel 8 .incRm8 ∧ FormRm incRel 16 .incRm16 ∧ FormRm incRel 32 .incRm32 ∧ FormReg incRel 16 .incR16 ∧
  FormReg incRel 32 .incR32 ∧ FormRm decRel 8 .decRm8 ∧ FormRm decRel 16 .decRm16 ∧ FormRm decRel 32 .decRm32 ∧
  FormReg decRel 16 .decR16 ∧ FormReg decRel 32 .decR32 ∧ FormRm negRel 8 .negRm8 ∧ FormRm negRel 16 .negRm16 ∧
  FormRm negRel 32 .negRm32 ∧ FormRm notRel 8 .notRm8 ∧ FormRm notRel 16 .notRm16 ∧ FormRm notRel 32 .notRm32)

/-- MUL, IMUL, DIV and IDIV: product, quotient, remainder, flags, frame, and where #DE is taken. Every form of MUL and
IMUL completes with the exact product in its destination (cut to the width for the two- and three-operand IMUL), CF =
OF telling whether the product exceeds the single width, the other status flags any value, nothing else changed. DIV
and IDIV complete where the divisor is not 0 and the quotient fits, with the quotient truncated toward 0 and the
remainder of the sign of the dividend; the six status flags become any value and nothing else changes. DIV and IDIV
take the divide-error exception, from the state before them, where the divisor is 0 or the quotient does not fit the
destination. -/
def Obligations.MulDivResult : Prop :=
  (MulForm 8 .mulRm8 ∧ MulForm 16 .mulRm16 ∧ MulForm 32 .mulRm32 ∧ ImulForm1 8 .imulRm8 ∧ ImulForm1 16 .imulRm16 ∧
  ImulForm1 32 .imulRm32 ∧ ImulForm2 16 .imulR16Rm16 ∧ ImulForm2 32 .imulR32Rm32 ∧ ImulForm3 16 8 .imulR16Rm16Imm8 ∧
  ImulForm3 32 8 .imulR32Rm32Imm8 ∧ ImulForm3 16 16 .imulR16Rm16Imm16 ∧ ImulForm3 32 32 .imulR32Rm32Imm32) ∧
  (DivForm 8 .divRm8 ∧ DivForm 16 .divRm16 ∧ DivForm 32 .divRm32 ∧ IdivForm 8 .idivRm8 ∧ IdivForm 16 .idivRm16 ∧
  IdivForm 32 .idivRm32) ∧
  (DivError 8 .divRm8 ∧ DivError 16 .divRm16 ∧ DivError 32 .divRm32 ∧ IdivError 8 .idivRm8 ∧ IdivError 16 .idivRm16 ∧
  IdivError 32 .idivRm32)

/-- AAA, AAS, AAD, AAM, DAA and DAS: result, flags and frame; AAM with 0 takes #DE. The six decimal-adjust
instructions complete from every state (AAM with an immediate that is not 0) with the results and flags of their
rules, the flags that the rules leave undefined any value, and nothing else changed; AAM with 0 takes #DE, which is
the spec's own inference. -/
def Obligations.DecimalResult : Prop :=
  ∀ s : State,
    let al := s.gpr.read 8 rA
    let ah := s.gpr.read 8 rAH
    let low := decide (9 < al.toNat % 16) || s.flags.af
    (∃ u, WritesRegs .aaa s
      ((s.gpr.write 8 rA ((if low then al + 6#8 else al) &&& 0x0F#8)).write 8 rAH (if low then ah + 1#8 else ah))
      { s.flags.setStatus u with af := low, cf := low }) ∧
    (∃ u, WritesRegs .aas s
      ((s.gpr.write 8 rA ((if low then al - 6#8 else al) &&& 0x0F#8)).write 8 rAH (if low then ah - 1#8 else ah))
      { s.flags.setStatus u with af := low, cf := low }) ∧
    (∀ imm : Byte, ∃ u, WritesRegs (.aadImm8 imm) s ((s.gpr.write 8 rA (al + ah * imm)).write 8 rAH 0#8)
      ((s.flags.setStatus u).szp (al + ah * imm))) ∧
    (∀ imm : Byte, imm ≠ 0#8 → ∃ u, WritesRegs (.aamImm8 imm) s ((s.gpr.write 8 rAH (al / imm)).write 8 rA (al % imm))
      ((s.flags.setStatus u).szp (al % imm))) ∧
    Takes (.aamImm8 0#8) s excDE ∧
    (let al1 := if low then al + 6#8 else al
     let cf1 := s.flags.cf || (low && decide (256 ≤ al.toNat + 6))
     let high := decide (0x90 < (al1 &&& 0xF0#8).toNat) || cf1
     let al2 := if high then al1 + 0x60#8 else al1
     ∃ o, WritesRegs .daa s (s.gpr.write 8 rA al2) { s.flags.szp al2 with af := low, cf := high, ofl := o }) ∧
    (let al1 := if low then al - 6#8 else al
     let cf1 := s.flags.cf || (low && decide (al.toNat < 6))
     let high := decide (0x9F < al1.toNat) || cf1
     let al2 := if high then al1 - 0x60#8 else al1
     ∃ o, WritesRegs .das s (s.gpr.write 8 rA al2) { s.flags.szp al2 with af := low, cf := high, ofl := o })

/-- SAL/SHL, SHR, SAR, SHLD and SHRD: result, flags and frame of all 35 forms. Every shift completes with the masked
count: 0 changes nothing; else the shifted value, SF ZF PF from it, CF the last bit shifted out, OF for a count of 1,
the undefined flags any value. CF of SHL and SHR for a count equal to the size is left any value, as D48 asks of a
proof (log 23). Every double shift completes with the masked count: 0 changes nothing; a count of the size or more
leaves the destination and the status flags any value; else the bits enter from the source, SF ZF PF from the result,
CF the last bit out, OF for a count of 1, nothing else changed. -/
def Obligations.ShiftResult : Prop :=
  (CountOne shlRel 8 .salRm8One ∧ CountOne shlRel 16 .salRm16One ∧ CountOne shlRel 32 .salRm32One ∧
  CountCl shlRel 8 .salRm8Cl ∧ CountCl shlRel 16 .salRm16Cl ∧ CountCl shlRel 32 .salRm32Cl ∧
  CountImm shlRel 8 .salRm8Imm8 ∧ CountImm shlRel 16 .salRm16Imm8 ∧ CountImm shlRel 32 .salRm32Imm8 ∧
  CountOne shrRel 8 .shrRm8One ∧ CountOne shrRel 16 .shrRm16One ∧ CountOne shrRel 32 .shrRm32One ∧
  CountCl shrRel 8 .shrRm8Cl ∧ CountCl shrRel 16 .shrRm16Cl ∧ CountCl shrRel 32 .shrRm32Cl ∧
  CountImm shrRel 8 .shrRm8Imm8 ∧ CountImm shrRel 16 .shrRm16Imm8 ∧ CountImm shrRel 32 .shrRm32Imm8 ∧
  CountOne sarRel 8 .sarRm8One ∧ CountOne sarRel 16 .sarRm16One ∧ CountOne sarRel 32 .sarRm32One ∧
  CountCl sarRel 8 .sarRm8Cl ∧ CountCl sarRel 16 .sarRm16Cl ∧ CountCl sarRel 32 .sarRm32Cl ∧
  CountImm sarRel 8 .sarRm8Imm8 ∧ CountImm sarRel 16 .sarRm16Imm8 ∧ CountImm sarRel 32 .sarRm32Imm8) ∧
  (DoubleImm (doubleRel (fun w d s c => (d <<< c) ||| (s >>> (w - c))) fun w c => w - c) 16 .shldRm16R16Imm8 ∧
  DoubleImm (doubleRel (fun w d s c => (d <<< c) ||| (s >>> (w - c))) fun w c => w - c) 32 .shldRm32R32Imm8 ∧
  DoubleCl (doubleRel (fun w d s c => (d <<< c) ||| (s >>> (w - c))) fun w c => w - c) 16 .shldRm16R16Cl ∧
  DoubleCl (doubleRel (fun w d s c => (d <<< c) ||| (s >>> (w - c))) fun w c => w - c) 32 .shldRm32R32Cl ∧
  DoubleImm (doubleRel (fun w d s c => (d >>> c) ||| (s <<< (w - c))) fun _ c => c - 1) 16 .shrdRm16R16Imm8 ∧
  DoubleImm (doubleRel (fun w d s c => (d >>> c) ||| (s <<< (w - c))) fun _ c => c - 1) 32 .shrdRm32R32Imm8 ∧
  DoubleCl (doubleRel (fun w d s c => (d >>> c) ||| (s <<< (w - c))) fun _ c => c - 1) 16 .shrdRm16R16Cl ∧
  DoubleCl (doubleRel (fun w d s c => (d >>> c) ||| (s <<< (w - c))) fun _ c => c - 1) 32 .shrdRm32R32Cl)

/-- ROL, ROR, RCL and RCR: result, flags and frame of all 36 forms, step by step. Every rotate completes with the
masked count: 0 changes nothing; else the rotated value and CF, OF for a count of 1 (any value for a larger one), SF
ZF AF PF untouched, nothing else changed. What the rotate functions compute is the statement RotateSteps. For each
width and each count from 1 to 31, the value and CF that ROL, ROR, RCL and RCR give are those of c steps of one bit,
the steps being the ones R350 writes down. -/
def Obligations.RotateResult : Prop :=
  (CountOne (rotateRel rolFn leftOf) 8 .rolRm8One ∧ CountOne (rotateRel rolFn leftOf) 16 .rolRm16One ∧
  CountOne (rotateRel rolFn leftOf) 32 .rolRm32One ∧ CountCl (rotateRel rolFn leftOf) 8 .rolRm8Cl ∧
  CountCl (rotateRel rolFn leftOf) 16 .rolRm16Cl ∧ CountCl (rotateRel rolFn leftOf) 32 .rolRm32Cl ∧
  CountImm (rotateRel rolFn leftOf) 8 .rolRm8Imm8 ∧ CountImm (rotateRel rolFn leftOf) 16 .rolRm16Imm8 ∧
  CountImm (rotateRel rolFn leftOf) 32 .rolRm32Imm8 ∧ CountOne (rotateRel rorFn rightOf) 8 .rorRm8One ∧
  CountOne (rotateRel rorFn rightOf) 16 .rorRm16One ∧ CountOne (rotateRel rorFn rightOf) 32 .rorRm32One ∧
  CountCl (rotateRel rorFn rightOf) 8 .rorRm8Cl ∧ CountCl (rotateRel rorFn rightOf) 16 .rorRm16Cl ∧
  CountCl (rotateRel rorFn rightOf) 32 .rorRm32Cl ∧ CountImm (rotateRel rorFn rightOf) 8 .rorRm8Imm8 ∧
  CountImm (rotateRel rorFn rightOf) 16 .rorRm16Imm8 ∧ CountImm (rotateRel rorFn rightOf) 32 .rorRm32Imm8 ∧
  CountOne (rotateRel rclFn leftOf) 8 .rclRm8One ∧ CountOne (rotateRel rclFn leftOf) 16 .rclRm16One ∧
  CountOne (rotateRel rclFn leftOf) 32 .rclRm32One ∧ CountCl (rotateRel rclFn leftOf) 8 .rclRm8Cl ∧
  CountCl (rotateRel rclFn leftOf) 16 .rclRm16Cl ∧ CountCl (rotateRel rclFn leftOf) 32 .rclRm32Cl ∧
  CountImm (rotateRel rclFn leftOf) 8 .rclRm8Imm8 ∧ CountImm (rotateRel rclFn leftOf) 16 .rclRm16Imm8 ∧
  CountImm (rotateRel rclFn leftOf) 32 .rclRm32Imm8 ∧ CountOne (rotateRel rcrFn rightOf) 8 .rcrRm8One ∧
  CountOne (rotateRel rcrFn rightOf) 16 .rcrRm16One ∧ CountOne (rotateRel rcrFn rightOf) 32 .rcrRm32One ∧
  CountCl (rotateRel rcrFn rightOf) 8 .rcrRm8Cl ∧ CountCl (rotateRel rcrFn rightOf) 16 .rcrRm16Cl ∧
  CountCl (rotateRel rcrFn rightOf) 32 .rcrRm32Cl ∧ CountImm (rotateRel rcrFn rightOf) 8 .rcrRm8Imm8 ∧
  CountImm (rotateRel rcrFn rightOf) 16 .rcrRm16Imm8 ∧ CountImm (rotateRel rcrFn rightOf) 32 .rcrRm32Imm8) ∧
  (∀ (w c : Nat) (d : BitVec w) (cf : Bool), (w = 8 ∨ w = 16 ∨ w = 32) → 0 < c → c < 32 →
    rolFn w c d cf = rotateSteps (rolStep w) c (d, cf) ∧ rorFn w c d cf = rotateSteps (rorStep w) c (d, cf) ∧
    rclFn w c d cf = rotateSteps (rclStep w) c (d, cf) ∧ rcrFn w c d cf = rotateSteps (rcrStep w) c (d, cf))

/-- BT, BTC, BTR, BTS, BSF and BSR: bit, index, flags and frame of all 20 forms. BT puts the selected bit into CF and
writes nothing; BTC, BTR and BTS also complement, clear or set that bit and no other, in the register or in the OS/8
bytes that hold it; the other status flags become any value. BSF writes the index of the least, BSR of the most
significant 1 bit and clears ZF; a source of 0 sets ZF and leaves any value in the destination; the other status flags
become any value and nothing else changes. With AS = 16 the address of those bytes, EA + OS/8 * (offset DIV OS), is
taken modulo 2^16: that is the model's choice (DESIGN CHOICE, log 63), for R343 does not say what happens where the
sum leaves the range of a 16-bit offset. That the access is of exactly OS/8 bytes is D22. -/
def Obligations.BitResult : Prop :=
  (BitReg BitTested 16 .btRm16R16 ∧ BitReg BitTested 32 .btRm32R32 ∧ BitImm BitTested 16 .btRm16Imm8 ∧
  BitImm BitTested 32 .btRm32Imm8 ∧ BitReg (BitChanged fun b => !b) 16 .btcRm16R16 ∧
  BitReg (BitChanged fun b => !b) 32 .btcRm32R32 ∧ BitImm (BitChanged fun b => !b) 16 .btcRm16Imm8 ∧
  BitImm (BitChanged fun b => !b) 32 .btcRm32Imm8 ∧ BitReg (BitChanged fun _ => false) 16 .btrRm16R16 ∧
  BitReg (BitChanged fun _ => false) 32 .btrRm32R32 ∧ BitImm (BitChanged fun _ => false) 16 .btrRm16Imm8 ∧
  BitImm (BitChanged fun _ => false) 32 .btrRm32Imm8 ∧ BitReg (BitChanged fun _ => true) 16 .btsRm16R16 ∧
  BitReg (BitChanged fun _ => true) 32 .btsRm32R32 ∧ BitImm (BitChanged fun _ => true) 16 .btsRm16Imm8 ∧
  BitImm (BitChanged fun _ => true) 32 .btsRm32Imm8) ∧
  (ScanForm lowestOne 16 .bsfR16Rm16 ∧ ScanForm lowestOne 32 .bsfR32Rm32 ∧ ScanForm highestOne 16 .bsrR16Rm16 ∧
  ScanForm highestOne 32 .bsrR32Rm32)

/-- SETcc and CMOVcc: condition, result and frame of all 48 forms. SETcc writes 1 or 0 by its condition of Appendix B;
CMOVcc moves the source, which has to be readable in any case, only where its condition holds; no flag and nothing
else changes. -/
def Obligations.SetAndMoveOnCondition : Prop :=
  SetForm (fun f => f.ofl) .setoRm8 ∧ SetForm (fun f => !f.ofl) .setnoRm8 ∧ SetForm (fun f => f.cf) .setbRm8 ∧
  SetForm (fun f => !f.cf) .setaeRm8 ∧ SetForm (fun f => f.zf) .seteRm8 ∧ SetForm (fun f => !f.zf) .setneRm8 ∧
  SetForm (fun f => f.cf || f.zf) .setbeRm8 ∧ SetForm (fun f => !(f.cf || f.zf)) .setaRm8 ∧
  SetForm (fun f => f.sf) .setsRm8 ∧ SetForm (fun f => !f.sf) .setnsRm8 ∧ SetForm (fun f => f.pf) .setpRm8 ∧
  SetForm (fun f => !f.pf) .setnpRm8 ∧ SetForm (fun f => f.sf ^^ f.ofl) .setlRm8 ∧
  SetForm (fun f => !(f.sf ^^ f.ofl)) .setgeRm8 ∧ SetForm (fun f => (f.sf ^^ f.ofl) || f.zf) .setleRm8 ∧
  SetForm (fun f => !((f.sf ^^ f.ofl) || f.zf)) .setgRm8 ∧ CmovForm (fun f => f.ofl) 16 .cmovoR16Rm16 ∧
  CmovForm (fun f => !f.ofl) 16 .cmovnoR16Rm16 ∧ CmovForm (fun f => f.cf) 16 .cmovbR16Rm16 ∧
  CmovForm (fun f => !f.cf) 16 .cmovaeR16Rm16 ∧ CmovForm (fun f => f.zf) 16 .cmoveR16Rm16 ∧
  CmovForm (fun f => !f.zf) 16 .cmovneR16Rm16 ∧ CmovForm (fun f => f.cf || f.zf) 16 .cmovbeR16Rm16 ∧
  CmovForm (fun f => !(f.cf || f.zf)) 16 .cmovaR16Rm16 ∧ CmovForm (fun f => f.sf) 16 .cmovsR16Rm16 ∧
  CmovForm (fun f => !f.sf) 16 .cmovnsR16Rm16 ∧ CmovForm (fun f => f.pf) 16 .cmovpR16Rm16 ∧
  CmovForm (fun f => !f.pf) 16 .cmovnpR16Rm16 ∧ CmovForm (fun f => f.sf ^^ f.ofl) 16 .cmovlR16Rm16 ∧
  CmovForm (fun f => !(f.sf ^^ f.ofl)) 16 .cmovgeR16Rm16 ∧
  CmovForm (fun f => (f.sf ^^ f.ofl) || f.zf) 16 .cmovleR16Rm16 ∧
  CmovForm (fun f => !((f.sf ^^ f.ofl) || f.zf)) 16 .cmovgR16Rm16 ∧ CmovForm (fun f => f.ofl) 32 .cmovoR32Rm32 ∧
  CmovForm (fun f => !f.ofl) 32 .cmovnoR32Rm32 ∧ CmovForm (fun f => f.cf) 32 .cmovbR32Rm32 ∧
  CmovForm (fun f => !f.cf) 32 .cmovaeR32Rm32 ∧ CmovForm (fun f => f.zf) 32 .cmoveR32Rm32 ∧
  CmovForm (fun f => !f.zf) 32 .cmovneR32Rm32 ∧ CmovForm (fun f => f.cf || f.zf) 32 .cmovbeR32Rm32 ∧
  CmovForm (fun f => !(f.cf || f.zf)) 32 .cmovaR32Rm32 ∧ CmovForm (fun f => f.sf) 32 .cmovsR32Rm32 ∧
  CmovForm (fun f => !f.sf) 32 .cmovnsR32Rm32 ∧ CmovForm (fun f => f.pf) 32 .cmovpR32Rm32 ∧
  CmovForm (fun f => !f.pf) 32 .cmovnpR32Rm32 ∧ CmovForm (fun f => f.sf ^^ f.ofl) 32 .cmovlR32Rm32 ∧
  CmovForm (fun f => !(f.sf ^^ f.ofl)) 32 .cmovgeR32Rm32 ∧
  CmovForm (fun f => (f.sf ^^ f.ofl) || f.zf) 32 .cmovleR32Rm32 ∧
  CmovForm (fun f => !((f.sf ^^ f.ofl) || f.zf)) 32 .cmovgR32Rm32

/-- MOV, MOVSX, MOVZX, CBW, CWD, BSWAP, XLAT and XCHG with the accumulator: result and frame. Every general form of
MOV copies its source, MOVSX and MOVZX extend theirs; no flag changes and nothing else but the destination. The sign
conversions, BSWAP (the four bytes reversed; any value in a 16-bit register with OS = 16), XLAT and the one-byte XCHG
complete with the values of their rules, no flag and nothing else changed. -/
def Obligations.MoveAndConvert : Prop :=
  (MovToRM 8 .movRm8R8 ∧ MovToRM 16 .movRm16R16 ∧ MovToRM 32 .movRm32R32 ∧ MovFromRM 8 8 (fun v => v) .movR8Rm8 ∧
  MovFromRM 16 16 (fun v => v) .movR16Rm16 ∧ MovFromRM 32 32 (fun v => v) .movR32Rm32 ∧
  MovFromMoffs 8 .movAlMoffs8 ∧ MovFromMoffs 16 .movAxMoffs16 ∧ MovFromMoffs 32 .movEaxMoffs32 ∧
  MovToMoffs 8 .movMoffs8Al ∧ MovToMoffs 16 .movMoffs16Ax ∧ MovToMoffs 32 .movMoffs32Eax ∧ MovImm 8 .movR8Imm8 ∧
  MovImm 16 .movR16Imm16 ∧ MovImm 32 .movR32Imm32 ∧ MovImmRM 8 .movRm8Imm8 ∧ MovImmRM 16 .movRm16Imm16 ∧
  MovImmRM 32 .movRm32Imm32 ∧ MovFromRM 8 16 (fun v => v.signExtend 16) .movsxR16Rm8 ∧
  MovFromRM 8 32 (fun v => v.signExtend 32) .movsxR32Rm8 ∧ MovWord (fun v => v.signExtend 32) .movsxR32Rm16 ∧
  MovFromRM 8 16 (fun v => v.setWidth 16) .movzxR16Rm8 ∧ MovFromRM 8 32 (fun v => v.setWidth 32) .movzxR32Rm8 ∧
  MovWord (fun v => v.setWidth 32) .movzxR32Rm16) ∧
  ((∀ s : State, WritesRegs .cbw s (s.gpr.write 16 rA ((s.gpr.read 8 rA).signExtend 16)) s.flags ∧
    WritesRegs .cwde s (s.gpr.write 32 rA ((s.gpr.read 16 rA).signExtend 32)) s.flags ∧
    WritesRegs .cwd s (s.gpr.write 16 rD (if (s.gpr.read 16 rA).msb then 0xFFFF#16 else 0#16)) s.flags ∧
    WritesRegs .cdq s (s.gpr.write 32 rD (if (s.gpr.read 32 rA).msb then 0xFFFFFFFF#32 else 0#32)) s.flags) ∧
  (∀ (s : State) (r : Reg),
    if s.os32 then
      ∃ v, (∀ k < 4, v.extractLsb' (8 * k) 8 = (s.gpr.get r).extractLsb' (24 - 8 * k) 8) ∧
        WritesRegs (.bswapR32 r) s (s.gpr.write 32 r v) s.flags
    else ∃ v, WritesRegs (.bswapR32 r) s (s.gpr.write 16 r v) s.flags) ∧
  (∀ s : State,
    let l := s.asLoc (s.segFor .ds) (s.gpr.ebx + (s.gpr.read 8 rA).setWidth 32)
    s.reads l 1 1 →
      WritesRegs .xlat s (s.gpr.write 8 rA (BitVec.ofNat 8 (s.readLin (s.linear l) 1))) s.flags) ∧
  (∀ (s : State) (r : Reg), WritesRegs (.xchgAxR16 r) s
      ((s.gpr.write 16 rA (s.gpr.read 16 r)).write 16 r (s.gpr.read 16 rA)) s.flags ∧
    WritesRegs (.xchgEaxR32 r) s ((s.gpr.write 32 rA (s.gpr.read 32 r)).write 32 r (s.gpr.read 32 rA)) s.flags))

/-- XCHG, XADD, CMPXCHG and CMPXCHG8B: result, flags and frame. XCHG swaps, XADD adds and returns the old destination,
CMPXCHG and CMPXCHG8B replace an equal destination and else load the accumulator and write the destination back; flags
as their rules say and nothing else changed. -/
def Obligations.ExchangeResult : Prop :=
  XchgForm 8 .xchgRm8R8 ∧ XchgForm 16 .xchgRm16R16 ∧ XchgForm 32 .xchgRm32R32 ∧ XaddForm 8 .xaddRm8R8 ∧
  XaddForm 16 .xaddRm16R16 ∧ XaddForm 32 .xaddRm32R32 ∧ CmpxchgForm 8 .cmpxchgRm8R8 ∧
  CmpxchgForm 16 .cmpxchgRm16R16 ∧ CmpxchgForm 32 .cmpxchgRm32R32 ∧
  (∀ (s : State) (ea : Ea), s.canWrite 64 (.mem ea) →
    if s.gpr.edx ++ s.gpr.eax = s.rmVal 64 (.mem ea) then
      WritesBoth (.cmpxchg8bM64 ea) s 64 (.mem ea) (s.gpr.ecx ++ s.gpr.ebx) s.gpr { s.flags with zf := true }
    else
      WritesBoth (.cmpxchg8bM64 ea) s 64 (.mem ea) (s.rmVal 64 (.mem ea))
        { s.gpr with edx := (s.rmVal 64 (.mem ea)).extractLsb' 32 32, eax := (s.rmVal 64 (.mem ea)).extractLsb' 0 32 }
        { s.flags with zf := false })

/-- PUSH, PUSHA and PUSHAD: the item, the stack pointer, the frame, and the shutdown with SP = 1. Every PUSH that
passes the checks of its stores moves the stack pointer down by the operand size and stores there its operand as it
was before, PUSHA the eight registers with the original stack pointer; nothing else changes. In real-address mode
every PUSH with SP = 1 and PUSHA and PUSHAD with SP = 1, 3 or 5 raise no exception: the processor shuts down with
registers and memory as they were; outside protected mode PUSHA and PUSHAD with SP = 7 to 15 odd are #GP(0). That the
padding of a 4-byte push of a segment register is 0 is the choice D23 (log 44), and the state that stands for shutdown
is the model's (log 50). That PUSHA and PUSHAD with an even SP below 16, whose block wraps, check each item at its own
offset and complete is the model's choice (DESIGN CHOICE, log 57), which R263 does not state. Where the source of PUSH
r/m is memory that can be read, the shutdown comes from the state before the read: which of the two comes first is the
model's choice (DESIGN CHOICE, log 64), which R261 and R262 do not state. -/
def Obligations.PushResult : Prop :=
  ((∀ (s : State) (rm : RM), s.canRead 16 rm → Pushes (.pushRm16 rm) s 2 (s.rmVal 16 rm).toNat) ∧
  (∀ (s : State) (rm : RM), s.canRead 32 rm → Pushes (.pushRm32 rm) s 4 (s.rmVal 32 rm).toNat) ∧
  (∀ (s : State) (r : Reg), Pushes (.pushR16 r) s 2 (s.gpr.read 16 r).toNat ∧
    Pushes (.pushR32 r) s 4 (s.gpr.read 32 r).toNat) ∧
  (∀ (s : State) (imm : Byte),
    if s.os32 then Pushes (.pushImm8 imm) s 4 (imm.signExtend 32).toNat
    else Pushes (.pushImm8 imm) s 2 (imm.signExtend 16).toNat) ∧
  (∀ (s : State) (imm : Word), Pushes (.pushImm16 imm) s 2 imm.toNat) ∧
  (∀ (s : State) (imm : DWord), Pushes (.pushImm32 imm) s 4 imm.toNat) ∧
  (∀ s : State, Pushes .pushCs s s.osBytes s.seg.cs.sel.toNat ∧ Pushes .pushSs s s.osBytes s.seg.ss.sel.toNat ∧
    Pushes .pushDs s s.osBytes s.seg.ds.sel.toNat ∧ Pushes .pushEs s s.osBytes s.seg.es.sel.toNat ∧
    Pushes .pushFs s s.osBytes s.seg.fs.sel.toNat ∧ Pushes .pushGs s s.osBytes s.seg.gs.sel.toNat) ∧
  PushaForm 16 .pusha ∧ PushaForm 32 .pushad) ∧
  ((∀ s : State, s.isReal = true → s.stackTop = 1#32 →
    (∀ r : Reg, exec (.pushR16 r) s = .next s.shutDown ∧ exec (.pushR32 r) s = .next s.shutDown) ∧
    (∀ rm : RM, (s.canRead 16 rm → exec (.pushRm16 rm) s = .next s.shutDown) ∧
      (s.canRead 32 rm → exec (.pushRm32 rm) s = .next s.shutDown)) ∧
    (∀ imm : Byte, exec (.pushImm8 imm) s = .next s.shutDown) ∧
    (∀ imm : Word, exec (.pushImm16 imm) s = .next s.shutDown) ∧
    (∀ imm : DWord, exec (.pushImm32 imm) s = .next s.shutDown) ∧
    (∀ i ∈ [Instr.pushCs, .pushSs, .pushDs, .pushEs, .pushFs, .pushGs], exec i s = .next s.shutDown)) ∧
  (∀ s : State, s.isReal = true → s.stackTop.toNat ∈ [1, 3, 5] →
    exec .pusha s = .next s.shutDown ∧ exec .pushad s = .next s.shutDown) ∧
  (∀ s : State, s.isProt = false → s.stackTop.toNat ∈ [7, 9, 11, 13, 15] →
    Takes .pusha s (excGP 0#16) ∧ Takes .pushad s (excGP 0#16)))

/-- POP of general operands, POPA and POPAD: the item, the stack pointer and the frame. A POP moves the item at the
top of the stack to its destination after the stack pointer moved up (so that POP ESP ends with the item); POPA loads
seven registers and skips the slot of the stack pointer; no flag changes and memory only in a memory destination. That
the eight items of POPA are checked each at its own offset, so that a block that wraps (SP = FFF8H) completes, is the
model's choice (DESIGN CHOICE, log 57), which R260 does not state. -/
def Obligations.PopResult : Prop :=
  PopForm 16 .popM16 ∧ PopForm 32 .popM32 ∧
  (∀ (s : State) (r : Reg), s.reads (s.stackLoc 0#32) 2 2 →
    exec (.popR16 r) s = .next (s.finish { s.popped 2 with
      gpr := (s.popped 2).gpr.write 16 r (BitVec.ofNat 16 (s.stackItem 0 2)) })) ∧
  (∀ (s : State) (r : Reg), s.reads (s.stackLoc 0#32) 4 4 →
    exec (.popR32 r) s = .next (s.finish { s.popped 4 with
      gpr := (s.popped 4).gpr.write 32 r (BitVec.ofNat 32 (s.stackItem 0 4)) })) ∧
  PopaForm 16 .popa ∧ PopaForm 32 .popad

/-- MOV, POP and LDS/LES/LFS/LGS/LSS of segment registers: result, faults, window and frame. A load of a segment
register by MOV, POP or a far-pointer load that passes its checks loads selector and hidden part and nothing else but
what the instruction also writes, and a load of SS by MOV or POP opens the window of one instruction; one that does
not pass takes the fault of the check (or the refusal of an expand-down segment where the parameter EXPAND_DOWN, log
17, says so); MOV to CS is #UD; a far pointer is read offset first, which is the choice of log 62 (R137); a store of a
segment register writes its selector. That a load outside protected mode marks the register usable (DEDUCED, log 52)
and that a single-step trap which the window holds off is dropped (DEDUCED, log 18) are the model's inferences. -/
def Obligations.SegmentLoadResult : Prop :=
  (∀ (s : State) (sr : SegReg) (rm : RM), s.canRead 16 rm → sr ≠ .cs →
    (s.canLoadSeg sr (s.rmVal 16 rm) →
      exec (.movSregRm16 sr rm) s = .next (s.finishSeg (s.loadedSeg sr (s.rmVal 16 rm)) sr)) ∧
    (∀ e, s.segFault sr (s.rmVal 16 rm) = some e → Takes (.movSregRm16 sr rm) s e)) ∧
  (∀ (s : State) (rm : RM), Takes (.movSregRm16 .cs rm) s excUD) ∧
  (∀ (s : State) (sr : SegReg) (e : Ea), s.canStore 16 (.mem e) →
    WritesRM (.movRm16Sreg (.mem e) sr) s 16 (.mem e) (s.selector sr) s.flags) ∧
  (∀ (s : State) (sr : SegReg) (r : Reg), WritesRegs (.movRm16Sreg (.reg r) sr) s
    (if s.os32 then s.gpr.write 32 r ((s.selector sr).setWidth 32) else s.gpr.write 16 r (s.selector sr)) s.flags) ∧
  PopSegForm .ds .popDs ∧ PopSegForm .es .popEs ∧ PopSegForm .ss .popSs ∧ PopSegForm .fs .popFs ∧
  PopSegForm .gs .popGs ∧ FarLoadForm 16 .ds .ldsR16M16x16 ∧ FarLoadForm 32 .ds .ldsR32M16x32 ∧
  FarLoadForm 16 .ss .lssR16M16x16 ∧ FarLoadForm 32 .ss .lssR32M16x32 ∧ FarLoadForm 16 .es .lesR16M16x16 ∧
  FarLoadForm 32 .es .lesR32M16x32 ∧ FarLoadForm 16 .fs .lfsR16M16x16 ∧ FarLoadForm 32 .fs .lfsR32M16x32 ∧
  FarLoadForm 16 .gs .lgsR16M16x16 ∧ FarLoadForm 32 .gs .lgsR32M16x32

/-- The checks of a segment-register load by the bits of the descriptor, and what a loaded register holds. For every
selector: null, outside its table, or a descriptor of the wrong type, privilege or presence, with the exception and
error code each gives; SS needs writable data at RPL = DPL = CPL, the others a readable segment that is conforming or
not more privileged than RPL and CPL (D65). Whether an expand-down data segment is then refused is the parameter
EXPAND_DOWN, which the model sets to accept (PRESUMED, log 17). A register loaded from a descriptor holds its base,
its limit in bytes with the granularity applied, type, S, DPL, P and D/B at their bits; outside protected mode it
holds the selector and 16 times it as base, in virtual-8086 mode with the limit FFFFH and the attributes of writable
data at DPL 3, in real-address mode with limit and attributes as they were; a null selector leaves it invalid. That a
load outside protected mode also marks the register usable is the model's inference (DEDUCED, log 52): R141 gives its
selector and base, and in virtual-8086 mode limit and attributes, and says nothing of it. No other register changes.
-/
def Obligations.SegmentLoadChecks : Prop :=
  (∀ (s : State) (sr : SegReg) (sel : Word), s.isProt = true → sr ≠ .cs →
    (selNull sel = true → s.segFault sr sel = if sr = .ss then some (excGP 0#16) else none) ∧
    (selNull sel = false → s.descAddr sel = none → s.segFault sr sel = some (excGP (sel &&& 0xFFFC#16))) ∧
    (∀ a, selNull sel = false → s.descAddr sel = some a →
      let d := s.descAt a
      let present := d.getLsbD 47
      let dpl := d.extractLsb' 45 2
      let writable := d.getLsbD 44 && !d.getLsbD 43 && d.getLsbD 41
      let readable := d.getLsbD 44 && (!d.getLsbD 43 || d.getLsbD 41)
      let conforming := d.getLsbD 44 && d.getLsbD 43 && d.getLsbD 42
      let refused := d.getLsbD 44 && !d.getLsbD 43 && d.getLsbD 42 && !Config.expandDown
      if sr = .ss then
        s.segFault sr sel =
          if sel.extractLsb' 0 2 ≠ s.cpl ∨ writable = false ∨ dpl ≠ s.cpl then some (excGP (sel &&& 0xFFFC#16))
          else if present = false then some (excSS (sel &&& 0xFFFC#16))
          else if refused then some (.refuse .expandDown) else none
      else
        s.segFault sr sel =
          if readable = false ∨ (conforming = false ∧ (dpl < sel.extractLsb' 0 2 ∨ dpl < s.cpl)) then
            some (excGP (sel &&& 0xFFFC#16))
          else if present = false then some (excNP (sel &&& 0xFFFC#16))
          else if refused then some (.refuse .expandDown) else none)) ∧
  ((∀ (sel : Word) (d : QWord),
    let g := segOfDesc sel d
    let l := (d.extractLsb' 48 4).toNat * 2 ^ 16 + (d.extractLsb' 0 16).toNat
    g.sel = sel ∧ g.valid = true ∧ g.base = d.extractLsb' 56 8 ++ d.extractLsb' 32 8 ++ d.extractLsb' 16 16 ∧
    g.limit.toNat = (if d.getLsbD 55 then l * 4096 + 4095 else l) ∧ g.ty = d.extractLsb' 40 4 ∧ g.s = d.getLsbD 44 ∧
    g.dpl = d.extractLsb' 45 2 ∧ g.p = d.getLsbD 47 ∧ g.db = d.getLsbD 54 ∧ descBase d = g.base ∧
    descLimit d = g.limit) ∧
  (∀ (s : State) (sr : SegReg) (sel : Word),
    let t := s.loadReal sr sel
    let g := t.seg.get sr
    let n := s.loadNull sr sel
    t = { s with seg := t.seg } ∧ (∀ q, q ≠ sr → t.seg.get q = s.seg.get q) ∧
    g.sel = sel ∧ g.valid = true ∧ g.base.toNat = sel.toNat * 16 ∧
    (s.isV86 = true → g.limit = 0xFFFF#32 ∧ g.s = true ∧ g.ty.extractLsb' 1 3 = 1#3 ∧ g.dpl = 3#2 ∧ g.p = true ∧
      g.db = false) ∧
    (s.isV86 = false → g = { s.seg.get sr with sel := sel, valid := true, base := g.base }) ∧
    n = { s with seg := n.seg } ∧ (∀ q, q ≠ sr → n.seg.get q = s.seg.get q) ∧
    n.seg.get sr = { s.seg.get sr with sel := sel, valid := false }))

/-- The eleven prefix bytes and the size attributes: what each sets, and that a second one of a group is refused. A
prefix byte changes nothing but the record of the prefixes read; a second prefix of one group has undefined behaviour
and is refused by name (log 11). Operand size and address size are 32 bits by CS.D in protected mode, toggled by 66H
and 67H, 16 bits before that in the other modes; the stack size is SS.B in protected mode, else 16 bits, and a 16-bit
stack uses SP alone. That D and B of the hidden registers have no effect outside protected mode is log 52. A step
begins with no prefix read. -/
def Obligations.PrefixResult : Prop :=
  (∀ s : State,
    (group1 s.pfx = false →
      exec .lock s = .next { s with pfx := { s.pfx with lock := true } } ∧
      exec .repne s = .next { s with pfx := { s.pfx with rep := .repne } } ∧
      exec .rep s = .next { s with pfx := { s.pfx with rep := .rep } }) ∧
    (group1 s.pfx = true → exec .lock s = .refused .redundantPrefix ∧ exec .repne s = .refused .redundantPrefix ∧
      exec .rep s = .refused .redundantPrefix) ∧
    (∀ p ∈ [(Instr.segCs, SegReg.cs), (.segSs, .ss), (.segDs, .ds), (.segEs, .es), (.segFs, .fs), (.segGs, .gs)],
      exec p.1 s = if s.pfx.seg = none then .next { s with pfx := { s.pfx with seg := some p.2 } }
                   else .refused .redundantPrefix) ∧
    (exec .opSize s = if s.pfx.os = false then .next { s with pfx := { s.pfx with os := true } }
                      else .refused .redundantPrefix) ∧
    (exec .addrSize s = if s.pfx.as = false then .next { s with pfx := { s.pfx with as := true } }
                        else .refused .redundantPrefix)) ∧
  (∀ s : State,
    let prot := s.cr0.getLsbD 0 && !s.flags.vm
    let d := prot && s.seg.cs.db
    s.os32 = (if s.pfx.os then !d else d) ∧ s.as32 = (if s.pfx.as then !d else d) ∧
    s.sas32 = (prot && s.seg.ss.db) ∧ s.osBytes = (if s.os32 then 4 else 2) ∧
    s.stackTop.toNat = (if s.sas32 then s.gpr.esp.toNat else s.gpr.esp.toNat % 2 ^ 16) ∧
    (s.begin).pfx = { lock := false, rep := .none, seg := none, os := false, as := false })

/-- The addressing forms: the offset and the default segment of each, and what an override and the address size
change. With AS = 16 the offset is the sum of the one or two registers of the form and the sign-extended displacement
modulo 2^16, in SS where BP is among them, else in DS; with AS = 32 it is base, scaled index and displacement modulo
2^32, in SS where the base is ESP or EBP, else in DS; a moffs operand is its offset in DS. A segment override replaces
that default; the offsets of the string operands and of the table of XLAT are taken modulo the address size; the
linear address is the base of the segment and the offset. -/
def Obligations.AddressingForms : Prop :=
  (∀ (g : Gprs) (rm : Reg) (d : Disp16),
    let r := fun q : Reg => (g.read 16 q).toNat
    let regs : Nat := if rm = 0#3 then r rB + r rSI else if rm = 1#3 then r rB + r rDI else if rm = 2#3 then r rBP + r rSI
      else if rm = 3#3 then r rBP + r rDI else if rm = 4#3 then r rSI else if rm = 5#3 then r rDI
      else if rm = 6#3 then r rBP else r rB
    let disp : Int := match d with
      | .none => 0
      | .d8 v => v.toInt
      | .d16 v => v.toInt
    ((eaOffset g (.a16 rm d)).toNat : Int) = (regs + disp) % 2 ^ 16 ∧
    eaDefaultSeg (.a16 rm d) = (if rm ∈ [2#3, 3#3, 6#3] then .ss else .ds)) ∧
  (∀ (g : Gprs) (v : Word), (eaOffset g (.abs16 v)).toNat = v.toNat ∧ eaDefaultSeg (.abs16 v) = .ds) ∧
  (∀ (g : Gprs) (scale : BitVec 2) (index base : Reg) (d : Disp32) (v : DWord),
    let disp : Int := match d with
      | .none => 0
      | .d8 v => v.toInt
      | .d32 v => v.toInt
    let ix : Nat := if index = 4#3 then 0 else (g.get index).toNat * 2 ^ scale.toNat
    ((eaOffset g (.a32 base d)).toNat : Int) = ((g.get base).toNat + disp) % 2 ^ 32 ∧
    ((eaOffset g (.sib scale index base d)).toNat : Int) = ((g.get base).toNat + ix + disp) % 2 ^ 32 ∧
    (eaOffset g (.sibNoBase scale index v)).toNat = (ix + v.toNat) % 2 ^ 32 ∧ eaOffset g (.abs32 v) = v ∧
    eaDefaultSeg (.a32 base d) = (if base = rBP then .ss else .ds) ∧
    eaDefaultSeg (.sib scale index base d) = (if base = rSP ∨ base = rBP then .ss else .ds) ∧
    eaDefaultSeg (.sibNoBase scale index v) = .ds ∧ eaDefaultSeg (.abs32 v) = .ds) ∧
  (∀ (s : State) (e : Ea) (o : Word) (p : DWord) (sr : SegReg),
    let chosen := fun dflt : SegReg => match s.pfx.seg with
      | some q => q
      | none => dflt
    let wide := match e with
      | .a16 _ _ => false
      | .abs16 _ => false
      | _ => true
    s.segFor sr = chosen sr ∧ s.eaLoc e = { seg := chosen (eaDefaultSeg e), off := eaOffset s.gpr e, wide := wide } ∧
    s.moffsLoc (.o16 o) = { seg := chosen .ds, off := o.setWidth 32, wide := false } ∧
    s.moffsLoc (.o32 p) = { seg := chosen .ds, off := p, wide := true } ∧
    (s.asLoc sr p).seg = sr ∧ (s.asLoc sr p).wide = s.as32 ∧
    (s.asLoc sr p).off.toNat = (if s.as32 then p.toNat else p.toNat % 2 ^ 16) ∧
    s.linear (s.eaLoc e) = (s.seg.get (chosen (eaDefaultSeg e))).base + eaOffset s.gpr e)

/-- Jcc, JCXZ, JECXZ, LOOPcc, near JMP, near CALL and RET: condition, target, count, return address and frame. Every
near jump goes to its target where that lies within the limit of CS and else takes #GP(0) from the state before it; a
conditional one that is not taken goes on without that check; LOOP counts ECX or CX down first; no flag, no memory and
nothing else changes. A near CALL whose target lies in CS pushes the offset of the next instruction and goes there; a
near RET pops the offset and releases its operand; a target beyond the limit is #GP(0) from the state before; nothing
else changes. -/
def Obligations.NearTransferResult : Prop :=
  (JccForm (fun f => f.ofl) State.os32 8 .joRel8 ∧ JccForm (fun f => !f.ofl) State.os32 8 .jnoRel8 ∧
  JccForm (fun f => f.cf) State.os32 8 .jbRel8 ∧ JccForm (fun f => !f.cf) State.os32 8 .jaeRel8 ∧
  JccForm (fun f => f.zf) State.os32 8 .jeRel8 ∧ JccForm (fun f => !f.zf) State.os32 8 .jneRel8 ∧
  JccForm (fun f => f.cf || f.zf) State.os32 8 .jbeRel8 ∧ JccForm (fun f => !(f.cf || f.zf)) State.os32 8 .jaRel8 ∧
  JccForm (fun f => f.sf) State.os32 8 .jsRel8 ∧ JccForm (fun f => !f.sf) State.os32 8 .jnsRel8 ∧
  JccForm (fun f => f.pf) State.os32 8 .jpRel8 ∧ JccForm (fun f => !f.pf) State.os32 8 .jnpRel8 ∧
  JccForm (fun f => f.sf ^^ f.ofl) State.os32 8 .jlRel8 ∧
  JccForm (fun f => !(f.sf ^^ f.ofl)) State.os32 8 .jgeRel8 ∧
  JccForm (fun f => (f.sf ^^ f.ofl) || f.zf) State.os32 8 .jleRel8 ∧
  JccForm (fun f => !((f.sf ^^ f.ofl) || f.zf)) State.os32 8 .jgRel8 ∧
  JccForm (fun f => f.ofl) (fun _ => false) 16 .joRel16 ∧ JccForm (fun f => !f.ofl) (fun _ => false) 16 .jnoRel16 ∧
  JccForm (fun f => f.cf) (fun _ => false) 16 .jbRel16 ∧ JccForm (fun f => !f.cf) (fun _ => false) 16 .jaeRel16 ∧
  JccForm (fun f => f.zf) (fun _ => false) 16 .jeRel16 ∧ JccForm (fun f => !f.zf) (fun _ => false) 16 .jneRel16 ∧
  JccForm (fun f => f.cf || f.zf) (fun _ => false) 16 .jbeRel16 ∧
  JccForm (fun f => !(f.cf || f.zf)) (fun _ => false) 16 .jaRel16 ∧
  JccForm (fun f => f.sf) (fun _ => false) 16 .jsRel16 ∧ JccForm (fun f => !f.sf) (fun _ => false) 16 .jnsRel16 ∧
  JccForm (fun f => f.pf) (fun _ => false) 16 .jpRel16 ∧ JccForm (fun f => !f.pf) (fun _ => false) 16 .jnpRel16 ∧
  JccForm (fun f => f.sf ^^ f.ofl) (fun _ => false) 16 .jlRel16 ∧
  JccForm (fun f => !(f.sf ^^ f.ofl)) (fun _ => false) 16 .jgeRel16 ∧
  JccForm (fun f => (f.sf ^^ f.ofl) || f.zf) (fun _ => false) 16 .jleRel16 ∧
  JccForm (fun f => !((f.sf ^^ f.ofl) || f.zf)) (fun _ => false) 16 .jgRel16 ∧
  JccForm (fun f => f.ofl) (fun _ => true) 32 .joRel32 ∧ JccForm (fun f => !f.ofl) (fun _ => true) 32 .jnoRel32 ∧
  JccForm (fun f => f.cf) (fun _ => true) 32 .jbRel32 ∧ JccForm (fun f => !f.cf) (fun _ => true) 32 .jaeRel32 ∧
  JccForm (fun f => f.zf) (fun _ => true) 32 .jeRel32 ∧ JccForm (fun f => !f.zf) (fun _ => true) 32 .jneRel32 ∧
  JccForm (fun f => f.cf || f.zf) (fun _ => true) 32 .jbeRel32 ∧
  JccForm (fun f => !(f.cf || f.zf)) (fun _ => true) 32 .jaRel32 ∧
  JccForm (fun f => f.sf) (fun _ => true) 32 .jsRel32 ∧ JccForm (fun f => !f.sf) (fun _ => true) 32 .jnsRel32 ∧
  JccForm (fun f => f.pf) (fun _ => true) 32 .jpRel32 ∧ JccForm (fun f => !f.pf) (fun _ => true) 32 .jnpRel32 ∧
  JccForm (fun f => f.sf ^^ f.ofl) (fun _ => true) 32 .jlRel32 ∧
  JccForm (fun f => !(f.sf ^^ f.ofl)) (fun _ => true) 32 .jgeRel32 ∧
  JccForm (fun f => (f.sf ^^ f.ofl) || f.zf) (fun _ => true) 32 .jleRel32 ∧
  JccForm (fun f => !((f.sf ^^ f.ofl) || f.zf)) (fun _ => true) 32 .jgRel32 ∧ JcxzForm 16 .jcxzRel8 ∧
  JcxzForm 32 .jecxzRel8 ∧ LoopForm (fun _ => true) .loopRel8 ∧ LoopForm (fun f => f.zf) .loopeRel8 ∧
  LoopForm (fun f => !f.zf) .loopneRel8 ∧
  (∀ (s : State) (rel : Byte), JumpsTo (.jmpRel8 rel) s s.gpr (s.relTarget s.os32 (rel.signExtend 32))) ∧
  (∀ (s : State) (rel : Word), JumpsTo (.jmpRel16 rel) s s.gpr (s.relTarget false (rel.signExtend 32))) ∧
  (∀ (s : State) (rel : DWord), JumpsTo (.jmpRel32 rel) s s.gpr (s.relTarget true rel)) ∧
  (∀ (s : State) (rm : RM), s.canRead 16 rm → JumpsTo (.jmpRm16 rm) s s.gpr ((s.rmVal 16 rm).setWidth 32)) ∧
  (∀ (s : State) (rm : RM), s.canRead 32 rm → JumpsTo (.jmpRm32 rm) s s.gpr (s.rmVal 32 rm))) ∧
  ((∀ (s : State) (rel : Word), CallsTo (.callRel16 rel) s 2 (s.relTarget false (rel.signExtend 32))) ∧
  (∀ (s : State) (rel : DWord), CallsTo (.callRel32 rel) s 4 (s.relTarget true rel)) ∧
  (∀ (s : State) (rm : RM), s.canRead 16 rm → CallsTo (.callRm16 rm) s 2 ((s.rmVal 16 rm).setWidth 32)) ∧
  (∀ (s : State) (rm : RM), s.canRead 32 rm → CallsTo (.callRm32 rm) s 4 (s.rmVal 32 rm)) ∧
  RetForm .retNear 0#16 ∧ (∀ imm : Word, RetForm (.retNearImm16 imm) imm))

/-- Far JMP and CALL: in real-address and virtual-8086 mode, and to a code segment in protected mode. A far JMP loads
CS and EIP: outside protected mode CS by selector * 16, in protected mode from the descriptor of a code segment that
passes the privilege and present checks, whose accessed bit is set, with CPL unchanged; an offset beyond the limit and
a null selector are #GP(0). A far CALL with room for its return address pushes CS and the offset of the next
instruction and loads CS and EIP as a far JMP does; an offset beyond the limit and a null selector are #GP(0) from the
state before, and a stack without room is #SS(0). A selector outside its table is #GP with that selector, and so is
one whose descriptor is no code segment, call gate, task gate or TSS, or one at a level that the rules do not let in,
or a busy TSS; a descriptor of those kinds that passes but is not present is #NP with the selector. A TSS, and a task
gate after the same checks of the TSS it names, end in the task switch that the model refuses (D24); that a task
gate's selector which names no TSS is #GP as a busy one is, and that a TSS in the LDT passes for one, is the model's
choice (DESIGN CHOICE, log 58). That a selector pushed as 4 bytes is padded with zeros is the choice D23 (log 44), and
that there is room for a return address whose two items wrap the model's choice (DESIGN CHOICE, log 57): the rules
state neither. Descriptors stand in RAM or ROM here; on a device they are OwnAccesses. That a load of CS outside
protected mode marks it usable is the model's inference (DEDUCED, log 52). -/
def Obligations.FarJumpAndCall : Prop :=
  ((∀ (s : State) (sel off : Word), JumpsFar (.jmpPtr16x16 sel off) s sel (off.setWidth 32)) ∧
  (∀ (s : State) (sel : Word) (off : DWord), JumpsFar (.jmpPtr16x32 sel off) s sel off) ∧
  (∀ (s : State) (ea : Ea), FarPtr s 16 ea fun sel off => JumpsFar (.jmpM16x16 ea) s sel off) ∧
  (∀ (s : State) (ea : Ea), FarPtr s 32 ea fun sel off => JumpsFar (.jmpM16x32 ea) s sel off)) ∧
  ((∀ (s : State) (sel off : Word), CallsFar (.callPtr16x16 sel off) s 2 sel (off.setWidth 32)) ∧
  (∀ (s : State) (sel : Word) (off : DWord), CallsFar (.callPtr16x32 sel off) s 4 sel off) ∧
  (∀ (s : State) (ea : Ea), FarPtr s 16 ea fun sel off => CallsFar (.callM16x16 ea) s 2 sel off) ∧
  (∀ (s : State) (ea : Ea), FarPtr s 32 ea fun sel off => CallsFar (.callM16x32 ea) s 4 sel off))

/-- Far CALL and JMP through a call gate, all forms: same level, and CALL to a more privileged level. Through a
present call gate that CPL and RPL may use, JMP and CALL of all four forms enter the gate's code segment at its
offset; a CALL to a segment of lower DPL switches to the stack of that level from the TSS, pushes the old SS:ESP, the
parameters and the return address there, and runs at that level. A null code selector in the gate is #GP(0); one
outside its table, or of a descriptor that is no code segment or at a level the rules do not let in, is #GP with it,
one of a segment that is not present #NP with it; an offset beyond the limit is #GP(0), a current stack without room
#SS(0); a TSS too short is #TS with the selector of TR, a new stack selector that is null, outside its table, or of a
segment that is not writable data of that level #TS with it (0 where it is null), of one not present or without room
#SS with it. That a selector pushed as 4 bytes is padded with zeros is the choice D23 (log 44), and that there is room
on the current and on the new stack for items that wrap the model's choice (DESIGN CHOICE, log 57): the rules state
neither. That the parameters are read without an alignment check is the model's inference (DEDUCED, log 51), and that
the pushes to a stack of level 1 or 2 are not checked for alignment its choice (DESIGN CHOICE, log 60). Descriptors
and the TSS stand in RAM or ROM here (OwnAccesses has them on a device). -/
def Obligations.CallGateResult : Prop :=
  (∀ (s : State) (sel off : Word), ThroughGate s (.jmpPtr16x16 sel off) (.callPtr16x16 sel off) sel) ∧
  (∀ (s : State) (sel : Word) (off : DWord), ThroughGate s (.jmpPtr16x32 sel off) (.callPtr16x32 sel off) sel) ∧
  (∀ (s : State) (ea : Ea), FarPtr s 16 ea fun sel _ => ThroughGate s (.jmpM16x16 ea) (.callM16x16 ea) sel) ∧
  (∀ (s : State) (ea : Ea), FarPtr s 32 ea fun sel _ => ThroughGate s (.jmpM16x32 ea) (.callM16x32 ea) sel)

/-- Far RET: in real-address and virtual-8086 mode, at the same level and to an outer level. A far RET pops offset and
selector, releases its operand, and loads CS and EIP; to an outer level it also loads SS:ESP from the stack and makes
null each data segment register that the new level may not use; an offset beyond the limit and a null selector are
#GP(0), a block of items outside the stack segment #SS(0): outside protected mode and to an outer level the whole
block is checked, at the same level in protected mode the selector first, before its own checks, and the offset after
them. A code selector outside its table, of a descriptor that is no code segment, with RPL below CPL, or with a DPL
that the rules do not let in, is #GP with it, of a segment not present #NP with it; the stack selector of an outer
level is #GP(0) where it is null, #GP with it where it lies outside its table or is not writable data of that level,
#SS with it where that is not present. That ESP is zero-extended after a 16-bit return to an outer level is the choice
D46 (log 44), and how a block wraps is log 57; the rules state neither. That a load of CS outside protected mode marks
it usable is the model's inference (DEDUCED, log 52). -/
def Obligations.FarReturnResult : Prop :=
  RetFarForm .retFar 0#16 ∧ (∀ imm : Word, RetFarForm (.retFarImm16 imm) imm)

/-- IRET and IRETD: real-address, virtual-8086 and protected mode, same and outer level, and to virtual-8086 mode.
IRET pops offset, selector and flags, and loads the flags that the mode lets it load; in virtual-8086 mode below IOPL
3 it is #GP(0); to an outer level it also loads SS:ESP and makes null each data segment register that the new level
may not use; a block of items outside the stack segment is #SS(0), an offset beyond the limit and a null selector
#GP(0). A code selector outside its table, of a descriptor that is no code segment, with RPL below CPL, or with a DPL
that the rules do not let in, is #GP with it, of a segment not present #NP with it; the stack selector of an outer
level is #GP(0) where it is null, #GP with it where it lies outside its table or is not writable data of that level,
#NP with it where that is not present. NT is clear here: a task return is refused at its task switch (D24). That ESP
is zero-extended after a 16-bit return to an outer level is the choice D46 (log 44), and how a block wraps is log 57;
the rules state neither. IRETD at CPL 0 with VM = 1 in the popped EFLAGS image loads all flags of the image, the six
segment registers by selector * 16, ESP and EIP from the nine doublewords of the frame, and runs at CPL 3; an EIP
above FFFFH is #GP(0). That a load of a segment register outside protected mode marks it usable is the model's
inference (DEDUCED, log 52). -/
def Obligations.IretResult : Prop :=
  (IretForm .iret 2 ∧ IretForm .iretd 4) ∧
  (∀ s : State,
    let i := s.frameItem 4
    let w := fun k => (s.frameItem 4 k).setWidth 16
    s.isProt = true → s.cpl = 0#2 → s.flags.nt = false → s.canPeekAll 4 3 → (i 2).getLsbD 17 = true →
    (s.topIn 12 24 = false → Takes .iretd s (excSS 0#16)) ∧
    (s.topIn 12 24 = true → (∀ j < 9, s.canPeek (j * 4) 4) → 0xFFFF < (i 0).toNat → Takes .iretd s (excGP 0#16)) ∧
    (s.topIn 12 24 = true → (∀ j < 9, s.canPeek (j * 4) 4) → (i 0).toNat ≤ 0xFFFF →
    let seg := fun sel : Word => ({
      sel := sel, valid := true, base := sel.setWidth 32 <<< 4, limit := 0xFFFF#32, ty := 3#4,
      s := true, dpl := 3#2, p := true, db := false } : Seg)
    exec .iretd s = .next (s.done { s with
      eip := i 0, cpl := 3#2, flags := Flags.ofWord (i 2), gpr := { s.gpr with esp := i 3 },
      seg := { es := seg (w 5), cs := seg (w 1), ss := seg (w 4), ds := seg (w 6), fs := seg (w 7), gs := seg (w 8) } })))

/-- INT3, INT and INTO: delivery in real-address mode, at the same level, to an inner level, from virtual-8086 mode. A
software interrupt saves flags, CS and the offset of the next instruction on the stack the rules name, clears the
flags they name, and goes to the handler of its vector; INT in virtual-8086 mode below IOPL 3 is #GP(0); INTO with OF
clear only goes on. That a selector pushed as 4 bytes is padded with zeros is the choice D23, and that NT is cleared
on the way out of virtual-8086 mode the choice D35 (log 44, log 20). That gates of the types 6 and 14 are the
interrupt gates, which clear IF, is the choice D67 (R144 prints them the other way round: GATE_TYPES_AS_PRINTED is
false, log 44). That there is room for items that wrap, on the current and on the new stack, is the model's choice
(DESIGN CHOICE, log 57), and so is that the pushes are not checked for alignment (DESIGN CHOICE, log 60): the rules
state neither. The tables stand in RAM or ROM here. Each completes as any instruction does, so one that begins with TF
set owes the single-step trap at the first instruction of its handler, although the delivery clears TF: that is the
model's reading of R853, which speaks of every instruction (DEDUCED, log 18). That the load of CS in real-address mode
marks it usable is log 52 (DEDUCED). -/
def Obligations.SoftwareInterruptResult : Prop :=
  (∀ s : State, SoftwareInterrupt .int3 s 3#8) ∧
  (∀ (s : State) (v : Byte), (s.isV86 = false ∨ s.flags.iopl = 3#2) → SoftwareInterrupt (.intImm8 v) s v) ∧
  (∀ (s : State) (v : Byte), s.isV86 = true → s.flags.iopl ≠ 3#2 → Takes (.intImm8 v) s (excGP 0#16)) ∧
  (∀ s : State, s.flags.ofl = true → SoftwareInterrupt .into s 4#8) ∧
  (∀ s : State, s.flags.ofl = false → exec .into s = .next (s.goTo s s.nextEip))

/-- Taking an exception in every mode: what is saved where, flags, mode, EIP, double fault and shutdown. A fault saves
the flags, CS and the offset of the faulting instruction, and in protected mode its error code, from the state before
that instruction, on the current stack, on the stack of the inner level that the TSS gives, or, from virtual-8086
mode, after the segment registers; then it goes to the handler of its vector. That a selector pushed as 4 bytes is
padded with zeros is the choice D23 (log 44); that from virtual-8086 mode the error code is pushed and NT cleared is
the choice D35 (log 20); that gates of the types 6 and 14 are the interrupt gates, which clear IF, is the choice D67
(R144 prints them the other way round: GATE_TYPES_AS_PRINTED is false, log 44). That there is room for items that wrap
is the model's choice (DESIGN CHOICE, log 57), that the pushes are not checked for alignment another (DESIGN CHOICE,
log 60), and the offset that vector 8 saves a third (DESIGN CHOICE, log 61): the rules state none of them. The tables
stand in RAM or ROM here. The contributory exceptions are the vectors 0 (#DE), 10 (#TS), 11 (#NP), 12 (#SS) and 13
(#GP). Where the delivery of a contributory exception meets a contributory one, vector 8 is delivered instead, and
where that meets a fault the processor shuts down; where the delivery of another exception, #DF and #PF apart, meets
one, or that of a contributory exception one that is not, the second is delivered in its place. The processor shuts
down, too, for every exception in real-address mode with an empty IDT. The rules of double faults are the spec's own
decision D60. That the load of CS in real-address mode marks it usable is the model's inference (DEDUCED, log 52). -/
def Obligations.ExceptionDelivery : Prop :=
  (∀ (s : State) (v : Byte) (err : Option Word),
    (s.faulted.canDeliverReal v →
      stopped s (.exc v err) = .next (s.faulted.deliveredReal v s.eip).afterDelivery) ∧
    (∀ a, s.faulted.sameLevel v a err →
      stopped s (.exc v err) = .next (s.faulted.deliveredSame v a err s.eip).afterDelivery) ∧
    (∀ a ss b esp, s.isProt = true → s.faulted.innerLevel v a →
      s.faulted.innerRoom (descDpl (s.descAt a)) ss esp b (gateBytes (s.gate v)) (5 + err.toList.length) →
      stopped s (.exc v err) = .next (s.faulted.deliveredInner v a ss b esp err s.eip).afterDelivery) ∧
    (∀ a ss b esp, s.isV86 = true → s.faulted.innerLevel v a → descDpl (s.descAt a) = 0#2 →
      s.faulted.innerRoom 0#2 ss esp b (gateBytes (s.gate v)) (9 + err.toList.length) →
      stopped s (.exc v err) = .next (s.faulted.deliveredV86 v a ss b esp err s.eip).afterDelivery)) ∧
  ((∀ (s t : State) (v v2 : Byte) (err err2 : Option Word), v ∈ contributoryVectors → v2 ∈ contributoryVectors →
    deliverOnce v .exception err s.eip s.faulted = .error (.exc v2 err2) →
    (deliverOnce 8#8 .exception (some 0#16) s.eip s.faulted = .ok ((), t) →
      stopped s (.exc v err) = .next t.afterDelivery) ∧
    (∀ v3 err3, deliverOnce 8#8 .exception (some 0#16) s.eip s.faulted = .error (.exc v3 err3) →
      stopped s (.exc v err) = .next s.faulted.shutDown)) ∧
  (∀ (s t : State) (v v2 : Byte) (err err2 : Option Word), v ≠ 8#8 → v ≠ 14#8 →
    (v ∉ contributoryVectors ∨ v2 ∉ contributoryVectors) →
    deliverOnce v .exception err s.eip s.faulted = .error (.exc v2 err2) →
    deliverOnce v2 .exception err2 s.eip s.faulted = .ok ((), t) →
    stopped s (.exc v err) = .next t.afterDelivery) ∧
  (∀ (s : State) (v : Byte) (err : Option Word), s.isReal = true → s.idtr.limit.toNat < 3 →
    stopped s (.exc v err) = .next s.faulted.shutDown))

/-- What happens at an instruction boundary: RESET, INIT, shutdown, the single-step trap, NMI, interrupt, HALT. The
events at a boundary in the order the model gives them (the spec's own decision D59; log 7): RESET and INIT first,
then shutdown holds, the trap owed to TF, an NMI not inhibited, a maskable interrupt with IF set and no window, and
the HALT state; delivery shown in real-address mode, where room for three words that wrap is the model's choice
(DESIGN CHOICE, log 57). That the load of CS there marks it usable is the model's inference (DEDUCED, log 52). The
time-stamp counter has gone on by a positive amount before each of them (R885; log 6); RESET clears it. -/
def Obligations.BoundaryEvents : Prop :=
  ∀ s : State,
    (s.host.reset = true → step s = .next s.ticked.resetEvent) ∧
    (s.host.reset = false → s.host.init = true → step s = .next s.ticked.initEvent) ∧
    (s.host.reset = false → s.host.init = false →
      (s.shutdown = true → s.host.nmi = false → step s = .next s.ticked) ∧
      (s.shutdown = false →
        (s.trapOwed = true → s.canDeliverReal 1#8 →
          step s = .next ({ s.ticked with trapOwed := false }.deliveredReal 1#8 s.eip).afterDelivery) ∧
        (s.trapOwed = false →
          (s.host.nmi = true → s.inhibit ≠ .ss → s.canDeliverReal 2#8 →
            step s = .next ({ s.ticked with host := { s.host with nmi := false } }.deliveredReal 2#8 s.eip).afterDelivery) ∧
          (s.host.nmi = false → ∀ v, s.host.intr = some v → s.flags.ifl = true → s.inhibit = .none →
            s.canDeliverReal v →
            step s = .next ({ s.ticked with host := { s.host with intr := none } }.deliveredReal v s.eip).afterDelivery) ∧
          (s.host.nmi = false → s.halted = true →
            (s.host.intr = none ∨ s.flags.ifl = false ∨ s.inhibit ≠ .none) → step s = .next s.ticked))))

/-- BOUND, ENTER and LEAVE: the bounds and #BR; the frame, its display and the stack pointer. BOUND compares with its
two bounds, the upper one with the operand size added as the source has it, and is #BR outside them; that the lower
one is read first, as its page writes, is the choice of log 62 (R137); ENTER pushes the frame pointer, copies the
display and makes room, and that each of its items is checked at its own offset, so that a block that wraps below
offset 0 between two items passes, is the model's choice (DESIGN CHOICE, log 57), for D26 and R132 do not speak of a
wrap; LEAVE undoes that; flags and everything else stay. -/
def Obligations.BoundEnterLeave : Prop :=
  BoundForm 16 .boundR16M16a16 ∧ BoundForm 32 .boundR32M32a32 ∧
  (∀ (s : State) (size : Word) (level : Byte),
    let n := s.osBytes
    let l := level.toNat % 32
    writeFault s (s.pushLoc n) n 1 = none →
    let t := s.pushed n s.framePtr.toNat
    t.canLevel n l →
    let u := ((t.leveled n l).withFrame t.stackTop).moved (0#32 - size.setWidth 32)
    (u.seg.ss.inLimit u.stackTop u.sas32 1 = true → exec (.enterImm16Imm8 size level) s = .next (s.finish u)) ∧
    (u.seg.ss.inLimit u.stackTop u.sas32 1 = false → Takes (.enterImm16Imm8 size level) s (excSS 0#16))) ∧
  (∀ s : State,
    let t := s.setStackTop s.framePtr
    t.reads (t.stackLoc 0#32) s.osBytes s.osBytes →
    exec .leave s = .next (s.finish { t.popped s.osBytes with
      gpr := if s.os32 then (t.popped 4).gpr.write 32 rBP (BitVec.ofNat 32 (t.stackItem 0 4))
             else (t.popped 2).gpr.write 16 rBP (BitVec.ofNat 16 (t.stackItem 0 2)) }))

/-- Privileged instructions above CPL 0, protected-mode ones outside it, UD2 and RSM: #GP(0) or #UD. At CPL > 0 in
protected mode and in virtual-8086 mode every privileged instruction takes #GP(0) from the state before it; the
instructions recognised only in protected mode take #UD in the other modes. UD2 raises the invalid-opcode exception in
every mode from the state before it, and so does RSM, since the machine is never in system management mode (D47);
delivery of vector 6 is shown in real-address mode and at the same level, where the padding of CS with zeros in a
4-byte item is the choice D23 (log 44), IF is cleared through the gate types 6 and 14 by the choice D67 (R144 prints
them the other way round: GATE_TYPES_AS_PRINTED is false, log 44), and where room for items that wrap (log 57) and
pushes without an alignment check (log 60) are choices of the model (DESIGN CHOICE). That the load of CS in
real-address mode marks it usable is the model's inference (DEDUCED, log 52). -/
def Obligations.PrivilegeAndOpcodeFaults : Prop :=
  (Privileged .clts ∧ Privileged .hlt ∧ Privileged .invd ∧ Privileged .wbinvd ∧ Privileged .rdmsr ∧
  Privileged .wrmsr ∧ (∀ ea, Privileged (.invlpgM ea) ∧ Privileged (.lgdtM16a32 ea) ∧ Privileged (.lidtM16a32 ea)) ∧
  (∀ rm, Privileged (.lmswRm16 rm)) ∧
  (∀ n r, Privileged (.movCRnR32 n r) ∧ Privileged (.movR32CRn r n) ∧ Privileged (.movR32DRn r n) ∧
    Privileged (.movDRnR32 n r)) ∧
  (∀ (s : State) (rm : RM), s.isProt = true → s.cpl ≠ 0#2 →
    Takes (.lldtRm16 rm) s (excGP 0#16) ∧ Takes (.ltrRm16 rm) s (excGP 0#16)) ∧
  (∀ rm r, OnlyProt (.arplRm16R16 rm r) ∧ OnlyProt (.larR16Rm16 r rm) ∧ OnlyProt (.larR32Rm32 r rm) ∧
    OnlyProt (.lslR16Rm16 r rm) ∧ OnlyProt (.lslR32Rm32 r rm) ∧ OnlyProt (.verrRm16 rm) ∧ OnlyProt (.verwRm16 rm) ∧
    OnlyProt (.lldtRm16 rm) ∧ OnlyProt (.ltrRm16 rm) ∧ OnlyProt (.sldtRm16 rm) ∧ OnlyProt (.sldtRm32 rm) ∧
    OnlyProt (.strRm16 rm))) ∧
  ((∀ s : State, Takes .ud2 s excUD ∧ Takes .rsm s excUD) ∧
  (∀ s : State, s.faulted.canDeliverReal 6#8 →
    exec .ud2 s = .next (s.faulted.deliveredReal 6#8 s.eip).afterDelivery ∧
    exec .rsm s = .next (s.faulted.deliveredReal 6#8 s.eip).afterDelivery) ∧
  (∀ (s : State) (a : DWord), s.faulted.sameLevel 6#8 a none →
    exec .ud2 s = .next (s.faulted.deliveredSame 6#8 a none s.eip).afterDelivery ∧
    exec .rsm s = .next (s.faulted.deliveredSame 6#8 a none s.eip).afterDelivery))

/-- CMPS, SCAS, LODS, STOS and MOVS: one element, one iteration of a repetition, and its end. A string instruction
moves its index registers past its element in the direction of DF; unprefixed it completes, with a repeat prefix each
step is one iteration that counts ECX or CX down and ends at 0 or, for CMPS and SCAS, by ZF, and with a count of 0
nothing happens; F2 before another string instruction counts as F3, which R448 takes from general knowledge (log 24).
The state between two iterations holds inferences of the model: an iteration that is not the last completes no
instruction and so leaves no single-step trap owed, which R853 does not say (DEDUCED, log 18); and it keeps for the
iterations that follow the flags of the instruction's start, for a fault to show (D45), and its first 15 bytes, so
that one that overwrites itself goes on as it was (R155, from general knowledge), in fields of the model's own
(DEDUCED, log 53). -/
def Obligations.StringResult : Prop :=
  CmpsForm 8 .cmpsb ∧ CmpsForm 16 .cmpsw ∧ CmpsForm 32 .cmpsd ∧ ScasForm 8 .scasb ∧ ScasForm 16 .scasw ∧
  ScasForm 32 .scasd ∧ LodsForm 8 .lodsb ∧ LodsForm 16 .lodsw ∧ LodsForm 32 .lodsd ∧ StosForm 8 .stosb ∧
  StosForm 16 .stosw ∧ StosForm 32 .stosd ∧ MovsForm 8 .movsb ∧ MovsForm 16 .movsw ∧ MovsForm 32 .movsd ∧
  StringNone .cmpsb ∧ StringNone .cmpsw ∧ StringNone .cmpsd ∧ StringNone .scasb ∧ StringNone .scasw ∧
  StringNone .scasd ∧ StringNone .lodsb ∧ StringNone .lodsw ∧ StringNone .lodsd ∧ StringNone .stosb ∧
  StringNone .stosw ∧ StringNone .stosd ∧ StringNone .movsb ∧ StringNone .movsw ∧ StringNone .movsd ∧
  StringNone .insb ∧ StringNone .insw ∧ StringNone .insd ∧ StringNone .outsb ∧ StringNone .outsw ∧ StringNone .outsd

/-- IN, OUT, INS and OUTS: the permission check, the port event and the result. An I/O instruction that IOPL or the
permission map of the TSS allows reads its value from the host, or puts it on record, and else IN, OUT, INS and OUTS
alike are #GP(0); the record of port events and the accumulator, or the element in memory and the index, are all that
changes. The rules leave the value read to the host (R166): that it is the next one of the host's list, and all ones
where the list is empty, and that the record holds one event for each access, the latest first, is the model's choice
(DESIGN CHOICE, log 5, parameter HOST_PORTS). That INS checks its destination before it reads the port is D34, which
the source does not state: INS is said to complete where that check passes. What the permission check reads of the TSS
is log 54 (DEDUCED), and the state between two iterations of INS and OUTS is that of logs 18 and 53 (DEDUCED). That F2
before INS and OUTS repeats as F3 does is the model's choice (DESIGN CHOICE, log 24): R448 takes it from general
knowledge. -/
def Obligations.PortResult : Prop :=
  InForm 8 .inAlDx dxPort ∧ InForm 16 .inAxDx dxPort ∧ InForm 32 .inEaxDx dxPort ∧ OutForm 8 .outDxAl dxPort ∧
  OutForm 16 .outDxAx dxPort ∧ OutForm 32 .outDxEax dxPort ∧ (∀ p, InForm 8 (.inAlImm8 p) fun _ => p.setWidth 16) ∧
  (∀ p, InForm 16 (.inAxImm8 p) fun _ => p.setWidth 16) ∧ (∀ p, InForm 32 (.inEaxImm8 p) fun _ => p.setWidth 16) ∧
  (∀ p, OutForm 8 (.outImm8Al p) fun _ => p.setWidth 16) ∧ (∀ p, OutForm 16 (.outImm8Ax p) fun _ => p.setWidth 16) ∧
  (∀ p, OutForm 32 (.outImm8Eax p) fun _ => p.setWidth 16) ∧ InsForm 8 .insb ∧ InsForm 16 .insw ∧ InsForm 32 .insd ∧
  OutsForm 8 .outsb ∧ OutsForm 16 .outsw ∧ OutsForm 32 .outsd

/-- CLD, STD, CLI, STI, PUSHF and POPF: flags, faults, window, frame; masked loads. Each changes the flags its rule
names and no other; CLI and STI above IOPL are #GP(0), and an STI that sets IF opens the window of one instruction;
POPF loads IF and IOPL only with the privilege for it; PUSHF and POPF in virtual-8086 mode below IOPL 3 are #GP(0).
Each flag is the bit of the image where the mask has it, else as before; EFLAGS as a word has every flag at the place
of its bit, bit 1 set and the other reserved bits clear (D50). That a single-step trap which that window holds off is
dropped is the model's inference (DEDUCED, log 18): R852 says that it is not delivered there. -/
def Obligations.FlagResult : Prop :=
  ((∀ s : State, WritesFlags .cld s { s.flags with df := false } ∧ WritesFlags .std s { s.flags with df := true }) ∧
  (∀ s : State, s.mayChangeIf → WritesFlags .cli s { s.flags with ifl := false } ∧
    exec .sti s = .next (s.completed { s with
      flags := { s.flags with ifl := true }, eip := s.nextEip,
      inhibit := if s.flags.ifl then .none else .sti })) ∧
  (∀ s : State, ¬ s.mayChangeIf → Takes .cli s (excGP 0#16) ∧ Takes .sti s (excGP 0#16)) ∧
  PushfForm 16 .pushf ∧ PushfForm 32 .pushfd ∧ PopfForm 16 .popf ∧ PopfForm 32 .popfd) ∧
  (∀ (f : Flags) (img mask : DWord),
    let g := f.load img mask
    let pick := fun (k : Nat) (old : Bool) => if mask.getLsbD k then img.getLsbD k else old
    g.cf = pick 0 f.cf ∧ g.pf = pick 2 f.pf ∧ g.af = pick 4 f.af ∧ g.zf = pick 6 f.zf ∧ g.sf = pick 7 f.sf ∧
    g.tf = pick 8 f.tf ∧ g.ifl = pick 9 f.ifl ∧ g.df = pick 10 f.df ∧ g.ofl = pick 11 f.ofl ∧
    g.iopl = (img &&& mask ||| f.toWord &&& ~~~mask).extractLsb' 12 2 ∧ g.nt = pick 14 f.nt ∧ g.rf = pick 16 f.rf ∧
    g.vm = pick 17 f.vm ∧ g.ac = pick 18 f.ac ∧ g.vif = pick 19 f.vif ∧ g.vip = pick 20 f.vip ∧
    g.idf = pick 21 f.idf ∧ Flags.ofWord f.toWord = f ∧ f.toWord &&& 0xFFC0802A#32 = 2#32)

/-- CLC, CMC, STC, LAHF and SAHF: encoding, flags, AH and frame. CLC, CMC and STC clear, complement and set CF and
change no other flag; LAHF puts SF, ZF, AF, PF and CF into AH, bits 5, 3 and 1 of which are 0, 0 and 1; SAHF loads
these five flags from AH, ignores its other bits, and leaves bits 8 to 31 of EFLAGS as they were. All complete in
every mode and change nothing else. -/
def Obligations.CarryAndAhInstructions : Prop :=
  (∀ (c : Ctx) (rest : List Byte), decode c (0xF8#8 :: rest) = .ok .clc rest ∧ decode c (0xF5#8 :: rest) = .ok .cmc rest ∧
    decode c (0xF9#8 :: rest) = .ok .stc rest ∧ decode c (0x9F#8 :: rest) = .ok .lahf rest ∧
    decode c (0x9E#8 :: rest) = .ok .sahf rest) ∧
  (∀ s : State, WritesFlags .clc s { s.flags with cf := false } ∧ WritesFlags .stc s { s.flags with cf := true } ∧
    WritesFlags .cmc s { s.flags with cf := !s.flags.cf }) ∧
  (∀ s : State,
    let image : Byte := BitVec.ofBool s.flags.sf ++ BitVec.ofBool s.flags.zf ++ 0#1 ++ BitVec.ofBool s.flags.af ++ 0#1 ++
      BitVec.ofBool s.flags.pf ++ 1#1 ++ BitVec.ofBool s.flags.cf
    image = s.flags.toWord.extractLsb' 0 8 ∧ WritesRegs .lahf s (s.gpr.write 8 rAH image) s.flags) ∧
  (∀ s : State,
    let ah := s.gpr.read 8 rAH
    let f := { s.flags with sf := ah.getLsbD 7, zf := ah.getLsbD 6, af := ah.getLsbD 4, pf := ah.getLsbD 2,
                            cf := ah.getLsbD 0 }
    WritesFlags .sahf s f ∧ f.toWord = s.flags.toWord.extractLsb' 8 24 ++ ((ah &&& 0xD5#8) ||| 2#8))

/-- NOP, LEA and CPUID: result and frame. NOP only goes on; LEA writes the offset of its operand, cut or extended to
the register, and accesses no memory; what that offset is for each addressing form says AddressingForms. CPUID writes
the vendor string, the family, model and feature bits, or the cache descriptors by its input, and any value in what
the rules leave reserved (log 25). The feature bits are not printed by the source: that bits 0 to 8 and 12 to 15 are
set and that bit 9 is clear, APIC_ENABLED being false, is the choice D27 (unsafe, log 25). -/
def Obligations.MiscellaneousResult : Prop :=
  (∀ s : State, exec .nop s = .next (s.finish s)) ∧
  (∀ (s : State) (r : Reg) (ea : Ea),
    WritesRegs (.leaR16M r ea) s (s.gpr.write 16 r ((eaOffset s.gpr ea).setWidth 16)) s.flags ∧
    WritesRegs (.leaR32M r ea) s (s.gpr.write 32 r (eaOffset s.gpr ea)) s.flags) ∧
  (∀ s : State, ∃ a b c d : DWord, WritesRegs .cpuid s { s.gpr with eax := a, ebx := b, ecx := c, edx := d } s.flags ∧
    (s.gpr.eax = 0#32 → a = 2#32 ∧ b = 0x756E6547#32 ∧ d = 0x49656E69#32 ∧ c = 0x6C65746E#32) ∧
    (s.gpr.eax = 1#32 → a.extractLsb' 8 4 = 6#4 ∧ a.extractLsb' 4 4 = 1#4 ∧ d.extractLsb' 0 10 = 0x1FF#10 ∧
      d.extractLsb' 12 4 = 15#4) ∧
    (s.gpr.eax = 2#32 → a = 0x03020101#32 ∧ b = 0#32 ∧ c = 0#32 ∧ d = 0x06040A42#32))

/-- LGDT, LIDT, SGDT, SIDT, LLDT, LTR, SLDT and STR: registers, busy bit, faults and frame. The table registers are
loaded from and stored to six bytes, limit first, which is the choice of log 62 (R137), base cut to 24 bits with OS =
16; LLDT takes an LDT descriptor of the GDT or a null selector, LTR an available TSS that it marks busy in the GDT, by
a write of the whole descriptor, and in TR; a selector of the LDT, one outside the limit of the GDT and one whose
descriptor has another type is #GP with it, one whose descriptor is not present #NP with it, and a null selector of
LTR #GP(0); SLDT and STR store the selector. -/
def Obligations.TableRegisterResult : Prop :=
  LoadTableForm (fun s t => { s with gdtr := t }) .lgdtM16a32 ∧
  LoadTableForm (fun s t => { s with idtr := t }) .lidtM16a32 ∧
  StoreTableForm (fun s => s.gdtr) .sgdtM ∧ StoreTableForm (fun s => s.idtr) .sidtM ∧
  (∀ (s : State) (rm : RM), s.isProt = true →
    StoresWord (.sldtRm16 rm) s false rm s.ldtr.sel (fun h => h = 0#16) ∧
    StoresWord (.sldtRm32 rm) s true rm s.ldtr.sel (fun h => h = 0#16) ∧
    StoresWord (.strRm16 rm) s s.os32 rm s.tr.sel (fun h => h = 0#16)) ∧
  (∀ (s : State) (rm : RM), s.isProt = true → s.cpl = 0#2 → s.canReadSel rm →
    let sel := s.rmVal 16 rm
    (selNull sel = true → exec (.lldtRm16 rm) s = .next (s.finish { s with
      ldtr := { s.ldtr with sel := sel, valid := false } }) ∧ Takes (.ltrRm16 rm) s (excGP (codeOf sel))) ∧
    (∀ a, selNull sel = false → selTi sel = false → s.descAddr sel = some a → s.quiet a 8 = true →
      (s.descAt a).getLsbD 44 = false → (s.descAt a).getLsbD 47 = true →
      let d := s.descAt a
      let loaded := fun ty : BitVec 4 => ({
        sel := sel, valid := true, base := descBase d, limit := descLimit d, ty := ty,
        dpl := descDpl d, p := true } : SysSeg)
      (descType d = 2#4 → exec (.lldtRm16 rm) s = .next (s.finish { s with ldtr := loaded 2#4 })) ∧
      ((descType d = 1#4 ∨ descType d = 9#4) →
        exec (.ltrRm16 rm) s = .next (s.finish { s.store a 8 (d ||| (1#64 <<< 41)).toNat with
          tr := loaded (descType d ||| 2#4) }))) ∧
    (selNull sel = false → selTi sel = true ∨ s.descAddr sel = none →
      Takes (.lldtRm16 rm) s (excGP (codeOf sel)) ∧ Takes (.ltrRm16 rm) s (excGP (codeOf sel))) ∧
    (∀ a, selNull sel = false → selTi sel = false → s.descAddr sel = some a →
      let d := s.descAt a
      (¬ systemOf [2#4] d → Takes (.lldtRm16 rm) s (excGP (codeOf sel))) ∧
      (systemOf [2#4] d → d.getLsbD 47 = false → Takes (.lldtRm16 rm) s (excNP (codeOf sel))) ∧
      (¬ systemOf [1#4, 9#4] d → Takes (.ltrRm16 rm) s (excGP (codeOf sel))) ∧
      (systemOf [1#4, 9#4] d → d.getLsbD 47 = false → Takes (.ltrRm16 rm) s (excNP (codeOf sel)))))

/-- LAR, LSL, VERR, VERW and ARPL: ZF, the destination and frame. LAR and LSL set ZF and give the access rights or the
byte-granular limit of a descriptor that the selector names and CPL and RPL may see, of a type they accept, and else
only clear ZF; VERR and VERW answer in ZF whether it may be read or written; ARPL raises an RPL below the one of its
source. A memory operand of LAR is 16 bits, of LSL the operand size. That bits 19:16 of the LAR result are 0 is the
choice D37 (log 44), on which no proof may depend; the rule prints x there. -/
def Obligations.DescriptorQueryResult : Prop :=
  DescForm 16 16 (segmentOr [1#4, 2#4, 3#4, 4#4, 5#4, 9#4, 0xB#4, 0xC#4])
    (fun d => d.extractLsb' 32 32 &&& 0x00F0FF00#32) .larR16Rm16 ∧
  DescForm 16 32 (segmentOr [1#4, 2#4, 3#4, 4#4, 5#4, 9#4, 0xB#4, 0xC#4])
    (fun d => d.extractLsb' 32 32 &&& 0x00F0FF00#32) .larR32Rm32 ∧
  DescForm 16 16 (segmentOr [1#4, 2#4, 3#4, 9#4, 0xB#4]) descLimit .lslR16Rm16 ∧
  DescForm 32 32 (segmentOr [1#4, 2#4, 3#4, 9#4, 0xB#4]) descLimit .lslR32Rm32 ∧
  VerifyForm mayRead .verrRm16 ∧ VerifyForm mayWrite .verwRm16 ∧
  (∀ (s : State) (rm : RM) (r : Reg), s.isProt = true → s.canWrite 16 rm →
    let d := s.rmVal 16 rm
    let p := (s.gpr.read 16 r).extractLsb' 0 2
    if d.extractLsb' 0 2 < p then
      WritesRM (.arplRm16R16 rm r) s 16 rm (d.extractLsb' 2 14 ++ p) { s.flags with zf := true }
    else WritesRM (.arplRm16R16 rm r) s 16 rm d { s.flags with zf := false })

/-- MOV to and from control and debug registers, CLTS, LMSW and SMSW: registers, faults and frame. MOV copies the
control register and leaves the six status flags any value; a load of CR0 with PG without PE or NW without CD, and one
of CR4 with a reserved bit, is #GP(0), VME and PVI are refused (D36), ET reads 1; CR1 and CR5 to CR7 are #UD; CLTS
clears TS; LMSW loads MP, EM and TS and can set PE; SMSW stores the low word. That a load of CR3 completes with any
value, reserved bits set or not, is the model's choice (DESIGN CHOICE, log 15). MOV copies the debug register and
leaves the six status flags any value; DR4 and DR5 are DR6 and DR7, and #UD with CR4.DE set; with DR7.GD set any
access is #DB (the place of GD is log 31); the other debug registers stay. -/
def Obligations.ControlAndDebugRegisters : Prop :=
  ((∀ (s : State) (r : Reg), s.privileged = true →
    let v := s.gpr.get r
    WritesStatusAny (.movR32CRn r 0#3) s { s with gpr := s.gpr.write 32 r s.cr0 } ∧
    WritesStatusAny (.movR32CRn r 2#3) s { s with gpr := s.gpr.write 32 r s.cr2 } ∧
    WritesStatusAny (.movR32CRn r 3#3) s { s with gpr := s.gpr.write 32 r s.cr3 } ∧
    WritesStatusAny (.movR32CRn r 4#3) s { s with gpr := s.gpr.write 32 r s.cr4 } ∧
    WritesStatusAny (.movCRnR32 2#3 r) s { s with cr2 := v } ∧ WritesStatusAny (.movCRnR32 3#3 r) s { s with cr3 := v } ∧
    (v &&& 0xFFFFFE03#32 = 0#32 → WritesStatusAny (.movCRnR32 4#3 r) s { s with cr4 := v }) ∧
    (v &&& 0xFFFFFE00#32 ≠ 0#32 → Takes (.movCRnR32 4#3 r) s (excGP 0#16)) ∧
    (v &&& 0xFFFFFE00#32 = 0#32 → v &&& 3#32 ≠ 0#32 → exec (.movCRnR32 4#3 r) s = .refused .vmePvi) ∧
    ((v.getLsbD 31 = true ∧ v.getLsbD 0 = false) ∨ (v.getLsbD 29 = true ∧ v.getLsbD 30 = false) →
      Takes (.movCRnR32 0#3 r) s (excGP 0#16)) ∧
    (v.getLsbD 31 = false → (v.getLsbD 29 = true → v.getLsbD 30 = true) → (v ^^^ s.cr0) &&& 0x1FFAFFC0#32 = 0#32 →
      WritesStatusAny (.movCRnR32 0#3 r) s { s with cr0 := v ||| 0x10#32 }) ∧
    (∀ n, n = 1#3 ∨ n = 5#3 ∨ n = 6#3 ∨ n = 7#3 → Takes (.movR32CRn r n) s excUD ∧ Takes (.movCRnR32 n r) s excUD)) ∧
  (∀ s : State, s.privileged = true → exec .clts s = .next (s.finish { s with cr0 := s.cr0 &&& 0xFFFFFFF7#32 })) ∧
  (∀ (s : State) (rm : RM), s.privileged = true → s.canReadSel rm →
    exec (.lmswRm16 rm) s = .next (s.finish { s with
      cr0 := (s.cr0 &&& 0xFFFFFFF1#32) ||| ((s.rmVal 16 rm &&& 0xF#16).setWidth 32) })) ∧
  (∀ (s : State) (rm : RM), StoresWord (.smswRm16 rm) s false rm (s.cr0.setWidth 16) (fun _ => True) ∧
    StoresWord (.smswR32M16 rm) s true rm (s.cr0.setWidth 16) (fun _ => True))) ∧
  (∀ (s : State) (r : Reg) (n : BitVec 3), s.privileged = true →
    ((n = 4#3 ∨ n = 5#3) → s.cr4.getLsbD 3 = true →
      Takes (.movR32DRn r n) s excUD ∧ Takes (.movDRnR32 n r) s excUD) ∧
    ((n ≠ 4#3 ∧ n ≠ 5#3) ∨ s.cr4.getLsbD 3 = false →
      (s.dr.dr7.getLsbD 13 = true → Takes (.movR32DRn r n) s excDB ∧ Takes (.movDRnR32 n r) s excDB) ∧
      (s.dr.dr7.getLsbD 13 = false →
        WritesStatusAny (.movR32DRn r n) s { s with gpr := s.gpr.write 32 r (s.dr.named n) } ∧
        ∃ d : DebugRegs, WritesStatusAny (.movDRnR32 n r) s { s with dr := d } ∧ d.named n = s.gpr.get r ∧
          ∀ m, m ≠ n → ¬ (n = 4#3 ∧ m = 6#3) → ¬ (n = 6#3 ∧ m = 4#3) → ¬ (n = 5#3 ∧ m = 7#3) →
            ¬ (n = 7#3 ∧ m = 5#3) → d.named m = s.dr.named m)))

/-- RDTSC, RDPMC, RDMSR, WRMSR, HLT, INVD, WBINVD and INVLPG: effect, faults and frame. RDTSC and RDPMC give a counter
in EDX:EAX where CR4.TSD or CR4.PCE or the privilege lets them; the time-stamp counter goes on by a positive amount,
modulo 2^64, at the beginning of every step, and RDTSC and RDMSR read it as it then stands; the one model-specific
register of the default set is that counter at 10H (log 30), which WRMSR writes, and an address outside the set is
#GP(0). What a counter has counted is an input, and that the advance of an instruction comes before its reading, and
that a step which is no instruction has one too, is the model's choice (DESIGN CHOICE, log 6); that EDX[31:8] is 0
after RDPMC is the choice D44 (log 44). HLT halts with EIP past it; WBINVD keeps memory; INVD may bring back, byte by
byte, what each address held before its first write since the caches were last written back; INVLPG changes nothing in
a model without translation. -/
def Obligations.CounterAndCacheResult : Prop :=
  ((∀ s : State, TscAfter s.tsc s.ticked.tsc ∧ s.ticked = { s with tsc := s.ticked.tsc, fresh := s.fresh + 1 }) ∧
  (∀ s t : State, s.host.reset = false → boundary s ≠ none → step s = .next t → t.tsc = s.ticked.tsc) ∧
  (∀ s : State, (s.cr4.getLsbD 2 = false ∨ s.privileged = true) → exec .rdtsc s = .next (s.finish { s with
    gpr := { s.gpr with eax := s.tsc.extractLsb' 0 32, edx := s.tsc.extractLsb' 32 32 } })) ∧
  (∀ s : State, s.cr4.getLsbD 2 = true → s.privileged = false → Takes .rdtsc s (excGP 0#16)) ∧
  (∀ s : State, s.privileged = true → s.gpr.ecx = 0x10#32 →
    exec .rdmsr s = .next (s.finish { s with
      gpr := { s.gpr with eax := s.tsc.extractLsb' 0 32, edx := s.tsc.extractLsb' 32 32 } }) ∧
    exec .wrmsr s = .next (s.finish { s with tsc := s.gpr.edx ++ s.gpr.eax })) ∧
  (∀ s : State, s.privileged = true → (Config.msrSet.all fun r => r.1 != s.gpr.ecx) = true →
    Takes .rdmsr s (excGP 0#16) ∧ Takes .wrmsr s (excGP 0#16)) ∧
  (∀ s : State, (s.cr4.getLsbD 8 = true ∨ s.privileged = true) → ∃ (v : BitVec 40) (n : Nat),
    (s.gpr.ecx = 0#32 → exec .rdpmc s = .next (s.finish { s with
      pmc0 := v, fresh := n,
      gpr := { s.gpr with eax := v.extractLsb' 0 32, edx := (v.extractLsb' 32 8).setWidth 32 } })) ∧
    (s.gpr.ecx = 1#32 → exec .rdpmc s = .next (s.finish { s with
      pmc1 := v, fresh := n,
      gpr := { s.gpr with eax := v.extractLsb' 0 32, edx := (v.extractLsb' 32 8).setWidth 32 } }))) ∧
  (∀ s : State, ((s.gpr.ecx ≠ 0#32 ∧ s.gpr.ecx ≠ 1#32) ∨ (s.cr4.getLsbD 8 = false ∧ s.privileged = false)) →
    Takes .rdpmc s (excGP 0#16))) ∧
  (∀ s : State, s.privileged = true →
    exec .hlt s = .next (s.finish { s with halted := true }) ∧
    exec .wbinvd s = .next (s.finish { s with dirty := [] }) ∧
    (∀ ea, exec (.invlpgM ea) s = .next (s.finish s)) ∧
    (s.mem.wf = true → cellsRise 0 s.dirty = true → (∀ c ∈ s.dirty, c.1 < 2 ^ 32) →
      ∃ m n, Dropped s m ∧ exec .invd s = .next (s.finish { s with mem := m, dirty := [], fresh := n })))

/-- FADD, FMUL, FSUB, FSUBR, FDIV and FDIVR: registers, status word, pointers and frame of all 42 forms. Every form of
the four operations that is ready to run computes with ST(0), ST(i) or memory as its table says, adds its exception
flags, sets C1, writes its destination unless an unmasked exception holds it back, pops, notes its pointers, leaves
C0, C2 and C3 any value, and changes nothing outside the FPU; an empty register is a stack fault; PC = 01B, which R101
reserves (U-PC-RESERVED), is refused where precision matters (DESIGN CHOICE, log 16). That PC applies to the forms
with an integer operand too is the choice D71. The operands in their order: FADD and FMUL add and multiply destination
and source; FSUB and FDIV take the source from the destination and divide the destination by it; FSUBR and FDIVR take
the destination from the source and divide the source by it. A result that is not zero is the exact number rounded to
the 24, 53 or 64 bits of PC, with overflow and underflow as R546 has them, and an operand that is denormal as R545 has
it. The model's inferences there are: the largest value of p significand bits and the single rounding of a tiny result
at reduced precision (DEDUCED, log 46), and C1 = 0 after an unmasked #D and in answers that report no rounding
(DEDUCED, log 45; D72 for exact results); its choice is #P and C1 by the rounding of the significand where an unmasked
overflow or underflow gives an infinity or a zero (DESIGN CHOICE, log 46). -/
def Obligations.FpuArithmeticResult : Prop :=
  (BinRealForm opAdd 0#3 0#3 4 8 23 .faddM32real ∧ BinRealForm opAdd 4#3 0#3 8 11 52 .faddM64real ∧
  BinTopForm opAdd 0xC0#11 .faddSt0Sti ∧ BinStiForm opAdd 0x4C0#11 0 .faddStiSt0 ∧
  BinStiForm opAdd 0x6C0#11 1 .faddpStiSt0 ∧ BinIntForm opAdd 2#3 0#3 4 .fiaddM32int ∧
  BinIntForm opAdd 6#3 0#3 2 .fiaddM16int ∧ BinRealForm opMul 0#3 1#3 4 8 23 .fmulM32real ∧
  BinRealForm opMul 4#3 1#3 8 11 52 .fmulM64real ∧ BinTopForm opMul 0xC8#11 .fmulSt0Sti ∧
  BinStiForm opMul 0x4C8#11 0 .fmulStiSt0 ∧ BinStiForm opMul 0x6C8#11 1 .fmulpStiSt0 ∧
  BinIntForm opMul 2#3 1#3 4 .fimulM32int ∧ BinIntForm opMul 6#3 1#3 2 .fimulM16int ∧
  BinRealForm opSub 0#3 4#3 4 8 23 .fsubM32real ∧ BinRealForm opSub 4#3 4#3 8 11 52 .fsubM64real ∧
  BinTopForm opSub 0xE0#11 .fsubSt0Sti ∧ BinStiForm opSub 0x4E8#11 0 .fsubStiSt0 ∧
  BinStiForm opSub 0x6E8#11 1 .fsubpStiSt0 ∧ BinIntForm opSub 2#3 4#3 4 .fisubM32int ∧
  BinIntForm opSub 6#3 4#3 2 .fisubM16int ∧ BinRealForm opSubR 0#3 5#3 4 8 23 .fsubrM32real ∧
  BinRealForm opSubR 4#3 5#3 8 11 52 .fsubrM64real ∧ BinTopForm opSubR 0xE8#11 .fsubrSt0Sti ∧
  BinStiForm opSubR 0x4E0#11 0 .fsubrStiSt0 ∧ BinStiForm opSubR 0x6E0#11 1 .fsubrpStiSt0 ∧
  BinIntForm opSubR 2#3 5#3 4 .fisubrM32int ∧ BinIntForm opSubR 6#3 5#3 2 .fisubrM16int ∧
  BinRealForm opDiv 0#3 6#3 4 8 23 .fdivM32real ∧ BinRealForm opDiv 4#3 6#3 8 11 52 .fdivM64real ∧
  BinTopForm opDiv 0xF0#11 .fdivSt0Sti ∧ BinStiForm opDiv 0x4F8#11 0 .fdivStiSt0 ∧
  BinStiForm opDiv 0x6F8#11 1 .fdivpStiSt0 ∧ BinIntForm opDiv 2#3 6#3 4 .fidivM32int ∧
  BinIntForm opDiv 6#3 6#3 2 .fidivM16int ∧ BinRealForm opDivR 0#3 7#3 4 8 23 .fdivrM32real ∧
  BinRealForm opDivR 4#3 7#3 8 11 52 .fdivrM64real ∧ BinTopForm opDivR 0xF8#11 .fdivrSt0Sti ∧
  BinStiForm opDivR 0x4F0#11 0 .fdivrStiSt0 ∧ BinStiForm opDivR 0x6F0#11 1 .fdivrpStiSt0 ∧
  BinIntForm opDivR 2#3 7#3 4 .fidivrM32int ∧ BinIntForm opDivR 6#3 7#3 2 .fidivrM16int) ∧
  ((∀ (cw : Word) (dst src : Ext),
    opAdd cw dst src = rawAdd cw dst src ∧ opSub cw dst src = rawSub cw dst src ∧
    opSubR cw dst src = rawSub cw src dst ∧ opMul cw dst src = rawMul dst src ∧
    opDiv cw dst src = rawDiv dst src ∧ opDivR cw dst src = rawDiv src dst) ∧
  (∀ cw : Word, (cw.extractLsb' 8 2 = 0#2 → pcBits cw = 24) ∧ (cw.extractLsb' 8 2 = 2#2 → pcBits cw = 53) ∧
    (cw.extractLsb' 8 2 = 3#2 → pcBits cw = 64)) ∧
  (∀ (op : BinOp) (f : Fpu) (x y : FpOperand) (v : Machine.Dyadic),
    isNan x.val = false → classOf x.val ≠ .unsupported → isNan y.val = false → classOf y.val ≠ .unsupported →
    op f.cw x.val y.val = .num v → v.mant ≠ 0 →
    ∃ c, RegisterResult f.cw (pcBits f.cw) v c ∧ binAnswer op f x y = DenormalAnswer f.cw (x.den || y.den) c))

/-- The four operations and square root are exact before rounding, and rounding is what RC says. For finite operands
the number that is rounded is the exact sum, difference or product; for a quotient and a square root it is exact, or
its last bit is odd and the exact value lies strictly between its two neighbours, so that rounding it is rounding the
exact value. Rounded to p bits the significand has p bits, rounded to a multiple of 2^e the exponent is e; the result
is within half an ulp of the exact value and even in a tie, or the neighbour toward -infinity, +infinity or zero, by
RC; the inexact flag and the round-up bit tell how it compares with the exact magnitude. -/
def Obligations.FpuOperationsAndRounding : Prop :=
  (∀ (cw : Word) (a b : Ext), isFinite a = true → isFinite b = true →
    (∀ d, rawAdd cw a b = .num d → ∀ e, e ≤ (valueOf a).exp → e ≤ (valueOf b).exp → e ≤ d.exp →
      d.scaled e = (valueOf a).scaled e + (valueOf b).scaled e) ∧
    (∀ d, rawSub cw a b = .num d → ∀ e, e ≤ (valueOf a).exp → e ≤ (valueOf b).exp → e ≤ d.exp →
      d.scaled e = (valueOf a).scaled e - (valueOf b).scaled e) ∧
    (∀ d, rawMul a b = .num d → d.exp = (valueOf a).exp + (valueOf b).exp ∧ d.mant = (valueOf a).mant * (valueOf b).mant ∧
      d.sign = (xSign a != xSign b)) ∧
    (∀ d, rawDiv a b = .num d → d.exp = (valueOf a).exp - (valueOf b).exp - 131 ∧ d.sign = (xSign a != xSign b) ∧
      ((valueOf a).mant * 2 ^ 131 = d.mant * (valueOf b).mant ∨
        (d.mant % 2 = 1 ∧ (d.mant - 1) * (valueOf b).mant < (valueOf a).mant * 2 ^ 131 ∧
          (valueOf a).mant * 2 ^ 131 < (d.mant + 1) * (valueOf b).mant))) ∧
    (∀ d, rawSqrt a = .num d → xSign a = false →
      d.sign = false ∧ 2 * d.exp ≤ (valueOf a).exp ∧
      let n := (valueOf a).mant * 2 ^ ((valueOf a).exp - 2 * d.exp).toNat
      (d.mant * d.mant = n ∨ (d.mant % 2 = 1 ∧ (d.mant - 1) * (d.mant - 1) < n ∧ n < (d.mant + 1) * (d.mant + 1))))) ∧
  ((∀ (d : Machine.Dyadic) (rc : BitVec 2) (e : Int), (d.roundAt rc e).exp = e ∧ RoundsTo d rc (d.roundAt rc e)) ∧
  (∀ (d : Machine.Dyadic) (rc : BitVec 2) (p : Nat), d.mant ≠ 0 → 2 ≤ p →
    2 ^ (p - 1) ≤ (d.roundTo rc p).mant ∧ (d.roundTo rc p).mant < 2 ^ p ∧ RoundsTo d rc (d.roundTo rc p)))

/-- FLD, FILD, FBLD and the constants: values, stack overflow, status, pointers and frame; widening keeps values. A
single or double real becomes the extended real of the same value, class and sign, with a denormal told and
normalised, an infinity an infinity and a NaN one with its fraction in the high bits; an integer and a packed decimal
become their exact values; FLD of an SNaN is #IA, of a denormal #D. A load converts its operand to an extended real,
raises #D or #IA where its rule says so, and pushes it; on a full stack it is a stack overflow; the constants are
those of the page: +1.0, +0.0 and pi, which R561 prints, and log2 10, log2 e, log10 2 and loge 2 as the nearest 64-bit
value with RC = nearest, and else as either neighbour (DESIGN CHOICE, log 29; U-FLD-CONST), their significands
computed from the mathematical constants, for no page prints them (DEDUCED, log 29); invalid BCD digits give any value
(log 55); nothing outside the FPU changes. -/
def Obligations.FpuLoadResult : Prop :=
  ((∀ (eb fb v : Nat), (eb = 8 ∧ fb = 23) ∨ (eb = 11 ∧ fb = 52) →
    let x := widenReal eb fb v
    let s := decide (v / 2 ^ (eb + fb) % 2 = 1)
    let e := v / 2 ^ fb % 2 ^ eb
    let f := v % 2 ^ fb
    x.den = (decide (e = 0) && decide (f ≠ 0)) ∧ xSign x.val = s ∧
    (e = 2 ^ eb - 1 → f = 0 → isInfinity x.val s) ∧
    (e = 2 ^ eb - 1 → f ≠ 0 → isNan x.val = true ∧ xSig x.val = 2 ^ 63 + f * 2 ^ (63 - fb)) ∧
    (e ≠ 2 ^ eb - 1 → classOf x.val = (if e = 0 ∧ f = 0 then .zero else .normal) ∧
      IsNumber x.val { sign := s, mant := if e = 0 then f else 2 ^ fb + f,
                       exp := (max e 1 : Nat) - (2 ^ (eb - 1) - 1 : Nat) - (fb : Int) })) ∧
  (∀ n : Int, n.natAbs < 2 ^ 64 → IsNumber (extOfInt n) { sign := decide (n < 0), mant := n.natAbs, exp := 0 } ∧
    classOf (extOfInt n) = (if n = 0 then .zero else .normal)) ∧
  (∀ (v : Nat) (free : Ext), (∀ k < 18, v / 16 ^ k % 16 < 10) →
    IsNumber (loadBcd v free) { sign := decide (v / 2 ^ 79 % 2 = 1), exp := 0,
                                mant := ((List.range 18).map fun k => v / 16 ^ k % 16 * 10 ^ k).sum }) ∧
  (∀ (cw : Word) (x : FpOperand),
    (classOf x.val = .snan → loadReal cw x = InvalidAnswer cw (x.val ||| 0x00004000000000000000#80)) ∧
    (classOf x.val ≠ .snan → loadReal cw x =
      DenormalAnswer cw x.den (Answer false false false false false false false false (some x.val))))) ∧
  (LoadForm 1#3 0#3 4 4 (fun f v c => c = loadReal f.cw (widenReal 8 23 v)) .fldM32real ∧
  LoadForm 5#3 0#3 8 8 (fun f v c => c = loadReal f.cw (widenReal 11 52 v)) .fldM64real ∧
  LoadForm 3#3 5#3 10 8 (fun _ v c => c = Calc.pure (BitVec.ofNat 80 v)) .fldM80real ∧
  LoadForm 7#3 4#3 10 8 (fun _ v c => ∃ u, c = Calc.pure (loadBcd v u)) .fbldM80dec ∧
  LoadForm 7#3 0#3 2 2 (fun _ v c => c = Calc.pure (extOfInt (BitVec.ofNat 16 v).toInt)) .fildM16int ∧
  LoadForm 3#3 0#3 4 4 (fun _ v c => c = Calc.pure (extOfInt (BitVec.ofNat 32 v).toInt)) .fildM32int ∧
  LoadForm 7#3 5#3 8 8 (fun _ v c => c = Calc.pure (extOfInt (BitVec.ofNat 64 v).toInt)) .fildM64int ∧
  ConstForm 0x1E8#11 (fun _ v => v = 0x3FFF8000000000000000#80) .fld1 ∧ ConstForm 0x1EE#11 (fun _ v => v = 0#80) .fldz ∧
  ConstForm 0x1E9#11 (nearestOr 0x4000D49A784BCD1B8AFE#80 0x4000D49A784BCD1B8AFF#80) .fldl2t ∧
  ConstForm 0x1EA#11 (nearestOr 0x3FFFB8AA3B295C17F0BC#80 0x3FFFB8AA3B295C17F0BB#80) .fldl2e ∧
  ConstForm 0x1EC#11 (nearestOr 0x3FFD9A209A84FBCFF799#80 0x3FFD9A209A84FBCFF798#80) .fldlg2 ∧
  ConstForm 0x1ED#11 (nearestOr 0x3FFEB17217F7D1CF79AC#80 0x3FFEB17217F7D1CF79AB#80) .fldln2 ∧
  ConstForm 0x1EB#11 (fun f v => v = if f.cw.getLsbD 10 then 0x4000C90FDAA22168C234#80 else 0x4000C90FDAA22168C235#80) .fldpi ∧
  (∀ (s : State) (i : Reg), s.fpuRuns → ∃ f g, s.notedReg (0x1C0#11 ||| i.setWidth 11) f ∧
    (if s.fpu.isEmpty i then ∃ h, AnyC f h ∧ g = h.faulted false (fun x => x.push indefinite)
     else PushesReg (fun x => Calc.pure (x.reg i)) f g) ∧ WritesFpu (.fldSti i) s g))

/-- FST, FSTP, FIST, FISTP and FBSTP: the value stored, pops, underflow, status and frame; narrowing rounds by RC. A
finite number is stored rounded to the format by RC, with #O and #U at the bounds of the format; a zero, an infinity
and a NaN keep their kind and sign, a NaN its high fraction bits, an SNaN quieted with #IA; an integer and a decimal
are the value rounded to an integer where it fits, else #IA with the indefinite of the format. A store whose memory
passes the checks of a write stores ST(0) converted to its format, or its indefinite for an empty register, unless an
unmasked exception holds it back, then pops; the bytes stored to are all of memory that changes. C1 = 0 after an
unmasked #IA, #O or #U and after a masked #IA is the model's inference (DEDUCED, log 45; D72 for exact stores). -/
def Obligations.FpuStoreResult : Prop :=
  ((∀ (cw : Word) (eb fb : Nat) (x : Ext), (eb = 8 ∧ fb = 23) ∨ (eb = 11 ∧ fb = 52) →
    (isFinite x = true → isZero x = false → StoredReal cw eb fb (valueOf x) (storeReal cw eb fb x)) ∧
    (isZero x = true → ∃ v, v < 2 ^ (eb + fb + 1) ∧ isSignedZero (widenReal eb fb v).val (xSign x) ∧
      storeReal cw eb fb x = Answer false false false false false false false false (some v)) ∧
    (isInf x = true → ∃ v, v < 2 ^ (eb + fb + 1) ∧ isInfinity (widenReal eb fb v).val (xSign x) ∧
      storeReal cw eb fb x = Answer false false false false false false false false (some v)) ∧
    (isNan x = true → ∃ v, v < 2 ^ (eb + fb + 1) ∧ v / 2 ^ (eb + fb) = (xSign x).toNat ∧
      v / 2 ^ fb % 2 ^ eb = 2 ^ eb - 1 ∧
      v % 2 ^ fb = (xSig x % 2 ^ 63 ||| 2 ^ 62) / 2 ^ (63 - fb) ∧
      storeReal cw eb fb x = (if classOf x = .snan then InvalidAnswer cw v
        else Answer false false false false false false false false (some v))) ∧
    (classOf x = .unsupported → storeReal cw eb fb x =
      InvalidAnswer cw (2 ^ (eb + fb) + (2 ^ eb - 1) * 2 ^ fb + 2 ^ (fb - 1)))) ∧
  (∀ (cw : Word) (n : Nat) (x : Ext), n = 16 ∨ n = 32 ∨ n = 64 →
    let r := (valueOf x).roundAt (rcOf cw) 0
    let i : Int := if xSign x then -(r.mant : Int) else r.mant
    (isFinite x = true → fitsSigned n i = true → ∃ v, v < 2 ^ n ∧ (BitVec.ofNat n v).toInt = i ∧
      storeInt cw n x = Answer false false false false false r.inexact r.up false (some v)) ∧
    (isFinite x = false ∨ fitsSigned n i = false → storeInt cw n x = InvalidAnswer cw (2 ^ (n - 1)))) ∧
  (∀ (cw : Word) (low : QWord) (x : Ext),
    let r := (valueOf x).roundAt (rcOf cw) 0
    (isFinite x = true → r.mant < 10 ^ 18 → ∃ v, (∀ k < 18, v / 16 ^ k % 16 = r.mant / 10 ^ k % 10) ∧
      v / 2 ^ 72 = (if xSign x then 128 else 0) ∧
      storeBcd cw low x = Answer false false false false false r.inexact r.up false (some v)) ∧
    (isFinite x = false ∨ 10 ^ 18 ≤ r.mant → ∃ v, v / 2 ^ 64 = 0xFFFF ∧ storeBcd cw low x = InvalidAnswer cw v))) ∧
  (StoreForm 1#3 2#3 4 4 0 (fun v => v = 0xFFC00000) (fun cw x c => c = storeReal cw 8 23 x) .fstM32real ∧
  StoreForm 5#3 2#3 8 8 0 (fun v => v = 0xFFF8000000000000) (fun cw x c => c = storeReal cw 11 52 x) .fstM64real ∧
  StoreForm 1#3 3#3 4 4 1 (fun v => v = 0xFFC00000) (fun cw x c => c = storeReal cw 8 23 x) .fstpM32real ∧
  StoreForm 5#3 3#3 8 8 1 (fun v => v = 0xFFF8000000000000) (fun cw x c => c = storeReal cw 11 52 x) .fstpM64real ∧
  StoreForm 3#3 7#3 10 8 1 (fun v => v = 0xFFFFC000000000000000) (fun _ x c => c = Calc.pure x.toNat) .fstpM80real ∧
  StoreForm 7#3 2#3 2 2 0 (fun v => v = 2 ^ 15) (fun cw x c => c = storeInt cw 16 x) .fistM16int ∧
  StoreForm 3#3 2#3 4 4 0 (fun v => v = 2 ^ 31) (fun cw x c => c = storeInt cw 32 x) .fistM32int ∧
  StoreForm 7#3 3#3 2 2 1 (fun v => v = 2 ^ 15) (fun cw x c => c = storeInt cw 16 x) .fistpM16int ∧
  StoreForm 3#3 3#3 4 4 1 (fun v => v = 2 ^ 31) (fun cw x c => c = storeInt cw 32 x) .fistpM32int ∧
  StoreForm 7#3 7#3 8 8 1 (fun v => v = 2 ^ 63) (fun cw x c => c = storeInt cw 64 x) .fistpM64int ∧
  StoreForm 7#3 6#3 10 8 1 (fun v => v / 2 ^ 64 = 0xFFFF ∧ v < 2 ^ 80) (fun cw x c => ∃ u, c = storeBcd cw u x) .fbstpM80bcd ∧
  (∀ i : Reg, RegForm (0x5D0#11 ||| i.setWidth 11) i 0 [0#3] (fun _ f => Calc.pure (f.reg 0#3)) (.fstSti i) ∧
    RegForm (0x5D8#11 ||| i.setWidth 11) i 1 [0#3] (fun _ f => Calc.pure (f.reg 0#3)) (.fstpSti i)))

/-- FCOM, FUCOM, FICOM, FTST, FXAM, FCOMI and FUCOMI: order, condition codes or flags, exceptions, pops and frame. C3
C2 C0 are 001, 000 and 100 for less, greater and equal exact values, zeros being equal and infinities beyond every
finite number, and 111 for NaNs; an unsupported operand, an SNaN and, but for the unordered forms, a QNaN is #IA, a
denormal #D where the form raises it. A comparison gives the order of ST(0) and its operand in C3, C2 and C0, or in
ZF, PF and CF, unordered for NaNs, with #IA for the NaNs its rule names and #D for denormals except FCOMI, then pops;
FXAM gives the class of ST(0), and its sign in C1. That FCOMI and its kin leave OF, SF and AF as they are is the
choice D29 (log 44), on which no proof may depend. -/
def Obligations.FpuCompareResult : Prop :=
  (∀ (cw : Word) (quietOk denormals : Bool) (a b : FpOperand),
    let bad := fun x : FpOperand => classOf x.val = .unsupported ∨ classOf x.val = .snan ∨
      (quietOk = false ∧ classOf x.val = .qnan)
    let answer := fun r : BitVec 3 => Answer false false false false false false false false (some r)
    (bad a ∨ bad b → compare cw quietOk denormals a b = InvalidAnswer cw 7#3) ∧
    (¬ bad a → ¬ bad b → isNan a.val = true ∨ isNan b.val = true → compare cw quietOk denormals a b = answer 7#3) ∧
    (¬ bad a → ¬ bad b → isNan a.val = false → isNan b.val = false →
      ∃ r, compare cw quietOk denormals a b = DenormalAnswer cw (denormals && (a.den || b.den)) (answer r) ∧
        (isFinite a.val = true → isFinite b.val = true →
          ((valueOf a.val).less (valueOf b.val) → r = 1#3) ∧ ((valueOf b.val).less (valueOf a.val) → r = 0#3) ∧
          ((valueOf a.val).same (valueOf b.val) → r = 4#3)) ∧
        (isInf a.val = true → isFinite b.val = true → r = if xSign a.val then 1#3 else 0#3) ∧
        (isFinite a.val = true → isInf b.val = true → r = if xSign b.val then 0#3 else 1#3) ∧
        (isInf a.val = true → isInf b.val = true →
          r = if xSign a.val = xSign b.val then 4#3 else if xSign a.val then 1#3 else 0#3))) ∧
  (ComMemForm 0#3 2#3 4 0 (widenReal 8 23) .fcomM32real ∧ ComMemForm 4#3 2#3 8 0 (widenReal 11 52) .fcomM64real ∧
  ComMemForm 6#3 2#3 2 0 (fun v => regOperand (extOfInt (BitVec.ofNat 16 v).toInt)) .ficomM16int ∧
  ComMemForm 2#3 2#3 4 0 (fun v => regOperand (extOfInt (BitVec.ofNat 32 v).toInt)) .ficomM32int ∧
  ComMemForm 0#3 3#3 4 1 (widenReal 8 23) .fcompM32real ∧ ComMemForm 4#3 3#3 8 1 (widenReal 11 52) .fcompM64real ∧
  ComMemForm 6#3 3#3 2 1 (fun v => regOperand (extOfInt (BitVec.ofNat 16 v).toInt)) .ficompM16int ∧
  ComMemForm 2#3 3#3 4 1 (fun v => regOperand (extOfInt (BitVec.ofNat 32 v).toInt)) .ficompM32int ∧
  (∀ r : Reg, ComRegForm (0xD0#11 ||| r.setWidth 11) false 0 r (.fcomSti r) ∧
    ComRegForm (0xD8#11 ||| r.setWidth 11) false 1 r (.fcompSti r) ∧
    ComRegForm (0x5E0#11 ||| r.setWidth 11) true 0 r (.fucomSti r) ∧
    ComRegForm (0x5E8#11 ||| r.setWidth 11) true 1 r (.fucompSti r)) ∧
  ComRegForm 0x6D9#11 false 2 1#3 .fcompp ∧ ComRegForm 0x2E9#11 true 2 1#3 .fucompp ∧
  ComFlagsForm 0x3F0#11 false 0 .fcomiSt0Sti ∧ ComFlagsForm 0x7F0#11 false 1 .fcomipSt0Sti ∧
  ComFlagsForm 0x3E8#11 true 0 .fucomiSt0Sti ∧ ComFlagsForm 0x7E8#11 true 1 .fucomipSt0Sti ∧
  (∀ s : State, s.fpuRuns → ∃ f, s.notedReg 0x1E4#11 f ∧
    WritesFpu .ftst s (f.compared false true true 0 [0#3] (regOperand 0#80))) ∧
  (∀ s : State, s.fpuRuns → ∃ f, s.notedReg 0x1E5#11 f ∧
    let x := s.fpu.reg 0#3
    let c : BitVec 3 :=
      if s.fpu.isEmpty 0#3 then 5#3
      else if classOf x = .unsupported then 0#3 else if isNan x then 1#3 else if classOf x = .normal then 2#3
      else if isInf x then 3#3 else if isZero x then 4#3 else 6#3
    WritesFpu .fxam s { f with st := { f.st with
      c3 := c.getLsbD 2, c2 := c.getLsbD 1, c1 := xSign x, c0 := c.getLsbD 0 } }))

/-- FCMOV, FXCH, FABS, FCHS, FSQRT, FRNDINT, FSCALE, FPREM, FPREM1 and FXTRACT: values, registers, status and frame.
FRNDINT gives the value rounded to an integer by RC; FSCALE multiplies by 2 to the truncated ST(1); FXTRACT gives an
exponent k and a significand of exponent 0 whose product with 2^k is the operand; zeros, infinities and NaNs as their
rules have them. The answers for an infinite scale of FSCALE (DESIGN CHOICE, log 55) and for an infinite operand of
FXTRACT (PRESUMED, log 40) are the model's; so is C1 = 0 where an unmasked #IA, #D or #Z stops the operation (DEDUCED,
log 45). Each computes ST(0), and its partner where it has one, from registers that are not empty, adds its exception
flags and sets C1; an empty one is a stack fault with its masked response; C0, C2 and C3 are any value except what
FPREM says of the quotient; nothing outside the FPU changes. FSQRT with PC = 01B is refused (log 16). FPREM and FPREM1
look at the difference D of the exponents of dividend and modulus, both finite and not zero. With D below 64 the
reduction is complete: C2 is 0, C0, C3 and C1 are bits 2, 1 and 0 of the quotient, the quotient of the magnitudes is
truncated for FPREM and rounded to nearest even for FPREM1, and the remainder is exactly the dividend less the
quotient times the modulus, a zero with the sign of the dividend. With D of 64 or more it is not: C2 is 1, C0, C3 and
C1 are 0, and for some N from 32 to 63 the result is exactly the dividend less the modulus times 2^(D-N) times the
truncated quotient by that product, with an exponent at least N below that of the dividend. With an infinite modulus
the quotient is 0 and the result the dividend, judged for underflow as any other; a zero dividend stays, with the
quotient 0; an infinite dividend and a zero modulus are invalid, and then C2 is 0 where the invalid operation is
masked. N is an opaque function of the operands (DESIGN CHOICE, log 28), and the exponent of a denormal is that of its
value (DEDUCED, log 28); C0 and C3 where there is no quotient are any value (log 26). -/
def Obligations.FpuRegisterResult : Prop :=
  ((∀ (cw : Word) (a : Ext),
    (isInf a = true ∨ isZero a = true → rawRint cw a = .exact a) ∧
    (isFinite a = true → isZero a = false →
      let r := (valueOf a).roundAt (rcOf cw) 0
      ∃ v, IsNumber v (r.value (xSign a)) ∧
        (rawRint cw a = .rounded v r.inexact r.up ∨ (rawRint cw a = .exact v ∧ r.inexact = false)))) ∧
  (∀ a b : Ext, (isFinite a = true ∨ isInf a = true) → (isFinite b = true ∨ isInf b = true) →
    (isInf b = true → xSign b = true →
      (isInf a = true → rawScale a b = .invalid) ∧
      (isFinite a = true → ∃ v, isSignedZero v (xSign a) ∧ rawScale a b = .exact v)) ∧
    (isInf b = true → xSign b = false →
      (isZero a = true → rawScale a b = .invalid) ∧
      (isZero a = false → ∃ v, isInfinity v (xSign a) ∧ rawScale a b = .exact v)) ∧
    (isFinite b = true → isInf a = true ∨ isZero a = true → rawScale a b = .exact a) ∧
    (isFinite b = true → isFinite a = true → isZero a = false →
      let n := ((valueOf b).roundAt 3#2 0).mant
      ∃ m : Nat, rawScale a b = .num { valueOf a with
          exp := (valueOf a).exp + (if xSign b then -(m : Int) else m) } ∧
        (n ≤ 2 ^ 17 → m = n) ∧ (2 ^ 17 < n → 2 ^ 17 ≤ m))) ∧
  (∀ (cw : Word) (x : Ext),
    let answer := fun v : Ext × Ext => Answer false false false false false false false false (some v)
    (classOf x = .unsupported → extract cw x =
      InvalidAnswer cw (0xFFFFC000000000000000#80, 0xFFFFC000000000000000#80)) ∧
    (classOf x = .snan → ∃ q, q = x ||| 0x00004000000000000000#80 ∧ extract cw x = InvalidAnswer cw (q, q)) ∧
    (classOf x = .qnan → extract cw x = answer (x, x)) ∧
    (isZero x = true → ∃ v, isInfinity v true ∧ extract cw x =
      Answer false false true false false false false false (if cw.getLsbD 2 then some (v, x) else none)) ∧
    (isInf x = true → ∃ v, isInfinity v false ∧ extract cw x = answer (v, x)) ∧
    (isFinite x = true → isZero x = false → ∃ e m : Ext, ∃ k : Int,
      extract cw x = DenormalAnswer cw (classOf x == .denormal) (answer (e, m)) ∧
      IsNumber e { sign := decide (k < 0), mant := k.natAbs, exp := 0 } ∧
      xExp m = 0x3FFF ∧ IsNumber m { valueOf x with exp := (valueOf x).exp - k }))) ∧
  ((∀ i, RegForm (0x2C0#11 ||| i.setWidth 11) 0#3 0 [0#3, i]
    (fun s f => Calc.pure (if s.flags.cf then f.reg i else f.reg 0#3)) (.fcmovbSt0Sti i)) ∧
  (∀ i, RegForm (0x2C8#11 ||| i.setWidth 11) 0#3 0 [0#3, i]
    (fun s f => Calc.pure (if s.flags.zf then f.reg i else f.reg 0#3)) (.fcmoveSt0Sti i)) ∧
  (∀ i, RegForm (0x2D0#11 ||| i.setWidth 11) 0#3 0 [0#3, i]
    (fun s f => Calc.pure (if s.flags.cf || s.flags.zf then f.reg i else f.reg 0#3)) (.fcmovbeSt0Sti i)) ∧
  (∀ i, RegForm (0x2D8#11 ||| i.setWidth 11) 0#3 0 [0#3, i]
    (fun s f => Calc.pure (if s.flags.pf then f.reg i else f.reg 0#3)) (.fcmovuSt0Sti i)) ∧
  (∀ i, RegForm (0x3C0#11 ||| i.setWidth 11) 0#3 0 [0#3, i]
    (fun s f => Calc.pure (if !s.flags.cf then f.reg i else f.reg 0#3)) (.fcmovnbSt0Sti i)) ∧
  (∀ i, RegForm (0x3C8#11 ||| i.setWidth 11) 0#3 0 [0#3, i]
    (fun s f => Calc.pure (if !s.flags.zf then f.reg i else f.reg 0#3)) (.fcmovneSt0Sti i)) ∧
  (∀ i, RegForm (0x3D0#11 ||| i.setWidth 11) 0#3 0 [0#3, i]
    (fun s f => Calc.pure (if !(s.flags.cf || s.flags.zf) then f.reg i else f.reg 0#3)) (.fcmovnbeSt0Sti i)) ∧
  (∀ i, RegForm (0x3D8#11 ||| i.setWidth 11) 0#3 0 [0#3, i]
    (fun s f => Calc.pure (if !s.flags.pf then f.reg i else f.reg 0#3)) (.fcmovnuSt0Sti i)) ∧
  RegForm 0x1E1#11 0#3 0 [0#3] (fun _ f => Calc.pure (f.reg 0#3 &&& 0x7FFFFFFFFFFFFFFFFFFF#80)) .fabs ∧
  RegForm 0x1E0#11 0#3 0 [0#3] (fun _ f => Calc.pure (f.reg 0#3 ^^^ 0x80000000000000000000#80)) .fchs ∧
  RegForm 0x1FC#11 0#3 0 [0#3] (fun _ f => arith f.cw 64 [regOperand (f.reg 0#3)] (rawRint f.cw (f.reg 0#3))) .frndint ∧
  RegForm 0x1FD#11 0#3 0 [0#3, 1#3]
    (fun _ f => arith f.cw 64 [regOperand (f.reg 0#3), regOperand (f.reg 1#3)] (rawScale (f.reg 0#3) (f.reg 1#3))) .fscale ∧
  (∀ s : State, s.fpuRuns → Arith .fsqrt s (s.notedReg 0x1FA#11) 0#3 0 [0#3]
    fun f => arith f.cw (pcBits f.cw) [regOperand (f.reg 0#3)] (rawSqrt (f.reg 0#3))) ∧
  (∀ (s : State) (i : Reg), s.fpuRuns → ∃ f h g, s.notedReg (0x1C8#11 ||| i.setWidth 11) f ∧ AnyC f h ∧
    (let swap := fun x : Fpu => (x.setReg 0#3 (if f.isEmpty i then indefinite else f.reg i)).setReg i
        (if f.isEmpty 0#3 then indefinite else f.reg 0#3)
     g = if f.isEmpty 0#3 || f.isEmpty i then h.faulted false swap
         else swap { h with st := { h.st with c1 := false } }) ∧ WritesFpu (.fxchSti i) s g) ∧
  (∀ (s : State) (nearest : Bool), s.fpuRuns → ∃ f h g,
    s.notedReg (if nearest then 0x1F5#11 else 0x1F8#11) f ∧ AnyC f h ∧
    (g = if f.isEmpty 0#3 || f.isEmpty 1#3 then h.faulted false (fun x => x.setReg 0#3 indefinite)
         else h.answered (arith f.cw 64 [regOperand (f.reg 0#3), regOperand (f.reg 1#3)] (f.remainderOf nearest).raw)
           (fun x v => { x with st := quotientCodes (f.remainderOf nearest) x.st }.setReg 0#3 v)) ∧
    (nearest = false → WritesFpu .fprem s g) ∧ (nearest = true → WritesFpu .fprem1 s g)) ∧
  (∀ s : State, s.fpuRuns → ∃ f h g, s.notedReg 0x1F4#11 f ∧ AnyC f h ∧
    (let bad := fun x : Fpu => (x.setReg 0#3 indefinite).push indefinite
     g = if f.isEmpty 0#3 then h.faulted false bad
         else if f.isEmpty 7#3 then h.answered (extract f.cw (f.reg 0#3)) (fun x v => (x.setReg 0#3 v.1).push v.2)
         else h.faulted true bad) ∧ WritesFpu .fxtract s g)) ∧
  ((∀ (f : Fpu) (nearest : Bool),
    let a := f.reg 0#3
    let b := f.reg 1#3
    if isNan a = true ∨ isNan b = true ∨ classOf a = .unsupported ∨ classOf b = .unsupported then
      (f.remainderOf nearest).q = none ∧ (f.remainderOf nearest).incomplete = false
    else ∃ n, 32 ≤ n ∧ n ≤ 63 ∧ f.remainderOf nearest = remainder nearest n a b) ∧
  (∀ (a b : Ext) (n : Nat) (nearest : Bool),
    (isInf a = true ∨ isZero b = true → remainder nearest n a b = { raw := .invalid, incomplete := false, q := none }) ∧
    (isZero a = true → isZero b = false →
      remainder nearest n a b = { raw := .exact a, incomplete := false, q := some 0 }) ∧
    (isFinite a = true → isZero a = false → isInf b = true →
      remainder nearest n a b = { raw := .num (valueOf a), incomplete := false, q := some 0 })) ∧
  (∀ (a b : Ext) (n : Nat) (nearest : Bool), 32 ≤ n → n ≤ 63 → isFinite a = true → isZero a = false →
    isFinite b = true → isZero b = false →
    let r := remainder nearest n a b
    let x := valueOf a
    let y := valueOf b
    let gap := x.top - y.top
    r.incomplete = decide (64 ≤ gap) ∧
    ∀ e, e ≤ x.exp → e ≤ y.exp →
      let X := x.mant * 2 ^ (x.exp - e).toNat
      let Y := y.mant * 2 ^ (y.exp - e).toNat
      let Z := Y * 2 ^ (gap - n).toNat
      (gap < 64 → ∃ q : Nat, r.q = some q ∧
        (nearest = false → q = X / Y) ∧
        (nearest = true → 2 * ((X : Int) - q * Y).natAbs ≤ Y ∧ (2 * ((X : Int) - q * Y).natAbs = Y → q % 2 = 0)) ∧
        (match r.raw with
         | .exact v => (X : Int) = q * Y ∧ isZero v = true ∧ xSign v = xSign a
         | .num d => e ≤ d.exp ∧ d.mant ≠ 0 ∧ d.scaled e = (if xSign a then -1 else 1) * ((X : Int) - q * Y)
         | _ => False)) ∧
      (64 ≤ gap → r.q = some 0 ∧
        (match r.raw with
         | .exact v => X = X / Z * Z ∧ isZero v = true ∧ xSign v = xSign a
         | .num d => e ≤ d.exp ∧ d.mant ≠ 0 ∧ d.top ≤ x.top - n ∧
             d.scaled e = (if xSign a then -1 else 1) * ((X : Int) - (X / Z * Z : Nat))
         | _ => False))) ∧
  (∀ (d : Machine.Dyadic) (e : Int), d.mant ≠ 0 → e ≤ d.exp →
    2 ^ (d.top - e).toNat ≤ d.mant * 2 ^ (d.exp - e).toNat ∧
    d.mant * 2 ^ (d.exp - e).toNat < 2 ^ (d.top - e + 1).toNat))

/-- F2XM1, FPATAN, FYL2X, FYL2XP1, FSIN, FCOS, FSINCOS and FPTAN: registers, C2, accuracy, faults and frame. Each
computes from registers that are not empty the special results of its table, and else the value that the oracle of
R560 gives (log 27), outside its stated range any value; an operand of 2^63 or more leaves ST(0) and sets C2, and C2
is clear otherwise, which for FSIN, FCOS, FPTAN and FSINCOS after a stack underflow is the model's inference (DEDUCED,
log 26) and after an unmasked #IA of an infinity its choice (DESIGN CHOICE, log 59); nothing outside the FPU changes.
Where no exact result is listed the answer of a transcendental function is a number of 64 bits whose distance from the
function is below 1 ulp rounding to nearest and below 1.5 ulps otherwise, in the order of the function, rising or
falling, from one value of either operand to the next, also where the last rounding is to a denormal, and inexact. The
function is here the model's approximation of it to more than 300 bits (log 27). The exact results are the rows of the
tables: F2XM1 of a zero and of +1 and -1 (PE, and C1 with it, open there: log 27); sine, cosine and tangent of a zero
and an infinity; FPATAN with a zero or an infinity, as multiples of the 66-bit pi (R561) that are rounded by RC; FYL2X
and FYL2XP1 with a zero or an infinity, and FYL2X of 1, with their invalid operations and zero divides. The sign of
the zero of FYL2X for a zero in ST(1) and a positive finite ST(0) other than 1 is left open, as U-FYL2X-ZERO-SIGN asks
(log 44). Elsewhere FPATAN and the logarithms have the sign of their rows, FPATAN stays in its quadrant, and a sine
and a cosine are at most 1 in magnitude. The ranges are -1 to 1 for F2XM1, -(1 - sqrt(2)/2) to 1 - sqrt(2)/2 for
FYL2XP1 (an infinite operand is in its table), and magnitudes below 2^63 for the trigonometric functions. FPTAN leaves
the tangent in ST(1) under 1.0 (for an infinity or a NaN that or the first result: DESIGN CHOICE, log 41); FSINCOS
leaves the sine in ST(1) and the cosine in ST(0), and its C1 is that of one of the two (DESIGN CHOICE, log 41). -/
def Obligations.FpuTranscendentalResult : Prop :=
  ((∀ s : State, s.fpuRuns → ∃ free, ∃ f g, s.notedReg 0x1F0#11 f ∧
    Computes 0#3 0 [0#3] (fun x => unaryCalc x.cw (inExp2Range (x.reg 0#3)) free (x.reg 0#3)
      (rawExp2m1 (rcOf x.cw) (x.reg 0#3))) f g ∧ WritesFpu .f2xm1 s g) ∧
  (∀ s : State, s.fpuRuns → ∃ free, ∃ f g, s.notedReg 0x1F3#11 f ∧
    Computes 1#3 1 [0#3, 1#3] (fun x => binaryCalc x.cw true free (x.reg 1#3) (x.reg 0#3)
      (rawAtan (rcOf x.cw) (x.reg 1#3) (x.reg 0#3))) f g ∧ WritesFpu .fpatan s g) ∧
  (∀ s : State, s.fpuRuns → ∃ free, ∃ f g, s.notedReg 0x1F1#11 f ∧
    Computes 1#3 1 [0#3, 1#3] (fun x => binaryCalc x.cw true free (x.reg 1#3) (x.reg 0#3)
      (rawYLog2 (rcOf x.cw) (x.reg 1#3) (x.reg 0#3))) f g ∧ WritesFpu .fyl2x s g) ∧
  (∀ s : State, s.fpuRuns → ∃ free, ∃ f g, s.notedReg 0x1F9#11 f ∧
    Computes 1#3 1 [0#3, 1#3] (fun x => binaryCalc x.cw (inLogRange (x.reg 0#3)) free (x.reg 1#3) (x.reg 0#3)
      (rawYLog2P1 (rcOf x.cw) (x.reg 1#3) (x.reg 0#3))) f g ∧ WritesFpu .fyl2xp1 s g) ∧
  (∀ s : State, s.fpuRuns →
    let x := s.fpu.reg 0#3
    let atC2 := fun (h : Fpu) (b : Bool) => { h with st := { h.st with c2 := b } }
    let one := fun (h : Fpu) (c : Calc Ext) => (atC2 h false).answered c (fun y v => y.setReg 0#3 v)
    (∃ f h, s.notedReg 0x1FE#11 f ∧ AnyC f h ∧ WritesFpu .fsin s
      (if f.isEmpty 0#3 then (atC2 h false).faulted false (fun y => y.setReg 0#3 indefinite)
       else if tooLarge x then { h with st := { h.st with c2 := true, c1 := false } }
       else one h (arith f.cw 64 [regOperand x] (rawSin .fsin (rcOf f.cw) x)))) ∧
    (∃ f h b, s.notedReg 0x1FF#11 f ∧ AnyC f h ∧ WritesFpu .fcos s
      (if f.isEmpty 0#3 then (atC2 h false).faulted false (fun y => y.setReg 0#3 indefinite)
       else if tooLarge x then { h with st := { h.st with c2 := true, c1 := b } }
       else one h (arith f.cw 64 [regOperand x] (rawCos .fcos (rcOf f.cw) x))))) ∧
  (∀ s : State, s.fpuRuns →
    let x := s.fpu.reg 0#3
    let atC2 := fun (h : Fpu) (b : Bool) => { h with st := { h.st with c2 := b } }
    let bad := fun y : Fpu => (y.setReg 0#3 indefinite).push indefinite
    let after := fun (f h : Fpu) (c : Calc (Ext × Ext)) =>
      if f.isEmpty 0#3 then (atC2 h false).faulted false bad
      else if tooLarge x then { h with st := { h.st with c2 := true, c1 := false } }
      else if f.isEmpty 7#3 then (atC2 h false).answered c (fun y v => (y.setReg 0#3 v.1).push v.2)
      else (atC2 h false).faulted true bad
    (∃ f h b, s.notedReg 0x1F2#11 f ∧ AnyC f h ∧ WritesFpu .fptan s (after f h (tanPair f.cw b x))) ∧
    (∃ f h b, s.notedReg 0x1FB#11 f ∧ AnyC f h ∧ WritesFpu .fsincos s (after f h (sinCosPair f.cw b x))))) ∧
  ((∀ (op : Config.Transcend) (rc : BitVec 2) (y x : Ext), asked op y x = true →
    let g := transcend op rc y x
    withinUlp rc (approx op y x) g = true ∧ ((approx op y x).mant ≠ 0 → 2 ^ 63 ≤ g.mant ∧ g.mant < 2 ^ 64) ∧
    (canonical x = x → canonical (nextExt x) = nextExt x → AnswersInOrder op rc y x y (nextExt x)) ∧
    (canonical y = y → canonical (nextExt y) = nextExt y → AnswersInOrder op rc y x (nextExt y) x)) ∧
  (∀ (op : Config.Transcend) (rc : BitVec 2) (y x : Ext), ∃ up,
    asks op rc y x = .num ((transcend op rc y x).beside rc up)) ∧
  (∀ (g : Machine.Dyadic) (rc : BitVec 2) (up : Bool), 2 ^ 63 ≤ g.mant → g.mant < 2 ^ 64 →
    let r := (g.beside rc up).roundTo rc 64
    r.mant = g.mant ∧ r.exp = g.exp ∧ r.inexact = true) ∧
  (∀ (rc : BitVec 2) (y x : Ext), isZero x = false → isInf x = false →
    (∀ op, rawSin op rc x = asks op rc 0#80 x ∧ rawCos op rc x = asks op rc 0#80 x) ∧
    rawTan rc x = asks .fptan rc 0#80 x ∧
    ((valueOf x).top < 0 → rawExp2m1 rc x = asks .f2xm1 rc 0#80 x) ∧
    (isNumber y = true → rawAtan rc y x = asks .fpatan rc y x ∧
      (xSign x = false → x ≠ oneExt → rawYLog2 rc y x = asks .fyl2x rc y x) ∧
      rawYLog2P1 rc y x = asks .fyl2xp1 rc y x)) ∧
  (∀ (rc : BitVec 2) (y x : Ext),
    (∀ op, asked op y x = true → op ∈ [.fsin, .fcos, .sincosSin, .sincosCos] →
      (transcend op rc y x).atMost (powerOfTwo 0)) ∧
    (asked .f2xm1 y x = true → (transcend .f2xm1 rc y x).sign = xSign x) ∧
    (asked .fpatan y x = true →
      let g := transcend .fpatan rc y x
      let angle := fun e : Int =>
        (({ sign := xSign y, mant := 0x3243F6A8885A308D3, exp := e } : Machine.Dyadic).roundTo rc 64).value false
      g.sign = xSign y ∧ (xSign x = false → g.atMost (angle (-65))) ∧
      (xSign x = true → g.atMost (angle (-64)) ∧ ¬ ({ g with sign := false }).less (angle (-65)))) ∧
    (asked .fyl2x y x = true →
      ((valueOf x).less (powerOfTwo 0) → (transcend .fyl2x rc y x).sign = !xSign y) ∧
      (¬ (valueOf x).less (powerOfTwo 0) → (transcend .fyl2x rc y x).sign = xSign y)) ∧
    (asked .fyl2xp1 y x = true → (transcend .fyl2xp1 rc y x).sign = (xSign y != xSign x)))) ∧
  ((∀ x : Ext,
    (inExp2Range x = true ↔ isFinite x = true ∧ (valueOf x).atMost (powerOfTwo 0)) ∧
    (tooLarge x = true ↔ isFinite x = true ∧ ¬ (valueOf x).below (powerOfTwo 63)) ∧
    (inLogRange x = true ↔ isInf x = true ∨ (isFinite x = true ∧ logRange x))) ∧
  (∀ (op : Config.Transcend) (rc : BitVec 2) (x : Ext),
    (isInf x = true → rawSin op rc x = .invalid ∧ rawCos op rc x = .invalid ∧ rawTan rc x = .invalid) ∧
    (isZero x = true → rawSin op rc x = .exact x ∧ rawCos op rc x = .exact 0x3FFF8000000000000000#80 ∧
      rawTan rc x = .exact x ∧ rawExp2m1 rc x = .exact x)) ∧
  (∀ rc : BitVec 2,
    (∃ i u, rawExp2m1 rc 0x3FFF8000000000000000#80 = .rounded 0x3FFF8000000000000000#80 i u ∧
      (u = true → i = true) ∧ (rc = 1#2 ∨ rc = 3#2 → u = false) ∧ (rc = 2#2 → u = i)) ∧
    (∃ i u, rawExp2m1 rc 0xBFFF8000000000000000#80 = .rounded 0xBFFE8000000000000000#80 i u ∧
      (u = true → i = true) ∧ (rc = 2#2 ∨ rc = 3#2 → u = false) ∧ (rc = 1#2 → u = i))) ∧
  (∀ (rc : BitVec 2) (y x : Ext), isFinite x = true ∨ isInf x = true → isFinite y = true ∨ isInf y = true →
    let pi := fun (n : Nat) (e : Int) =>
      RawResult.num { sign := xSign y, mant := n * 0x3243F6A8885A308D3, exp := e - 64 }
    (isInf y = true → isFinite x = true → rawAtan rc y x = pi 1 (-1)) ∧
    (isInf y = true → isInf x = true → rawAtan rc y x = if xSign x then pi 3 (-2) else pi 1 (-2)) ∧
    (isFinite y = true → isInf x = true ∨ isZero y = true →
      rawAtan rc y x = if xSign x then pi 1 0 else .exact (zeroOf (xSign y))) ∧
    (isFinite y = true → isZero y = false → isZero x = true → rawAtan rc y x = pi 1 (-1))) ∧
  (∀ (rc : BitVec 2) (y x : Ext), isFinite x = true ∨ isInf x = true → isFinite y = true ∨ isInf y = true →
    (isZero x = false → xSign x = true → rawYLog2 rc y x = .invalid) ∧
    (isZero x = true → rawYLog2 rc y x =
      if isZero y then .invalid else if isInf y then .exact (infOf (!xSign y)) else .zeroDivide (infOf (!xSign y))) ∧
    (isInf x = true → xSign x = false → rawYLog2 rc y x = if isZero y then .invalid else .exact (infOf (xSign y))) ∧
    (x = 0x3FFF8000000000000000#80 → rawYLog2 rc y x = if isInf y then .invalid else .exact (zeroOf (xSign y))) ∧
    (isFinite x = true → isZero x = false → xSign x = false → x ≠ 0x3FFF8000000000000000#80 →
      (isZero y = true → ∃ s, rawYLog2 rc y x = .exact (zeroOf s)) ∧
      (isInf y = true → (valueOf x).less (powerOfTwo 0) → rawYLog2 rc y x = .exact (infOf (!xSign y))) ∧
      (isInf y = true → ¬ (valueOf x).less (powerOfTwo 0) → rawYLog2 rc y x = .exact (infOf (xSign y))))) ∧
  (∀ (rc : BitVec 2) (y x : Ext), isFinite x = true ∨ isInf x = true → isFinite y = true ∨ isInf y = true →
    let s := xSign y != xSign x
    (isInf x = true → rawYLog2P1 rc y x =
      if xSign x = true ∨ isZero y = true then .invalid else .exact (infOf (xSign y))) ∧
    (isFinite x = true → isInf y = true → rawYLog2P1 rc y x = if isZero x then .invalid else .exact (infOf s)) ∧
    (isFinite x = true → isFinite y = true → isZero x = true ∨ isZero y = true →
      rawYLog2P1 rc y x = .exact (zeroOf s))) ∧
  (∀ (cw : Word) (bit : Bool) (x : Ext),
    let c := arith cw 64 [regOperand x] (rawTan (rcOf cw) x)
    ∃ w : Ext, tanPair cw bit x = { c with val := c.val.map fun v => (v, w) } ∧
      (isFinite x = true → w = 0x3FFF8000000000000000#80) ∧ (w = 0x3FFF8000000000000000#80 ∨ c.val = some w)) ∧
  (∀ (cw : Word) (bit : Bool) (x : Ext),
    let a := arith cw 64 [regOperand x] (rawSin .sincosSin (rcOf cw) x)
    let b := arith cw 64 [regOperand x] (rawCos .sincosCos (rcOf cw) x)
    let p := sinCosPair cw bit x
    (∀ u v, a.val = some u → b.val = some v → p.val = some (u, v)) ∧ (a.val = none ∨ b.val = none → p.val = none) ∧
    p.ie = a.ie ∧ p.de = a.de ∧ p.ze = false ∧ p.oe = (a.oe || b.oe) ∧ p.ue = (a.ue || b.ue) ∧ p.pe = (a.pe || b.pe) ∧
    (p.c1 = a.c1 ∨ p.c1 = b.c1)))

/-- FPU control instructions and WAIT: control and status word, TOP, tags, and the composite forms. FINIT, FCLEX,
FSTCW and FSTSW, with and without their WAIT, FLDCW, FINCSTP, FDECSTP, FFREE, FNOP, WAIT and the three obsolete ones,
which do nothing (D78, log 47), complete with the FPU and the bytes of memory their rules give; a composite form does
so from the state after its WAIT where no event comes between. That the WAIT of a composite form leaves C0 to C3 as
they are, also where the second half has a prefix of its own, is the model's inference (DEDUCED, log 10). The status
word that FSTSW stores has IE, DE, ZE, OE, UE, PE and SF in bits 0 to 6, ES in bit 7, C0, C1 and C2 in bits 8 to 10,
TOP in bits 13:11, C3 in bit 14, and B, equal to ES by the choice D69, in bit 15; ES tells of a flag whose mask bit in
the control word is clear. -/
def Obligations.FpuControlResult : Prop :=
  ControlForms .fninit .finit (fun f g => g = f.cleared) ∧
  ControlForms .fnclex .fclex
    (fun f g => ∃ h, AnyC4 f h ∧ g = { h with st := { h.st with
      ie := false, de := false, ze := false, oe := false, ue := false, pe := false, sf := false } }) ∧
  (∀ s : State, s.fpuOff = false → exec .feni s = .next (s.finish s) ∧ exec .fdisi s = .next (s.finish s) ∧
    exec .fsetpm s = .next (s.finish s)) ∧
  StoreControlForms (fun _ => 2) (fun _ => 2) (fun s v => v = s.fpu.cw.toNat) AnyC4 .fnstcwM2byte .fstcwM2byte ∧
  StoreControlForms (fun _ => 2) (fun _ => 2) (fun s v => v = s.fpu.statusWord.toNat) AnyC4 .fnstswM2byte .fstswM2byte ∧
  (∀ s : State, s.fpuOff = false → ∃ g n, AnyC4 s.fpu g ∧ exec .fnstswAx s = .next (s.finish { s with
    gpr := s.gpr.write 16 rA s.fpu.statusWord, fpu := g, fresh := n })) ∧
  (∀ s : State, AfterWait s fun t => t.fpuOff = false → ∃ g n, AnyC4 t.fpu g ∧ exec .fstswAx s = .next (t.finish { t with
    gpr := s.gpr.write 16 rA t.fpu.statusWord, fpu := g, fresh := n })) ∧
  (∀ (s : State) (ea : Ea), s.fpuReads ea 2 2 → ∃ g,
    AnyC4 { s.fpu with cw := BitVec.ofNat 16 (s.operand ea 2) } g ∧ WritesFpu (.fldcwM2byte ea) s g) ∧
  (∀ s : State, s.fpuRuns →
    (∃ f g, s.notedReg 0x1D0#11 f ∧ AnyC4 f g ∧ WritesFpu .fnop s g) ∧
    (∃ f g, s.notedReg 0x1F6#11 f ∧ AnyC { f with st := { f.st with top := f.st.top - 1#3, c1 := false } } g ∧
      WritesFpu .fdecstp s g) ∧
    (∃ f g, s.notedReg 0x1F7#11 f ∧ AnyC { f with st := { f.st with top := f.st.top + 1#3, c1 := false } } g ∧
      WritesFpu .fincstp s g) ∧
    (∀ i : Reg, ∃ f g, s.notedReg (0x5C0#11 ||| i.setWidth 11) f ∧ AnyC4 (f.free i) g ∧ WritesFpu (.ffreeSti i) s g)) ∧
  (∀ s : State, s.waitPasses → (∃ g, AnyC4 s.fpu g ∧ WritesFpu .wait s g) ∧
    (opensControl (s.fetchWindow s.nextEip 15) = true → WritesFpu .wait s s.fpu)) ∧
  (∀ f : Fpu, StatusWordIn f f.statusWord.toNat)

/-- FSTENV, FSAVE, FLDENV and FRSTOR: the images stored and loaded, the frame, and that loading a stored image
restores the FPU. FSTENV and FSAVE store the environment, and FSAVE the registers after it, in the format of mode and
operand size, whatever its reserved bits are (log 39), then mask every exception, or leave the FPU as after FINIT; the
composite forms do so from the state after their WAIT, which leaves C0 to C3 (DEDUCED, log 10); FLDENV and FRSTOR load
what such an image says. That bits 31:16 of the two pointer offsets become 0 where the 14-byte image of protected mode
is loaded is the model's choice (DESIGN CHOICE, log 39), which R570, R711 and R713 do not state. In the 32-bit
protected-mode format the environment image determines control, status, empty registers, pointers and opcode, whatever
its reserved bits are, and the state image the registers too; in every format control, status and empty registers come
back. The layouts are the spec's choice D79, from general knowledge (PRESUMED, log 47): where control, status and tag
word, opcode, selectors and offsets stand in each of the four formats, with the tag of physical register i in bits
2i+1:2i, and outside protected mode a linear address in place of selector and offset, which comes back as an offset
with a selector of 0; the 14-byte image of protected mode holds no opcode, and loading it leaves the opcode; ST(i)
stands 10 i bytes after the environment. -/
def Obligations.FpuImageResult : Prop :=
  (StoreControlForms (fun s => envBytes s.os32) State.osBytes (fun s v => ∃ u, v = s.envImage u)
    (fun f g => AnyC4 { f with cw := f.cw ||| 0x3F#16 } g) .fnstenvMEnv .fstenvMEnv ∧
  StoreControlForms (fun s => envBytes s.os32 + 80) State.osBytes
    (fun s v => ∃ u, v = s.envImage u + 2 ^ (8 * envBytes s.os32) * s.fpu.stackImage.toNat)
    (fun f g => g = f.cleared) .fnsaveMState .fsaveMState ∧
  (∀ (s : State) (ea : Ea), s.fpuReads ea (envBytes s.os32) s.osBytes →
    WritesFpu (.fldenvMEnv ea) s (s.loadEnv (s.operand ea (envBytes s.os32)))) ∧
  (∀ (s : State) (ea : Ea), s.fpuReads ea (envBytes s.os32 + 80) s.osBytes →
    let v := s.operand ea (envBytes s.os32 + 80)
    WritesFpu (.frstorMState ea) s ((s.loadEnv v).loadStack (BitVec.ofNat 640 (v / 2 ^ (8 * envBytes s.os32)))))) ∧
  (∀ (s : State) (u : BitVec 224),
    (s.isProt = true → s.os32 = true →
      s.loadEnv (s.envImage u) = s.fpu ∧
      (s.loadEnv (s.envImage u + 2 ^ 224 * s.fpu.stackImage.toNat)).loadStack s.fpu.stackImage = s.fpu) ∧
    (s.loadEnv (s.envImage u)).cw = s.fpu.cw ∧ (s.loadEnv (s.envImage u)).st = s.fpu.st ∧
    (s.loadEnv (s.envImage u)).empty = s.fpu.empty) ∧
  ((∀ (s : State) (u : BitVec 224),
    let v := s.envImage u
    v < 2 ^ (8 * envBytes s.os32) ∧
    (s.isProt = true → s.os32 = true → EnvProt32 s.fpu v) ∧ (s.isProt = false → s.os32 = true → EnvReal32 s.fpu v) ∧
    (s.isProt = true → s.os32 = false → EnvProt16 s.fpu v) ∧
    (s.isProt = false → s.os32 = false → EnvReal16 s.fpu v)) ∧
  (∀ (s : State) (v : Nat),
    let g := s.loadEnv v
    LoadedWords s.fpu g v (if s.os32 then 32 else 16) ∧
    (s.isProt = true → s.os32 = true → g.fop.toNat = field v 144 11 ∧
      PointersAre g (field v 128 16) (field v 96 32) (field v 192 16) (field v 160 32)) ∧
    (s.isProt = false → s.os32 = true → g.fop.toNat = field v 128 11 ∧
      PointersAre g 0 (field v 140 16 * 2 ^ 16 + field v 96 16) 0 (field v 204 16 * 2 ^ 16 + field v 160 16)) ∧
    (s.isProt = true → s.os32 = false → g.fop = s.fpu.fop ∧
      PointersAre g (field v 64 16) (field v 48 16) (field v 96 16) (field v 80 16)) ∧
    (s.isProt = false → s.os32 = false → g.fop.toNat = field v 64 11 ∧
      PointersAre g 0 (field v 76 4 * 2 ^ 16 + field v 48 16) 0 (field v 108 4 * 2 ^ 16 + field v 80 16))) ∧
  (∀ (f : Fpu) (w : BitVec 640) (i : Reg),
    f.stackImage.extractLsb' (80 * i.toNat) 80 = f.reg i ∧ (f.loadStack w).reg i = w.extractLsb' (80 * i.toNat) 80 ∧
    f.loadStack w = { f with regs := (f.loadStack w).regs }))

/-- Floating-point instructions and WAIT take #NM with EM or TS set, and wait or take #MF with an exception pending.
Every waiting floating-point instruction takes #NM with EM or TS set; with an unmasked exception pending it takes #MF
where NE is set, and where NE is clear and IGNNE# inactive it stays where it is, the window of the instruction before
being over (log 48); the instructions that do not wait take #NM, and FENI, FDISI and FSETPM, which neither wait nor
look at a pending exception, take it by the choice D78 (log 47). WAIT, and a composite form at its WAIT, take #NM with
MP and TS set; else with an unmasked exception pending they take #MF where NE is set, and stay where they are where NE
is clear and IGNNE# inactive. Behind a WAIT that passes, with no event between, a composite form takes #NM with EM or
TS set, at its second half (that the two are one instruction of the model is DEDUCED, log 10). -/
def Obligations.FpuReadiness : Prop :=
  FpuWaits .fld1 ∧ FpuWaits .fldz ∧ FpuWaits .fldl2t ∧ FpuWaits .fldl2e ∧ FpuWaits .fldlg2 ∧ FpuWaits .fldln2 ∧
  FpuWaits .fldpi ∧ FpuWaits .fcompp ∧ FpuWaits .fucompp ∧ FpuWaits .ftst ∧ FpuWaits .fxam ∧ FpuWaits .fabs ∧
  FpuWaits .fchs ∧ FpuWaits .fsqrt ∧ FpuWaits .frndint ∧ FpuWaits .fscale ∧ FpuWaits .fprem ∧ FpuWaits .fprem1 ∧
  FpuWaits .fxtract ∧ FpuWaits .f2xm1 ∧ FpuWaits .fpatan ∧ FpuWaits .fyl2x ∧ FpuWaits .fyl2xp1 ∧ FpuWaits .fsin ∧
  FpuWaits .fcos ∧ FpuWaits .fsincos ∧ FpuWaits .fptan ∧ FpuWaits .fnop ∧ FpuWaits .fdecstp ∧ FpuWaits .fincstp ∧
  (∀ i, FpuWaits (.fldSti i)) ∧ (∀ i, FpuWaits (.fstSti i)) ∧ (∀ i, FpuWaits (.fstpSti i)) ∧
  (∀ i, FpuWaits (.fxchSti i)) ∧ (∀ i, FpuWaits (.fcomSti i)) ∧ (∀ i, FpuWaits (.fcompSti i)) ∧
  (∀ i, FpuWaits (.fucomSti i)) ∧ (∀ i, FpuWaits (.fucompSti i)) ∧ (∀ i, FpuWaits (.fcomiSt0Sti i)) ∧
  (∀ i, FpuWaits (.fcomipSt0Sti i)) ∧ (∀ i, FpuWaits (.fucomiSt0Sti i)) ∧ (∀ i, FpuWaits (.fucomipSt0Sti i)) ∧
  (∀ i, FpuWaits (.ffreeSti i)) ∧ (∀ i, FpuWaits (.fcmovbSt0Sti i)) ∧ (∀ i, FpuWaits (.fcmoveSt0Sti i)) ∧
  (∀ i, FpuWaits (.fcmovbeSt0Sti i)) ∧ (∀ i, FpuWaits (.fcmovuSt0Sti i)) ∧ (∀ i, FpuWaits (.fcmovnbSt0Sti i)) ∧
  (∀ i, FpuWaits (.fcmovneSt0Sti i)) ∧ (∀ i, FpuWaits (.fcmovnbeSt0Sti i)) ∧ (∀ i, FpuWaits (.fcmovnuSt0Sti i)) ∧
  (∀ i, FpuWaits (.faddSt0Sti i)) ∧ (∀ i, FpuWaits (.faddStiSt0 i)) ∧ (∀ i, FpuWaits (.faddpStiSt0 i)) ∧
  (∀ i, FpuWaits (.fmulSt0Sti i)) ∧ (∀ i, FpuWaits (.fmulStiSt0 i)) ∧ (∀ i, FpuWaits (.fmulpStiSt0 i)) ∧
  (∀ i, FpuWaits (.fsubSt0Sti i)) ∧ (∀ i, FpuWaits (.fsubStiSt0 i)) ∧ (∀ i, FpuWaits (.fsubpStiSt0 i)) ∧
  (∀ i, FpuWaits (.fsubrSt0Sti i)) ∧ (∀ i, FpuWaits (.fsubrStiSt0 i)) ∧ (∀ i, FpuWaits (.fsubrpStiSt0 i)) ∧
  (∀ i, FpuWaits (.fdivSt0Sti i)) ∧ (∀ i, FpuWaits (.fdivStiSt0 i)) ∧ (∀ i, FpuWaits (.fdivpStiSt0 i)) ∧
  (∀ i, FpuWaits (.fdivrSt0Sti i)) ∧ (∀ i, FpuWaits (.fdivrStiSt0 i)) ∧ (∀ i, FpuWaits (.fdivrpStiSt0 i)) ∧
  FpuWaitsMem .faddM32real ∧ FpuWaitsMem .faddM64real ∧ FpuWaitsMem .fmulM32real ∧ FpuWaitsMem .fmulM64real ∧
  FpuWaitsMem .fsubM32real ∧ FpuWaitsMem .fsubM64real ∧ FpuWaitsMem .fsubrM32real ∧ FpuWaitsMem .fsubrM64real ∧
  FpuWaitsMem .fdivM32real ∧ FpuWaitsMem .fdivM64real ∧ FpuWaitsMem .fdivrM32real ∧ FpuWaitsMem .fdivrM64real ∧
  FpuWaitsMem .fcomM32real ∧ FpuWaitsMem .fcomM64real ∧ FpuWaitsMem .fcompM32real ∧ FpuWaitsMem .fcompM64real ∧
  FpuWaitsMem .fiaddM16int ∧ FpuWaitsMem .fiaddM32int ∧ FpuWaitsMem .fimulM16int ∧ FpuWaitsMem .fimulM32int ∧
  FpuWaitsMem .fisubM16int ∧ FpuWaitsMem .fisubM32int ∧ FpuWaitsMem .fisubrM16int ∧ FpuWaitsMem .fisubrM32int ∧
  FpuWaitsMem .fidivM16int ∧ FpuWaitsMem .fidivM32int ∧ FpuWaitsMem .fidivrM16int ∧ FpuWaitsMem .fidivrM32int ∧
  FpuWaitsMem .ficomM16int ∧ FpuWaitsMem .ficomM32int ∧ FpuWaitsMem .ficompM16int ∧ FpuWaitsMem .ficompM32int ∧
  FpuWaitsMem .fldM32real ∧ FpuWaitsMem .fldM64real ∧ FpuWaitsMem .fldM80real ∧ FpuWaitsMem .fbldM80dec ∧
  FpuWaitsMem .fildM16int ∧ FpuWaitsMem .fildM32int ∧ FpuWaitsMem .fildM64int ∧ FpuWaitsMem .fstM32real ∧
  FpuWaitsMem .fstM64real ∧ FpuWaitsMem .fstpM32real ∧ FpuWaitsMem .fstpM64real ∧ FpuWaitsMem .fstpM80real ∧
  FpuWaitsMem .fistM16int ∧ FpuWaitsMem .fistM32int ∧ FpuWaitsMem .fistpM16int ∧ FpuWaitsMem .fistpM32int ∧
  FpuWaitsMem .fistpM64int ∧ FpuWaitsMem .fbstpM80bcd ∧ FpuWaitsMem .fldcwM2byte ∧ FpuWaitsMem .fldenvMEnv ∧
  FpuWaitsMem .frstorMState ∧
  (∀ s : State, s.fpuOff = true → Takes .fninit s excNM ∧ Takes .fnclex s excNM ∧ Takes .fnstswAx s excNM ∧
    (∀ ea, Takes (.fnstcwM2byte ea) s excNM ∧ Takes (.fnstswM2byte ea) s excNM ∧ Takes (.fnstenvMEnv ea) s excNM ∧
      Takes (.fnsaveMState ea) s excNM)) ∧
  (∀ s : State, s.fpuOff = true → Takes .feni s excNM ∧ Takes .fdisi s excNM ∧ Takes .fsetpm s excNM) ∧
  WaitStops .wait ∧ CompositeStops .finit ∧ CompositeStops .fclex ∧ CompositeStops .fstswAx ∧
  (∀ ea, CompositeStops (.fstswM2byte ea) ∧ CompositeStops (.fstcwM2byte ea) ∧ CompositeStops (.fstenvMEnv ea) ∧
    CompositeStops (.fsaveMState ea))

/-- What the source states of the state after reset. After RESET the machine is in real-address mode with EFLAGS =
00000002H, NE clear, the condition codes clear, the base of the IDTR 0 and the time-stamp counter 0; after INIT EFLAGS
is 00000002H too, and FNINIT clears the condition codes. -/
def Obligations.ResetStated : Prop :=
  State.reset.pe = false ∧ State.reset.flags.toWord = 2#32 ∧ State.reset.cr0.getLsbD 5 = false ∧
  State.reset.fpu.st.c0 = false ∧ State.reset.fpu.st.c1 = false ∧ State.reset.fpu.st.c2 = false ∧
  State.reset.fpu.st.c3 = false ∧ State.reset.idtr.base = 0#32 ∧ State.reset.tsc = 0#64 ∧
  (∀ s : State, s.initEvent.flags.toWord = 2#32) ∧
  (∀ s : State, s.fpuOff = false → ∃ t, exec .fninit s = .next t ∧
    t.fpu.st.c0 = false ∧ t.fpu.st.c1 = false ∧ t.fpu.st.c2 = false ∧ t.fpu.st.c3 = false)

/-- The state after reset keeps the invariants, and starts at FFFFFFF0H (values the spec takes from general
knowledge). Memory is canonical, no prefix is pending, the control and system registers are legal and the mode is
real-address mode after reset; CS:EIP, EDX, CR0 and the FPU control word are the adopted values of R116 (log 2); that
LDTR and TR are then legal, TR a busy 32-bit TSS of type 0BH and LDTR not valid, of type 2, is the model's choice
(DESIGN CHOICE, log 3), for R116 gives of them only selector, base and limit; RESET gives that state again, with
memory, what the host offers, the I/O trace and the count of free values as they were. -/
def Obligations.ResetInvariant : Prop :=
  State.reset.inv ∧ State.reset.modeOk ∧ State.reset.eip = 0xFFF0#32 ∧ State.reset.seg.cs.base = 0xFFFF0000#32 ∧
  State.reset.seg.cs.sel = 0xF000#16 ∧ State.reset.gpr.edx = Config.cpuidSignature ∧ State.reset.cpl = 0#2 ∧
  State.reset.cr0 = 0x60000010#32 ∧ State.reset.fpu.cw = 0x0040#16 ∧
  (∀ s : State, s.resetEvent = { State.reset with
    mem := s.mem, host := { s.host with reset := false }, ioTrace := s.ioTrace, fresh := s.fresh })

/-- A step decodes the bytes at CS:EIP and runs the instruction they are, prefixes first. Without an event at the
boundary a step lets the time-stamp counter go on by a positive amount (R885; log 6), reads prefixes one by one and
then runs exec of the decoded instruction with the cursor past its bytes, which are those of memory at CS:EIP or, in a
repeated string instruction in progress, those its first iteration found; LOCK before a form that does not take it is
#UD; bytes beyond the limit of CS or past offset FFFFFFFFH are #GP(0); an undefined opcode is #UD, or #NM for an
undefined floating-point one with EM or TS set. -/
def Obligations.StepRunsDecoded : Prop :=
  ∀ (s t : State) (fuel : Nat) (i : Instr) (rest : List Byte),
    (boundary s = none → step s = runInstr 6 s.ticked.begin) ∧
    (t.repCode = none → t.window =
      if 2 ^ 32 ≤ t.eip.toNat + (t.nextEip - t.eip).toNat then [] else t.fetchWindow t.nextEip 15) ∧
    (∀ code, t.repCode = some code → t.window = code.drop (t.nextEip - t.eip).toNat) ∧
    (decode t.ctx t.window = .ok i rest →
      let u := t.fetched (t.window.length - rest.length)
      (isPrefix i = false → badLock i t = false → runInstr (fuel + 1) t = exec i u) ∧
      (isPrefix i = false → badLock i t = true → runInstr (fuel + 1) t = stopped t excUD) ∧
      (isPrefix i = true → ∀ v, exec i u = .next v → runInstr (fuel + 1) t = runInstr fuel v) ∧
      (isPrefix i = true → ∀ r, exec i u = .refused r → runInstr (fuel + 1) t = .refused r)) ∧
    (decode t.ctx t.window = .short → runInstr (fuel + 1) t = stopped t (excGP 0#16)) ∧
    (∀ esc, decode t.ctx t.window = .undef esc →
      runInstr (fuel + 1) t = stopped t (if esc && t.fpuOff && !t.pfx.lock then excNM else excUD))

/-- A step at the bytes that encode an instruction runs exactly that instruction. For every state without an event at
the boundary and without a repeated string instruction in progress, and every well-formed instruction that its sizes
admit, other than a prefix or WAIT: if the bytes at CS:EIP are its encoding and lie within the limit of CS, the step
is exec of it with the time-stamp counter gone on by a positive amount (R885; log 6), the cursor just past those
bytes, and with the fetch of them on record where they stand on a device (log 56), whatever follows them. -/
def Obligations.EncodedInstructionRuns : Prop :=
  ∀ (s : State) (i : Instr),
    boundary s = none → s.repCode = none → i.wellFormed = true →
    i.fits { os32 := s.code32, as32 := s.code32, plain := true } = true →
    isPrefix i = false → i ≠ .wait → (encode i).length ≤ 15 →
    s.seg.cs.inLimit s.eip true 1 = true → s.eip.toNat + (encode i).length ≤ 2 ^ 32 →
    (∀ k < (encode i).length, s.seg.cs.inLimit (s.eip + BitVec.ofNat 32 k) true 1 = true ∧
      some (s.ticked.byteAt (s.seg.cs.base + s.eip + BitVec.ofNat 32 k)) = (encode i)[k]?) →
    step s = exec i (s.ticked.begin.fetched (encode i).length)

/-- Decoding an encoded instruction gives it back and leaves the bytes that follow. For every well-formed instruction
of the whole table, every operand, every context of operand and address size that admits it, and every list of
following bytes, the decoder reads the encoding back; only WAIT is left out where the bytes after it could make it a
composite form. -/
def Obligations.EncodeDecode : Prop :=
  ∀ (i : Instr) (c : Ctx) (rest : List Byte), i.wellFormed = true → i.fits c = true → (i ≠ .wait ∨ c.plain = false) →
    decode c (encode i ++ rest) = .ok i rest

/-- Every step keeps memory canonical, the control and system registers legal and no prefix pending. From every state
that meets the invariant, and whatever the step is, an event, an exception, an instruction or an iteration, the next
state meets it: canonical memory and cache record, ET reads 1, reserved bits of CR0 and CR4 clear, PG clear, NW only
with CD, an LDT in LDTR and a busy TSS in TR. -/
def Obligations.StepKeepsInvariant : Prop :=
  ∀ s t : State, s.inv → step s = .next t → t.inv

/-- Every step keeps the mode legal: real-address mode at CPL 0 with VM clear, virtual-8086 mode at CPL 3. From every
state whose mode is legal every step leads to one: with PE clear CPL is 0 and VM clear, and with VM set CPL is 3; so
no instruction and no delivery lets code of an outer level reach the privilege of real-address mode, or leaves
virtual-8086 mode at another level. -/
def Obligations.StepKeepsMode : Prop :=
  ∀ s t : State, s.modeOk → step s = .next t → t.modeOk

/-- No step from CPL 3 changes a control, table, task or debug register or an MSR, the counters apart, or halts the
machine. From every state of protected or virtual-8086 mode at CPL 3 without an event at the boundary, whatever the
instruction, and whether it completes or takes an exception, CR0 to CR4, GDTR, IDTR, LDTR, TR, the debug registers and
the model-specific registers but the counters stay as they are and the processor does not halt. The time-stamp
counter, the one model-specific register of the default set (log 30), goes on as in every step (R885; log 6) and no
instruction changes it further; the performance counters stay where CR4.PCE is clear: else RDPMC may advance them (log
6). -/
def Obligations.UserModeIsConfined : Prop :=
  ∀ s t : State, s.isProt = true ∨ s.isV86 = true → s.cpl = 3#2 → boundary s = none → step s = .next t →
    t.cr0 = s.cr0 ∧ t.cr2 = s.cr2 ∧ t.cr3 = s.cr3 ∧ t.cr4 = s.cr4 ∧ t.gdtr = s.gdtr ∧ t.idtr = s.idtr ∧ t.ldtr = s.ldtr ∧
    t.tr = s.tr ∧ t.dr = s.dr ∧ t.msrs = s.msrs ∧ t.halted = false ∧ t.tsc = s.ticked.tsc ∧
    (s.cr4.getLsbD 8 = false → t.pmc0 = s.pmc0 ∧ t.pmc1 = s.pmc1)

/-- The eight registers and their 16-bit and 8-bit names: what each reads and what a write changes. EAX to EDI have
the codes 0 to 7; the 16-bit names are bits 15:0 of the registers, AL to BL bits 7:0 and AH to BH bits 15:8 of the
first four; a write through a name changes its bits and no other and no other register, which R30 marks as derived. -/
def Obligations.RegisterFile : Prop :=
  ∀ (g : Gprs) (v : DWord) (r : Reg),
    (g.write 32 r v).get r = v ∧ (∀ q, q ≠ r → (g.write 32 r v).get q = g.get q) ∧ g.read 32 r = g.get r ∧
    (∀ w : Word, (g.write 16 r w).get r = (g.get r).extractLsb' 16 16 ++ w ∧
      (∀ q, q ≠ r → (g.write 16 r w).get q = g.get q) ∧ g.read 16 r = (g.get r).extractLsb' 0 16) ∧
    (∀ b : Byte, r.toNat < 4 →
      (g.write 8 r b).get r = (g.get r).extractLsb' 8 24 ++ b ∧ g.read 8 r = (g.get r).extractLsb' 0 8 ∧
      (g.write 8 (r + 4#3) b).get r = (g.get r).extractLsb' 16 16 ++ b ++ (g.get r).extractLsb' 0 8 ∧
      g.read 8 (r + 4#3) = (g.get r).extractLsb' 8 8 ∧
      (∀ q, q ≠ r → (g.write 8 r b).get q = g.get q ∧ (g.write 8 (r + 4#3) b).get q = g.get q)) ∧
    [g.get 0#3, g.get 1#3, g.get 2#3, g.get 3#3, g.get 4#3, g.get 5#3, g.get 6#3, g.get 7#3] =
      [g.eax, g.ecx, g.edx, g.ebx, g.esp, g.ebp, g.esi, g.edi]

/-- Stores and reads at RAM, ROM, devices and holes: little-endian bytes, no other byte changed, one event at a
device. Storing n bytes in RAM leaves the value there for a read of n bytes, byte k at the k-th address; ROM, a
device's range and a hole keep what they hold; every byte outside reads as before and memory stays canonical; pushes
change only their items, marking a descriptor accessed changes only its byte 5. A read, a write and a read with write
of a device complete with one event each, and so do the processor's own accesses there: descriptors and their accessed
and busy bits (a read and a write of the whole descriptor; that this read comes besides that of the checks is the
model's choice: DESIGN CHOICE, log 56), the permission map, the code itself (how the host says what stands where and
how accesses are counted is log 56); reads of RAM and ROM change nothing. For IN AL,DX the check of the permission map
is that of R160 (its reads: DEDUCED, log 54), and the value read is the next one of the host's list, all ones where
that is empty, with one port event put on record, the latest first: R166 leaves the value to the host, and this form
of it is the model's choice (DESIGN CHOICE, log 5). -/
def Obligations.StoredBytes : Prop :=
  (∀ (s : State) (a : DWord) (n v : Nat), s.mem.wf = true → n ≤ 2 ^ 32 →
    ((∀ k < n, s.kindAt (s.phys (a + BitVec.ofNat 32 k)) = .ram) → (s.store a n v).readLin a n = v % 256 ^ n) ∧
    (s.store a n v).mem.wf = true ∧ OnlyBytes s (s.store a n v) a n ∧
    (∃ d, s.store a n v = { s with mem := (s.store a n v).mem, dirty := d, ioTrace := s.storeTrace a n v }) ∧
    (∀ k < n, let p := s.phys (a + BitVec.ofNat 32 k)
      (s.kindAt p = .ram → ((s.store a n v).mem.read p).toNat = v / 256 ^ k % 256) ∧
      (s.kindAt p ≠ .ram → (s.store a n v).mem.read p = s.mem.read p)) ∧
    (∀ (m : Nat) (vs : List Nat), OnlyPushed s (s.pushedAll m vs) m vs.length) ∧
    OnlyBytes s (s.setAccessed a) (a + 5#32) 1) ∧
  (∀ (s : State) (a : DWord),
    (s.kindAt (s.phys a) ≠ .nothing → s.byteAt a = s.mem.read (s.phys a)) ∧
    (s.quiet a 1 = true ↔ s.kindAt (s.phys a) = .ram ∨ s.kindAt (s.phys a) = .rom)) ∧
  LoadsAnywhere 8 .movR8Rm8 ∧ LoadsAnywhere 16 .movR16Rm16 ∧ LoadsAnywhere 32 .movR32Rm32 ∧
  UpdatesAnywhere 8 (fun v => ~~~v) .notRm8 ∧ UpdatesAnywhere 16 (fun v => ~~~v) .notRm16 ∧
  UpdatesAnywhere 32 (fun v => ~~~v) .notRm32 ∧
  (∀ (s : State) (r : Reg), readFault s (s.stackLoc 0#32) 4 4 = none →
    let t := (s.sawRead (s.linear (s.stackLoc 0#32)) 4).popped 4
    exec (.popR32 r) s = .next (s.finish { t with
      gpr := t.gpr.write 32 r (BitVec.ofNat 32 (s.stackItem 0 4)) })) ∧
  (∀ s : State, OwnAccesses s)

/-- The checks of a memory access: segment, limit and alignment, and the exception each gives. An access through a
null, execute-only or not writable segment is #GP(0) in protected mode; one with a byte outside the limit, expand-down
included, or beyond the address size, is #SS(0) through SS and else #GP(0); one that is not aligned is #AC(0) at CPL 3
with AM and AC set; any other passes. That expand-down data segments are there at all is the model's value of the
parameter EXPAND_DOWN (PRESUMED, log 17), not a rule. -/
def Obligations.AccessChecks : Prop :=
  ∀ (s : State) (sr : SegReg) (off : DWord) (wide : Bool) (n : Nat), 0 < n → n ≤ 108 →
    let l : Loc := { seg := sr, off := off, wide := wide }
    let g := s.seg.get sr
    let first := off.toNat
    let last := off.toNat + n - 1
    let inside := last ≤ offsetTop wide ∧
      (if g.s ∧ g.ty.getLsbD 3 = false ∧ g.ty.getLsbD 2 = true then g.limit.toNat < first ∧ last ≤ offsetTop g.db
       else last ≤ g.limit.toNat)
    let mayReadSeg := s.isProt = false ∨ (g.valid = true ∧ (g.s = true ∧ g.ty.getLsbD 3 = true → g.ty.getLsbD 1 = true))
    let mayWriteSeg := s.isProt = false ∨
      (g.valid = true ∧ sr ≠ .cs ∧ g.s = true ∧ g.ty.getLsbD 3 = false ∧ g.ty.getLsbD 1 = true)
    (∀ al, (¬ mayReadSeg → readFault s l n al = some (excGP 0#16)) ∧
      (mayReadSeg → ¬ inside → readFault s l n al = some (if sr = .ss then excSS 0#16 else excGP 0#16)) ∧
      (¬ mayWriteSeg → writeFault s l n al = some (excGP 0#16)) ∧
      (mayWriteSeg → ¬ inside → writeFault s l n al = some (if sr = .ss then excSS 0#16 else excGP 0#16)) ∧
      (inside →
        let odd := s.pe = true ∧ s.cr0.getLsbD 18 = true ∧ s.flags.ac = true ∧ s.cpl = 3#2 ∧
          (g.base + off).toNat % al ≠ 0
        (mayReadSeg → (odd → readFault s l n al = some (.exc 17#8 (some 0#16))) ∧
          (¬ odd → readFault s l n al = none)) ∧
        (mayWriteSeg → (odd → writeFault s l n al = some (.exc 17#8 (some 0#16))) ∧
          (¬ odd → writeFault s l n al = none))))

/-- SZP: ZF, SF and PF of a result of 8, 16 or 32 bits. ZF tells whether the result is 0, SF is its highest bit, and
PF tells whether the number of 1 bits in its low byte is even; no other flag changes. -/
def Obligations.ResultFlags : Prop :=
  ∀ (w : Nat) (f : Flags) (r : BitVec w), (w = 8 ∨ w = 16 ∨ w = 32) →
    let g := f.szp r
    let ones := (List.range 8).countP fun k => r.getLsbD k
    g = { f with zf := decide (r.toNat = 0), sf := decide (2 ^ (w - 1) ≤ r.toNat),
                 pf := decide (ones ∈ [0, 2, 4, 6, 8]) }

/-- Words written out from the encoding tables decode to the instructions they stand for. One or more encodings of
every family, with their operands in the places that the tables give, an undefined opcode, and an instruction cut
short. -/
def Obligations.DecodeWords : Prop :=
  decode ctx16 [0x04#8, 0x12#8] = .ok (.addAlImm8 0x12#8) [] ∧
  decode ctx16 [0x8B#8, 0x46#8, 0xFE#8] = .ok (.movR16Rm16 0#3 (.mem (.a16 6#3 (.d8 0xFE#8)))) [] ∧
  decode { os32 := true, as32 := true, plain := true } [0x8B#8, 0x04#8, 0x8D#8, 0x44#8, 0x33#8, 0x22#8, 0x11#8] =
    .ok (.movR32Rm32 0#3 (.mem (.sibNoBase 2#2 1#3 0x11223344#32))) [] ∧
  decode ctx16 [0x0F#8, 0xB6#8, 0xC8#8] = .ok (.movzxR16Rm8 1#3 (.reg 0#3)) [] ∧
  decode ctx16 [0xD3#8, 0xE0#8] = .ok (.salRm16Cl (.reg 0#3)) [] ∧
  decode ctx16 [0xC2#8, 0x08#8, 0x00#8] = .ok (.retNearImm16 8#16) [] ∧
  decode ctx16 [0x0F#8, 0x8C#8, 0x34#8, 0x12#8] = .ok (.jlRel16 0x1234#16) [] ∧
  decode ctx16 [0xEA#8, 0x5B#8, 0xE0#8, 0x00#8, 0xF0#8] = .ok (.jmpPtr16x16 0xF000#16 0xE05B#16) [] ∧
  decode ctx16 [0xA5#8] = .ok .movsw [] ∧ decode ctx16 [0xE6#8, 0x80#8] = .ok (.outImm8Al 0x80#8) [] ∧
  decode ctx16 [0x0F#8, 0x22#8, 0xC0#8] = .ok (.movCRnR32 0#3 0#3) [] ∧
  decode ctx16 [0x0F#8, 0x01#8, 0x17#8] = .ok (.lgdtM16a32 (.a16 7#3 .none)) [] ∧
  decode ctx16 [0xD8#8, 0xC1#8] = .ok (.faddSt0Sti 1#3) [] ∧ decode ctx16 [0xDD#8, 0xD9#8] = .ok (.fstpSti 1#3) [] ∧
  decode ctx16 [0xD9#8, 0xFE#8] = .ok .fsin [] ∧ decode ctx16 [0x9B#8, 0xDB#8, 0xE3#8] = .ok .finit [] ∧
  decode ctx16 [0xF3#8] = .ok .rep [] ∧ decode ctx16 [0x0F#8, 0x0B#8] = .ok .ud2 [] ∧
  decode ctx16 [0x0F#8, 0x05#8] = .undef false ∧ decode ctx16 [0x81#8, 0xC0#8, 0x01#8] = .short

/-- NaNs, infinities, zeros, denormals, overflow and underflow: what each operation answers, masked and unmasked. By
precedence: an unsupported operand and an SNaN are #IA, a QNaN is answered without exception, then come the invalid
cases and division by zero, then #D, then the rounded result with #O, #U and #P, each with its masked and its unmasked
response; two NaNs give the QNaN of an SNaN and a QNaN, else the one with the larger significand (which of two equal
ones is left out: D76); infinities, zeros and exact cancellation as the tables of addition, subtraction,
multiplication, division and square root have them. C1 after a masked overflow is the spec's own inference. The
model's inferences are: C1 = 0 after an unmasked #IA, #Z or #D and in answers that report no rounding (DEDUCED, log
45; D72 for exact results), the largest value of p significand bits and the single rounding of a tiny result at
reduced precision (DEDUCED, log 46); its choice is #P and C1 by the rounding of the significand where an unmasked
overflow or underflow gives an infinity or a zero (DESIGN CHOICE, log 46). -/
def Obligations.FpuSpecialOperands : Prop :=
  (∀ (cw : Word) (p : Nat) (xs : List FpOperand) (raw : RawResult),
    let some := fun c : FpClass => ∃ x ∈ xs, classOf x.val = c
    (some .unsupported → arith cw p xs raw = InvalidAnswer cw 0xFFFFC000000000000000#80) ∧
    (¬ some .unsupported → some .snan → arith cw p xs raw = InvalidAnswer cw (nanResult (xs.map (·.val)))) ∧
    (¬ some .unsupported → ¬ some .snan → some .qnan → arith cw p xs raw =
      Answer false false false false false false false false (Option.some (nanResult (xs.map (·.val))))) ∧
    (¬ some .unsupported → ¬ some .snan → ¬ some .qnan →
      let den := xs.any (·.den)
      arith cw p xs .invalid = InvalidAnswer cw 0xFFFFC000000000000000#80 ∧
      (∀ r, arith cw p xs (.zeroDivide r) =
        Answer false false true false false false false false (if cw.getLsbD 2 then Option.some r else none)) ∧
      (∀ r, arith cw p xs (.exact r) =
        DenormalAnswer cw den (Answer false false false false false false false false (Option.some r))) ∧
      (∀ r i u, arith cw p xs (.rounded r i u) =
        DenormalAnswer cw den (Answer false false false false false i u false (Option.some r))) ∧
      (∀ d, d.mant ≠ 0 → (p = 24 ∨ p = 53 ∨ p = 64) →
        ∃ c, RegisterResult cw p d c ∧ arith cw p xs (.num d) = DenormalAnswer cw den c))) ∧
  (∀ a b : Ext,
    let quieted := fun x : Ext => x ||| 0x00004000000000000000#80
    (isNan a = true → nanResult [a] = quieted a) ∧
    (classOf a = .snan → classOf b = .qnan → nanResult [a, b] = b ∧ nanResult [b, a] = b) ∧
    (isNan a = true → classOf a = classOf b → xSig b < xSig a →
      nanResult [a, b] = quieted a ∧ nanResult [b, a] = quieted a) ∧
    (isNan a = true → isNan b = false → nanResult [a, b] = quieted a ∧ nanResult [b, a] = quieted a)) ∧
  (∀ (cw : Word) (a b : Ext),
    let s := xSign a != xSign b
    (isInf a = true → isInf b = true → rawDiv a b = .invalid ∧ (∃ v, isInfinity v s ∧ rawMul a b = .exact v) ∧
      rawAdd cw a b = (if s then .invalid else .exact a) ∧ rawSub cw a b = (if s then .exact a else .invalid)) ∧
    (isInf a = true → isFinite b = true →
      rawAdd cw a b = .exact a ∧ rawAdd cw b a = .exact a ∧ rawSub cw a b = .exact a ∧
      rawSub cw b a = .exact (a ^^^ 0x80000000000000000000#80) ∧
      (isZero b = true → rawMul a b = .invalid ∧ rawMul b a = .invalid) ∧
      (isZero b = false → ∃ v, isInfinity v s ∧ rawMul a b = .exact v ∧ rawMul b a = .exact v) ∧
      (∃ v, isInfinity v s ∧ rawDiv a b = .exact v) ∧ (∃ v, isSignedZero v s ∧ rawDiv b a = .exact v)) ∧
    (isZero a = true → isZero b = true →
      rawDiv a b = .invalid ∧ (∃ v, isSignedZero v s ∧ rawMul a b = .exact v) ∧
      (∃ v, isSignedZero v (if s then rcOf cw == 1#2 else xSign a) ∧ rawAdd cw a b = .exact v) ∧
      (∃ v, isSignedZero v (if s then xSign a else rcOf cw == 1#2) ∧ rawSub cw a b = .exact v)) ∧
    (isFinite a = true → isZero a = false → isZero b = true →
      (∃ v, isSignedZero v s ∧ rawMul a b = .exact v ∧ rawMul b a = .exact v ∧ rawDiv b a = .exact v) ∧
      (∃ v, isInfinity v s ∧ rawDiv a b = .zeroDivide v)) ∧
    (isFinite a = true → isZero a = false → ∃ v, isSignedZero v (rcOf cw == 1#2) ∧ rawSub cw a a = .exact v) ∧
    (isZero a = true → rawSqrt a = .exact a) ∧
    (isInf a = true → rawSqrt a = if xSign a then .invalid else .exact a) ∧
    (isFinite a = true → isZero a = false → xSign a = true → rawSqrt a = .invalid))
end

