-- ==== Sys2Proof/Laws/Memory.lean ====
section
/-! SUPPORT. Memory as data: reading after writing, and the canonical form that every memory operation keeps. -/

namespace Sys2Proof.Machine

/-! ## One byte -/

theorem Memory.read_below {lo a : Nat} : ∀ {m : Memory}, cellsRise lo m = true → a < lo → m.read a = defaultByte
  | [], _, _ => rfl
  | (b, x) :: m, h, ha => by
    simp only [cellsRise, Bool.and_eq_true, decide_eq_true_eq] at h
    simp only [Memory.read]
    rw [if_pos (by omega)]

/-- A byte reads as what was written last, and every other address reads as before. -/
theorem Memory.read_write_from {lo a c : Nat} {v : Byte} : ∀ {m : Memory}, cellsRise lo m = true →
    (Memory.write m a v).read c = if c = a then v else m.read c
  | [], _ => by
    unfold Memory.write; split
    · rename_i hv; split <;> simp_all [Memory.read]
    · simp only [Memory.read]; split <;> split <;> first | rfl | omega
  | (b, x) :: m, h => by
    simp only [cellsRise, Bool.and_eq_true, decide_eq_true_eq] at h
    have ih := @Memory.read_write_from (b + 1) a c v m h.2
    have hb : ∀ d, d ≤ b → Memory.read m d = defaultByte := fun d hd => Memory.read_below h.2 (by omega)
    unfold Memory.write
    split
    · split
      · by_cases hca : c = a
        · subst hca; simp_all [Memory.read]
        · rw [if_neg hca]
      · simp only [Memory.read]
        repeat' split
        all_goals first | rfl | (exfalso; omega)
    · split
      · split
        · rename_i hv
          by_cases hca : c = a
          · rw [if_pos hca, hb c (by omega), hv]
          · simp only [Memory.read]; rw [if_neg hca]
            by_cases hlt : c < b
            · rw [if_pos hlt, hb c (by omega)]
            · rw [if_neg hlt, if_neg (by omega)]
        · simp only [Memory.read]
          repeat' split
          all_goals first | rfl | (exfalso; omega)
      · simp only [Memory.read, ih]
        repeat' split
        all_goals first | rfl | (exfalso; omega)

theorem Memory.rise_of_wf {m : Memory} (h : m.wf = true) : cellsRise 0 m = true := by
  unfold Memory.wf at h; rw [Bool.and_eq_true] at h; exact h.1

/-- A byte reads as what was written last, and every other address reads as before. -/
theorem Memory.read_write {m : Memory} (h : m.wf = true) (a c : Nat) (v : Byte) :
    (m.write a v).read c = if c = a then v else m.read c := Memory.read_write_from (Memory.rise_of_wf h)

theorem Memory.read_write_same {m : Memory} (h : m.wf = true) (a : Nat) (v : Byte) : (m.write a v).read a = v := by
  rw [Memory.read_write h, if_pos rfl]

theorem Memory.read_write_other {m : Memory} (h : m.wf = true) {a c : Nat} (v : Byte) (hc : c ≠ a) :
    (m.write a v).read c = m.read c := by rw [Memory.read_write h, if_neg hc]

/-! ## The canonical form -/

theorem cellsRise_weaken {lo lo' : Nat} : ∀ {m : List Host.Cell}, cellsRise lo m = true → lo' ≤ lo →
    cellsRise lo' m = true
  | [], _, _ => rfl
  | (b, x) :: m, h, hl => by
    simp only [cellsRise, Bool.and_eq_true, decide_eq_true_eq] at h ⊢
    exact ⟨by omega, h.2⟩

theorem Memory.write_rise {lo a : Nat} {v : Byte} : ∀ {m : Memory}, cellsRise lo m = true → lo ≤ a →
    cellsRise lo (Memory.write m a v) = true
  | [], _, ha => by
    unfold Memory.write; split
    · rfl
    · simp [cellsRise, ha]
  | (b, x) :: m, h, ha => by
    have h' := h
    simp only [cellsRise, Bool.and_eq_true, decide_eq_true_eq] at h
    unfold Memory.write
    split
    · split
      · exact h'
      · simp only [cellsRise, Bool.and_eq_true, decide_eq_true_eq]
        exact ⟨ha, by omega, h.2⟩
    · split
      · split
        · exact cellsRise_weaken h.2 (by omega)
        · simp only [cellsRise, Bool.and_eq_true, decide_eq_true_eq]
          exact ⟨ha, cellsRise_weaken h.2 (by omega)⟩
      · simp only [cellsRise, Bool.and_eq_true, decide_eq_true_eq]
        exact ⟨h.1, Memory.write_rise h.2 (by omega)⟩

theorem Memory.write_all {a : Nat} {v : Byte} (ha : a < 2 ^ 32) : ∀ {m : Memory},
    (m.all fun c => decide (c.1 < 2 ^ 32) && c.2 != defaultByte) = true →
    ((Memory.write m a v).all fun c => decide (c.1 < 2 ^ 32) && c.2 != defaultByte) = true
  | [], _ => by
    unfold Memory.write; split
    · rfl
    · rename_i hv; simp [hv]; omega
  | (b, x) :: m, h => by
    have h' := h
    rw [List.all_cons, Bool.and_eq_true] at h
    unfold Memory.write
    split
    · split
      · exact h'
      · rename_i hv; rw [List.all_cons, h']; simp [hv]; omega
    · split
      · split
        · exact h.2
        · rename_i hv; rw [List.all_cons, h.2]; simp [hv]; omega
      · rw [List.all_cons, h.1, Memory.write_all ha h.2]; rfl

/-- Writing a byte keeps the canonical form. -/
theorem Memory.write_wf {m : Memory} {a : Nat} {v : Byte} (h : m.wf = true) (ha : a < 2 ^ 32) :
    (m.write a v).wf = true := by
  unfold Memory.wf at h ⊢
  rw [Bool.and_eq_true] at h ⊢
  exact ⟨Memory.write_rise h.1 (Nat.zero_le a), Memory.write_all ha h.2⟩

theorem State.phys_lt (s : State) (a : DWord) : s.phys a < 2 ^ 32 := by
  unfold State.phys; split <;> exact BitVec.isLt _

/-- Storing a byte keeps the canonical form. -/
theorem State.storeByte_wf {s : State} {a : DWord} {v : Byte} (h : s.mem.wf = true) :
    (s.storeByte a v).mem.wf = true := by
  unfold State.storeByte; split
  · exact Memory.write_wf h (s.phys_lt a)
  · exact h

theorem State.storeBytes_wf {s : State} {a : DWord} {n v : Nat} (h : s.mem.wf = true) :
    (s.storeBytes a n v).mem.wf = true := by
  induction n generalizing s a v with
  | zero => exact h
  | succ n ih => exact ih (State.storeByte_wf h)

@[simp] theorem State.noteAccess_mem (s : State) (w : Bool) (a : DWord) (n v : Nat) :
    (s.noteAccess w a n v).mem = s.mem := by unfold State.noteAccess; split <;> rfl

/-- Storing any number of bytes keeps the canonical form. -/
theorem State.store_wf {s : State} {a : DWord} {n v : Nat} (h : s.mem.wf = true) :
    (s.store a n v).mem.wf = true := by
  unfold State.store; rw [State.noteAccess_mem]; exact State.storeBytes_wf h

/-- A torn store keeps the canonical form. -/
theorem State.tear_wf {s : State} {a : DWord} {n v c : Nat} (h : s.mem.wf = true) :
    (s.tear a n v c).mem.wf = true := by
  have h' : ∀ (n : Nat) (s : State) (a : DWord) (v choice : Nat), s.mem.wf = true →
      (s.storeSome a n v choice).mem.wf = true := by
    intro n
    induction n with
    | zero => intro _ _ _ _ h; exact h
    | succ n ih =>
      intro s a v choice h
      refine ih _ _ _ _ ?_
      split
      · exact State.store_wf h
      · exact h
  exact h' n s a v _ h

/-- A load from outside the machine keeps the canonical form. -/
theorem State.load_wf {s : State} {a : DWord} {bs : List Byte} (h : s.mem.wf = true) :
    (s.load a bs).mem.wf = true := by
  induction bs generalizing s a with
  | nil => exact h
  | cons b bs ih => exact ih (Memory.write_wf h (s.phys_lt a))

/-! ## Many bytes -/

@[simp] theorem State.storeByte_host (s : State) (a : DWord) (v : Byte) : (s.storeByte a v).host = s.host := by
  unfold State.storeByte; split <;> rfl

@[simp] theorem State.storeByte_cr0 (s : State) (a : DWord) (v : Byte) : (s.storeByte a v).cr0 = s.cr0 := by
  unfold State.storeByte; split <;> rfl

/-- The physical address of a linear one hangs on CR0 alone. -/
theorem State.phys_congr {s t : State} (h : t.cr0 = s.cr0) (a : DWord) : t.phys a = s.phys a := by
  unfold State.phys State.pe; rw [h]

/-- What an address holds is the host's word alone. -/
theorem State.kindAt_congr {s t : State} (h : t.host = s.host) (p : Nat) : t.kindAt p = s.kindAt p := by
  unfold State.kindAt; rw [h]

/-- Which regions an access touches hangs on CR0 and the host's map. -/
theorem State.touches_congr {s t : State} (hc : t.cr0 = s.cr0) (hh : t.host = s.host) (k : RegionKind) (a : DWord)
    (n : Nat) : t.touches k a n = s.touches k a n := by
  induction n generalizing a with
  | zero => rfl
  | succ n ih => simp only [State.touches, ih, State.phys_congr hc, State.kindAt_congr hh]

/-- An access touches a region where one of its bytes stands on it. -/
theorem State.touches_iff (s : State) (k : RegionKind) (a : DWord) (n : Nat) :
    s.touches k a n = true ↔ ∃ j < n, s.kindAt (s.phys (a + BitVec.ofNat 32 j)) = k := by
  induction n generalizing a with
  | zero => simp [State.touches]
  | succ n ih =>
    have hs : ∀ j, a + 1#32 + BitVec.ofNat 32 j = a + BitVec.ofNat 32 (j + 1) := fun j => by
      rw [BitVec.add_assoc, BitVec.add_comm 1#32, ← BitVec.ofNat_add]
    simp only [State.touches, Bool.or_eq_true, beq_iff_eq, ih, hs]
    constructor
    · rintro (h | ⟨j, hj, h⟩)
      · exact ⟨0, by omega, by simpa using h⟩
      · exact ⟨j + 1, by omega, h⟩
    · rintro ⟨j, hj, h⟩
      cases j with
      | zero => exact .inl (by simpa using h)
      | succ j => exact .inr ⟨j, by omega, h⟩

/-- A part of what RAM and ROM answer is answered by RAM and ROM. -/
theorem State.quiet_part {s : State} {a : DWord} {n : Nat} (h : s.quiet a n = true) {d m : Nat} (hd : d + m ≤ n) :
    s.quiet (a + BitVec.ofNat 32 d) m = true := by
  have hp : ∀ k, s.touches k a n = false → s.touches k (a + BitVec.ofNat 32 d) m = false := by
    intro k hk
    rw [← Bool.not_eq_true, State.touches_iff] at hk ⊢
    rintro ⟨j, hj, e⟩
    refine hk ⟨d + j, by omega, ?_⟩
    rw [BitVec.ofNat_add, ← BitVec.add_assoc]; exact e
  simp only [State.quiet, Bool.and_eq_true, Bool.not_eq_true'] at h ⊢
  exact ⟨hp _ h.1, hp _ h.2⟩


theorem State.storeBytes_read_outside {s : State} {a : DWord} {n v : Nat} (h : s.mem.wf = true) {c : Nat}
    (hc : ∀ k < n, c ≠ s.phys (a + BitVec.ofNat 32 k)) : (s.storeBytes a n v).mem.read c = s.mem.read c := by
  induction n generalizing s a v with
  | zero => rfl
  | succ n ih =>
    have h0 := hc 0 (by omega)
    rw [BitVec.add_zero] at h0
    have := ih (s := s.storeByte a (BitVec.ofNat 8 v)) (a := a + 1#32) (v := v / 256) (State.storeByte_wf h) ?_
    · rw [State.storeBytes, this]
      unfold State.storeByte; split
      · exact Memory.read_write_other h _ h0
      · rfl
    · intro k hk
      have := hc (k + 1) (by omega)
      rw [State.phys_congr (State.storeByte_cr0 s a _)]
      rwa [show BitVec.ofNat 32 (k + 1) = 1#32 + BitVec.ofNat 32 k by
        rw [Nat.add_comm, BitVec.ofNat_add], ← BitVec.add_assoc] at this

/-- A store leaves every address outside its bytes as it was. -/
theorem State.store_read_outside {s : State} {a : DWord} {n v : Nat} (h : s.mem.wf = true) {c : Nat}
    (hc : ∀ k < n, c ≠ s.phys (a + BitVec.ofNat 32 k)) : (s.store a n v).mem.read c = s.mem.read c := by
  unfold State.store; rw [State.noteAccess_mem]; exact State.storeBytes_read_outside h hc

/-- ROM, a device's range and a hole keep what they hold: a store changes RAM alone. -/
theorem State.store_read_fixed {s : State} {a : DWord} {n v : Nat} (h : s.mem.wf = true) {c : Nat}
    (hc : s.kindAt c ≠ .ram) : (s.store a n v).mem.read c = s.mem.read c := by
  unfold State.store; rw [State.noteAccess_mem]
  induction n generalizing s a v with
  | zero => rfl
  | succ n ih =>
    have hk : (s.storeByte a (BitVec.ofNat 8 v)).kindAt c ≠ .ram := by
      rw [State.kindAt_congr (State.storeByte_host s a _)]; exact hc
    rw [State.storeBytes, ih (State.storeByte_wf h) hk]
    unfold State.storeByte; split
    · rename_i hr; exact Memory.read_write_other h _ (fun he => hc (he ▸ hr))
    · rfl

/-! ## The caches' record of old values -/

theorem noteDirty_rise {lo a : Nat} {v : Byte} : ∀ {d : List Host.Cell}, cellsRise lo d = true → lo ≤ a →
    cellsRise lo (noteDirty d a v) = true
  | [], _, ha => by simp [noteDirty, cellsRise, ha]
  | (b, x) :: d, h, ha => by
    have h' := h
    simp only [cellsRise, Bool.and_eq_true, decide_eq_true_eq] at h
    unfold noteDirty
    split
    · simp only [cellsRise, Bool.and_eq_true, decide_eq_true_eq]; exact ⟨ha, by omega, h.2⟩
    · split
      · exact h'
      · simp only [cellsRise, Bool.and_eq_true, decide_eq_true_eq]
        exact ⟨h.1, noteDirty_rise h.2 (by omega)⟩

/-- INVD keeps the canonical form when every address it may restore exists. -/
theorem dropLines_wf {draw : Nat → Bool} {n : Nat} {d : List Host.Cell} {m : Memory} (h : m.wf = true)
    (hd : ∀ c ∈ d, c.1 < 2 ^ 32) : (dropLines draw n d m).wf = true := by
  induction d generalizing n m with
  | nil => exact h
  | cons c d ih =>
    obtain ⟨a, old⟩ := c
    unfold dropLines
    apply ih
    · split
      · exact Memory.write_wf h (hd (a, old) (by simp))
      · exact h
    · intro c hc; exact hd c (by simp [hc])

/-- The memory after RESET is in the canonical form: it lists nothing. -/
theorem reset_memory_wf : State.reset.mem.wf = true := rfl

end Sys2Proof.Machine
end

