-- ==== Sys2Proof/Laws/State.lean ====
section
/-! SUPPORT. The updates of the state, field by field, and how a store passes other updates. -/

namespace Sys2Proof.Machine

/-! ## What a store leaves as it was -/

theorem State.storeByte_eq (s : State) (a : DWord) (v : Byte) :
    s.storeByte a v = { s with mem := (s.storeByte a v).mem, dirty := (s.storeByte a v).dirty } := by
  unfold State.storeByte; split <;> rfl

theorem State.storeBytes_eq (s : State) (a : DWord) (n v : Nat) :
    s.storeBytes a n v = { s with mem := (s.storeBytes a n v).mem, dirty := (s.storeBytes a n v).dirty } := by
  induction n generalizing s a v with
  | zero => rfl
  | succ n ih =>
    have := ih (s.storeByte a (BitVec.ofNat 8 v)) (a + 1#32) (v / 256)
    rw [State.storeBytes, this, State.storeByte_eq s]

theorem State.noteAccess_eq (s : State) (w : Bool) (a : DWord) (n v : Nat) :
    s.noteAccess w a n v = { s with ioTrace := (s.noteAccess w a n v).ioTrace } := by
  unfold State.noteAccess; split <;> rfl

/-- A store changes memory, the caches' record of old values and the events at devices, nothing else. -/
theorem State.store_eq (s : State) (a : DWord) (n v : Nat) :
    s.store a n v =
      { s with mem := (s.store a n v).mem, dirty := (s.store a n v).dirty, ioTrace := (s.store a n v).ioTrace } := by
  unfold State.store; rw [State.noteAccess_eq, State.storeBytes_eq]

/-- A store that reaches no device makes no event. -/
theorem State.store_ioTrace_quiet {s : State} {a : DWord} {n v : Nat} (h : s.touches .device a n = false) :
    (s.store a n v).ioTrace = s.ioTrace := by
  have ht : (s.storeBytes a n v).touches .device a n = false := by
    rw [← h]; apply State.touches_congr <;> rw [State.storeBytes_eq]
  unfold State.store State.noteAccess; rw [ht, State.storeBytes_eq]; rfl

/-- A read of memory that only RAM and ROM answer changes nothing. -/
theorem State.noteRead_quiet {s : State} {a : DWord} {n : Nat} (h : s.quiet a n = true) : s.noteRead a n = s := by
  simp only [State.quiet, Bool.and_eq_true, Bool.not_eq_true'] at h
  simp [State.noteRead, State.noteAccess, h.1, h.2]

/-- What a read of memory does besides answering: the events at devices and the count of free values. -/
theorem State.noteRead_eq (s : State) (a : DWord) (n : Nat) :
    s.noteRead a n = { s with ioTrace := (s.noteRead a n).ioTrace, fresh := (s.noteRead a n).fresh } := by
  unfold State.noteRead; dsimp only; rw [State.noteAccess_eq]; split <;> rfl

/-- A torn store changes memory, the caches' record of old values, the events at devices and the count of free values,
nothing else. -/
theorem State.tear_eq (s : State) (a : DWord) (n v c : Nat) :
    s.tear a n v c =
      { s with mem := (s.tear a n v c).mem, dirty := (s.tear a n v c).dirty, ioTrace := (s.tear a n v c).ioTrace,
               fresh := c + 1 } := by
  have h : ∀ (n : Nat) (s : State) (a : DWord) (v choice : Nat), s.storeSome a n v choice =
      { s with mem := (s.storeSome a n v choice).mem, dirty := (s.storeSome a n v choice).dirty,
               ioTrace := (s.storeSome a n v choice).ioTrace } := by
    intro n
    induction n with
    | zero => intros; rfl
    | succ n ih =>
      intro s a v choice
      unfold State.storeSome
      have := ih (if choice % 2 = 1 then s.store a 1 v else s) (a + 1#32) (v / 256) (choice / 2)
      rw [this]; split
      · rw [State.store_eq s]
      · rfl
  unfold State.tear; rw [h]

@[simp] theorem State.noteRead_gpr (s : State) (a : DWord) (n : Nat) : (s.noteRead a n).gpr = s.gpr := by
  rw [State.noteRead_eq]
@[simp] theorem State.noteRead_eip (s : State) (a : DWord) (n : Nat) : (s.noteRead a n).eip = s.eip := by
  rw [State.noteRead_eq]
@[simp] theorem State.noteRead_nextEip (s : State) (a : DWord) (n : Nat) : (s.noteRead a n).nextEip = s.nextEip := by
  rw [State.noteRead_eq]
@[simp] theorem State.noteRead_flags (s : State) (a : DWord) (n : Nat) : (s.noteRead a n).flags = s.flags := by
  rw [State.noteRead_eq]
@[simp] theorem State.noteRead_cpl (s : State) (a : DWord) (n : Nat) : (s.noteRead a n).cpl = s.cpl := by
  rw [State.noteRead_eq]
@[simp] theorem State.noteRead_seg (s : State) (a : DWord) (n : Nat) : (s.noteRead a n).seg = s.seg := by
  rw [State.noteRead_eq]
@[simp] theorem State.noteRead_ldtr (s : State) (a : DWord) (n : Nat) : (s.noteRead a n).ldtr = s.ldtr := by
  rw [State.noteRead_eq]
@[simp] theorem State.noteRead_tr (s : State) (a : DWord) (n : Nat) : (s.noteRead a n).tr = s.tr := by
  rw [State.noteRead_eq]
@[simp] theorem State.noteRead_gdtr (s : State) (a : DWord) (n : Nat) : (s.noteRead a n).gdtr = s.gdtr := by
  rw [State.noteRead_eq]
@[simp] theorem State.noteRead_idtr (s : State) (a : DWord) (n : Nat) : (s.noteRead a n).idtr = s.idtr := by
  rw [State.noteRead_eq]
@[simp] theorem State.noteRead_cr0 (s : State) (a : DWord) (n : Nat) : (s.noteRead a n).cr0 = s.cr0 := by
  rw [State.noteRead_eq]
@[simp] theorem State.noteRead_cr2 (s : State) (a : DWord) (n : Nat) : (s.noteRead a n).cr2 = s.cr2 := by
  rw [State.noteRead_eq]
@[simp] theorem State.noteRead_cr3 (s : State) (a : DWord) (n : Nat) : (s.noteRead a n).cr3 = s.cr3 := by
  rw [State.noteRead_eq]
@[simp] theorem State.noteRead_cr4 (s : State) (a : DWord) (n : Nat) : (s.noteRead a n).cr4 = s.cr4 := by
  rw [State.noteRead_eq]
@[simp] theorem State.noteRead_pdptr (s : State) (a : DWord) (n : Nat) : (s.noteRead a n).pdptr = s.pdptr := by
  rw [State.noteRead_eq]
@[simp] theorem State.noteRead_dr (s : State) (a : DWord) (n : Nat) : (s.noteRead a n).dr = s.dr := by
  rw [State.noteRead_eq]
@[simp] theorem State.noteRead_tsc (s : State) (a : DWord) (n : Nat) : (s.noteRead a n).tsc = s.tsc := by
  rw [State.noteRead_eq]
@[simp] theorem State.noteRead_pmc0 (s : State) (a : DWord) (n : Nat) : (s.noteRead a n).pmc0 = s.pmc0 := by
  rw [State.noteRead_eq]
@[simp] theorem State.noteRead_pmc1 (s : State) (a : DWord) (n : Nat) : (s.noteRead a n).pmc1 = s.pmc1 := by
  rw [State.noteRead_eq]
@[simp] theorem State.noteRead_msrs (s : State) (a : DWord) (n : Nat) : (s.noteRead a n).msrs = s.msrs := by
  rw [State.noteRead_eq]
@[simp] theorem State.noteRead_fpu (s : State) (a : DWord) (n : Nat) : (s.noteRead a n).fpu = s.fpu := by
  rw [State.noteRead_eq]
@[simp] theorem State.noteRead_mem (s : State) (a : DWord) (n : Nat) : (s.noteRead a n).mem = s.mem := by
  rw [State.noteRead_eq]
@[simp] theorem State.noteRead_dirty (s : State) (a : DWord) (n : Nat) : (s.noteRead a n).dirty = s.dirty := by
  rw [State.noteRead_eq]
@[simp] theorem State.noteRead_inhibit (s : State) (a : DWord) (n : Nat) : (s.noteRead a n).inhibit = s.inhibit := by
  rw [State.noteRead_eq]
@[simp] theorem State.noteRead_halted (s : State) (a : DWord) (n : Nat) : (s.noteRead a n).halted = s.halted := by
  rw [State.noteRead_eq]
@[simp] theorem State.noteRead_shutdown (s : State) (a : DWord) (n : Nat) : (s.noteRead a n).shutdown = s.shutdown := by
  rw [State.noteRead_eq]
@[simp] theorem State.noteRead_trapOwed (s : State) (a : DWord) (n : Nat) : (s.noteRead a n).trapOwed = s.trapOwed := by
  rw [State.noteRead_eq]
@[simp] theorem State.noteRead_host (s : State) (a : DWord) (n : Nat) : (s.noteRead a n).host = s.host := by
  rw [State.noteRead_eq]
@[simp] theorem State.noteRead_pfx (s : State) (a : DWord) (n : Nat) : (s.noteRead a n).pfx = s.pfx := by
  rw [State.noteRead_eq]
@[simp] theorem State.noteRead_repFlags (s : State) (a : DWord) (n : Nat) : (s.noteRead a n).repFlags = s.repFlags := by
  rw [State.noteRead_eq]
@[simp] theorem State.noteRead_repCode (s : State) (a : DWord) (n : Nat) : (s.noteRead a n).repCode = s.repCode := by
  rw [State.noteRead_eq]

/-- A fetch moves the cursor, and is an event where the code stands on a device. -/
theorem State.fetched_eq (s : State) (n : Nat) :
    s.fetched n = { s with nextEip := s.nextEip + BitVec.ofNat 32 n, ioTrace := (s.fetched n).ioTrace } := by
  unfold State.fetched State.past; split
  · rw [State.noteAccess_eq]
  · rfl

/-- Code in RAM or ROM is fetched without an event. -/
theorem State.fetched_quiet {s : State} {n : Nat} (h : s.touches .device (s.seg.cs.base + s.nextEip) n = false) :
    s.fetched n = s.past n := by
  unfold State.fetched; split
  · unfold State.noteAccess; rw [h]; rfl
  · rfl

@[simp] theorem State.store_gpr (s : State) (a : DWord) (n v : Nat) : (s.store a n v).gpr = s.gpr := by
  rw [State.store_eq]
@[simp] theorem State.store_eip (s : State) (a : DWord) (n v : Nat) : (s.store a n v).eip = s.eip := by
  rw [State.store_eq]
@[simp] theorem State.store_nextEip (s : State) (a : DWord) (n v : Nat) : (s.store a n v).nextEip = s.nextEip := by
  rw [State.store_eq]
@[simp] theorem State.store_flags (s : State) (a : DWord) (n v : Nat) : (s.store a n v).flags = s.flags := by
  rw [State.store_eq]
@[simp] theorem State.store_cpl (s : State) (a : DWord) (n v : Nat) : (s.store a n v).cpl = s.cpl := by
  rw [State.store_eq]
@[simp] theorem State.store_seg (s : State) (a : DWord) (n v : Nat) : (s.store a n v).seg = s.seg := by
  rw [State.store_eq]
@[simp] theorem State.store_ldtr (s : State) (a : DWord) (n v : Nat) : (s.store a n v).ldtr = s.ldtr := by
  rw [State.store_eq]
@[simp] theorem State.store_tr (s : State) (a : DWord) (n v : Nat) : (s.store a n v).tr = s.tr := by
  rw [State.store_eq]
@[simp] theorem State.store_gdtr (s : State) (a : DWord) (n v : Nat) : (s.store a n v).gdtr = s.gdtr := by
  rw [State.store_eq]
@[simp] theorem State.store_idtr (s : State) (a : DWord) (n v : Nat) : (s.store a n v).idtr = s.idtr := by
  rw [State.store_eq]
@[simp] theorem State.store_cr0 (s : State) (a : DWord) (n v : Nat) : (s.store a n v).cr0 = s.cr0 := by
  rw [State.store_eq]
@[simp] theorem State.store_cr2 (s : State) (a : DWord) (n v : Nat) : (s.store a n v).cr2 = s.cr2 := by
  rw [State.store_eq]
@[simp] theorem State.store_cr3 (s : State) (a : DWord) (n v : Nat) : (s.store a n v).cr3 = s.cr3 := by
  rw [State.store_eq]
@[simp] theorem State.store_cr4 (s : State) (a : DWord) (n v : Nat) : (s.store a n v).cr4 = s.cr4 := by
  rw [State.store_eq]
@[simp] theorem State.store_pdptr (s : State) (a : DWord) (n v : Nat) : (s.store a n v).pdptr = s.pdptr := by
  rw [State.store_eq]
@[simp] theorem State.store_dr (s : State) (a : DWord) (n v : Nat) : (s.store a n v).dr = s.dr := by
  rw [State.store_eq]
@[simp] theorem State.store_tsc (s : State) (a : DWord) (n v : Nat) : (s.store a n v).tsc = s.tsc := by
  rw [State.store_eq]
@[simp] theorem State.store_pmc0 (s : State) (a : DWord) (n v : Nat) : (s.store a n v).pmc0 = s.pmc0 := by
  rw [State.store_eq]
@[simp] theorem State.store_pmc1 (s : State) (a : DWord) (n v : Nat) : (s.store a n v).pmc1 = s.pmc1 := by
  rw [State.store_eq]
@[simp] theorem State.store_msrs (s : State) (a : DWord) (n v : Nat) : (s.store a n v).msrs = s.msrs := by
  rw [State.store_eq]
@[simp] theorem State.store_fpu (s : State) (a : DWord) (n v : Nat) : (s.store a n v).fpu = s.fpu := by
  rw [State.store_eq]
@[simp] theorem State.store_inhibit (s : State) (a : DWord) (n v : Nat) : (s.store a n v).inhibit = s.inhibit := by
  rw [State.store_eq]
@[simp] theorem State.store_halted (s : State) (a : DWord) (n v : Nat) : (s.store a n v).halted = s.halted := by
  rw [State.store_eq]
@[simp] theorem State.store_shutdown (s : State) (a : DWord) (n v : Nat) : (s.store a n v).shutdown = s.shutdown := by
  rw [State.store_eq]
@[simp] theorem State.store_trapOwed (s : State) (a : DWord) (n v : Nat) : (s.store a n v).trapOwed = s.trapOwed := by
  rw [State.store_eq]
@[simp] theorem State.store_host (s : State) (a : DWord) (n v : Nat) : (s.store a n v).host = s.host := by
  rw [State.store_eq]
@[simp] theorem State.store_pfx (s : State) (a : DWord) (n v : Nat) : (s.store a n v).pfx = s.pfx := by
  rw [State.store_eq]
@[simp] theorem State.store_repFlags (s : State) (a : DWord) (n v : Nat) : (s.store a n v).repFlags = s.repFlags := by
  rw [State.store_eq]
@[simp] theorem State.store_repCode (s : State) (a : DWord) (n v : Nat) : (s.store a n v).repCode = s.repCode := by
  rw [State.store_eq]
@[simp] theorem State.store_fresh (s : State) (a : DWord) (n v : Nat) : (s.store a n v).fresh = s.fresh := by
  rw [State.store_eq]

/-! ## A store passes an update of another field -/

/-- An update of fields that a store neither reads nor writes. -/
structure Aside (f : State → State) : Prop where
  /-- CR0 stays. -/
  cr0 : ∀ s, (f s).cr0 = s.cr0
  /-- The host's part stays. -/
  host : ∀ s, (f s).host = s.host
  /-- Memory stays. -/
  mem : ∀ s, (f s).mem = s.mem
  /-- The record of old values stays. -/
  dirty : ∀ s, (f s).dirty = s.dirty
  /-- The events stay. -/
  ioTrace : ∀ s, (f s).ioTrace = s.ioTrace
  /-- The update passes what a store changes. -/
  commutes : ∀ s m d t, f { s with mem := m, dirty := d, ioTrace := t } =
    { f s with mem := m, dirty := d, ioTrace := t }

theorem Aside.trace {f : State → State} (h : Aside f) (s : State) (tr : List IoEvent) :
    f { s with ioTrace := tr } = { f s with ioTrace := tr } := by
  have aux : ∀ (u : State) (m : Memory) (d : List Host.Cell), u.mem = m → u.dirty = d →
      ({ u with mem := m, dirty := d, ioTrace := tr } : State) = { u with ioTrace := tr } := by
    intro u m d hm hd; subst hm; subst hd; rfl
  rw [← aux (f s) s.mem s.dirty (h.mem s) (h.dirty s)]
  exact h.commutes s s.mem s.dirty tr

theorem Aside.bytes {f : State → State} (h : Aside f) (s : State) (m : Memory) (d : List Host.Cell) :
    f { s with mem := m, dirty := d } = { f s with mem := m, dirty := d } := by
  have aux : ∀ (u : State) (tr : List IoEvent), u.ioTrace = tr →
      ({ u with mem := m, dirty := d, ioTrace := tr } : State) = { u with mem := m, dirty := d } := by
    intro u tr ht; subst ht; rfl
  rw [← aux (f s) s.ioTrace (h.ioTrace s)]
  exact h.commutes s m d s.ioTrace

theorem State.storeByte_aside {f : State → State} (h : Aside f) (s : State) (a : DWord) (v : Byte) :
    (f s).storeByte a v = f (s.storeByte a v) := by
  unfold State.storeByte
  rw [State.phys_congr (h.cr0 s), State.kindAt_congr (h.host s), h.mem, h.dirty]
  split
  · exact (h.bytes s _ _).symm
  · rfl

theorem State.storeBytes_aside {f : State → State} (h : Aside f) (s : State) (a : DWord) (n v : Nat) :
    (f s).storeBytes a n v = f (s.storeBytes a n v) := by
  induction n generalizing s a v with
  | zero => rfl
  | succ n ih => rw [State.storeBytes, State.storeByte_aside h, ih]; rfl

/-- A store and an update of other fields may change places. -/
theorem State.store_aside {f : State → State} (h : Aside f) (s : State) (a : DWord) (n v : Nat) :
    (f s).store a n v = f (s.store a n v) := by
  unfold State.store
  rw [State.storeBytes_aside h]
  generalize s.storeBytes a n v = t
  unfold State.noteAccess
  rw [State.touches_congr (h.cr0 t) (h.host t), State.phys_congr (h.cr0 t), h.ioTrace]
  split
  · exact (h.trace t _).symm
  · rfl

theorem State.store_with_gpr (s : State) (x : Gprs) (a : DWord) (n v : Nat) :
    State.store { s with gpr := x } a n v = { s.store a n v with gpr := x } :=
  State.store_aside (f := fun s => { s with gpr := x }) (by constructor <;> intros <;> rfl) s a n v

theorem State.store_with_flags (s : State) (x : Flags) (a : DWord) (n v : Nat) :
    State.store { s with flags := x } a n v = { s.store a n v with flags := x } :=
  State.store_aside (f := fun s => { s with flags := x }) (by constructor <;> intros <;> rfl) s a n v

theorem State.store_with_inhibit (s : State) (x : Inhibit) (a : DWord) (n v : Nat) :
    State.store { s with inhibit := x } a n v = { s.store a n v with inhibit := x } :=
  State.store_aside (f := fun s => { s with inhibit := x }) (by constructor <;> intros <;> rfl) s a n v

theorem State.store_with_fresh (s : State) (x : Nat) (a : DWord) (n v : Nat) :
    State.store { s with fresh := x } a n v = { s.store a n v with fresh := x } :=
  State.store_aside (f := fun s => { s with fresh := x }) (by constructor <;> intros <;> rfl) s a n v

theorem State.store_with_fpu (s : State) (x : Fpu) (a : DWord) (n v : Nat) :
    State.store { s with fpu := x } a n v = { s.store a n v with fpu := x } :=
  State.store_aside (f := fun s => { s with fpu := x }) (by constructor <;> intros <;> rfl) s a n v

theorem State.store_with_eip (s : State) (x : DWord) (a : DWord) (n v : Nat) :
    State.store { s with eip := x } a n v = { s.store a n v with eip := x } :=
  State.store_aside (f := fun s => { s with eip := x }) (by constructor <;> intros <;> rfl) s a n v

theorem State.store_with_seg (s : State) (x : Segs) (a : DWord) (n v : Nat) :
    State.store { s with seg := x } a n v = { s.store a n v with seg := x } :=
  State.store_aside (f := fun s => { s with seg := x }) (by constructor <;> intros <;> rfl) s a n v

theorem State.store_with_cpl (s : State) (x : BitVec 2) (a : DWord) (n v : Nat) :
    State.store { s with cpl := x } a n v = { s.store a n v with cpl := x } :=
  State.store_aside (f := fun s => { s with cpl := x }) (by constructor <;> intros <;> rfl) s a n v

/-! ## Field by field -/

@[simp] theorem State.setStackTop_eip (s : State) (o : DWord) : (s.setStackTop o).eip = s.eip := rfl
@[simp] theorem State.setStackTop_nextEip (s : State) (o : DWord) : (s.setStackTop o).nextEip = s.nextEip := rfl
@[simp] theorem State.setStackTop_flags (s : State) (o : DWord) : (s.setStackTop o).flags = s.flags := rfl
@[simp] theorem State.setStackTop_cpl (s : State) (o : DWord) : (s.setStackTop o).cpl = s.cpl := rfl
@[simp] theorem State.setStackTop_seg (s : State) (o : DWord) : (s.setStackTop o).seg = s.seg := rfl
@[simp] theorem State.setStackTop_ldtr (s : State) (o : DWord) : (s.setStackTop o).ldtr = s.ldtr := rfl
@[simp] theorem State.setStackTop_tr (s : State) (o : DWord) : (s.setStackTop o).tr = s.tr := rfl
@[simp] theorem State.setStackTop_gdtr (s : State) (o : DWord) : (s.setStackTop o).gdtr = s.gdtr := rfl
@[simp] theorem State.setStackTop_idtr (s : State) (o : DWord) : (s.setStackTop o).idtr = s.idtr := rfl
@[simp] theorem State.setStackTop_cr0 (s : State) (o : DWord) : (s.setStackTop o).cr0 = s.cr0 := rfl
@[simp] theorem State.setStackTop_cr2 (s : State) (o : DWord) : (s.setStackTop o).cr2 = s.cr2 := rfl
@[simp] theorem State.setStackTop_cr3 (s : State) (o : DWord) : (s.setStackTop o).cr3 = s.cr3 := rfl
@[simp] theorem State.setStackTop_cr4 (s : State) (o : DWord) : (s.setStackTop o).cr4 = s.cr4 := rfl
@[simp] theorem State.setStackTop_pdptr (s : State) (o : DWord) : (s.setStackTop o).pdptr = s.pdptr := rfl
@[simp] theorem State.setStackTop_dr (s : State) (o : DWord) : (s.setStackTop o).dr = s.dr := rfl
@[simp] theorem State.setStackTop_tsc (s : State) (o : DWord) : (s.setStackTop o).tsc = s.tsc := rfl
@[simp] theorem State.setStackTop_pmc0 (s : State) (o : DWord) : (s.setStackTop o).pmc0 = s.pmc0 := rfl
@[simp] theorem State.setStackTop_pmc1 (s : State) (o : DWord) : (s.setStackTop o).pmc1 = s.pmc1 := rfl
@[simp] theorem State.setStackTop_msrs (s : State) (o : DWord) : (s.setStackTop o).msrs = s.msrs := rfl
@[simp] theorem State.setStackTop_fpu (s : State) (o : DWord) : (s.setStackTop o).fpu = s.fpu := rfl
@[simp] theorem State.setStackTop_inhibit (s : State) (o : DWord) : (s.setStackTop o).inhibit = s.inhibit := rfl
@[simp] theorem State.setStackTop_halted (s : State) (o : DWord) : (s.setStackTop o).halted = s.halted := rfl
@[simp] theorem State.setStackTop_shutdown (s : State) (o : DWord) : (s.setStackTop o).shutdown = s.shutdown := rfl
@[simp] theorem State.setStackTop_trapOwed (s : State) (o : DWord) : (s.setStackTop o).trapOwed = s.trapOwed := rfl
@[simp] theorem State.setStackTop_host (s : State) (o : DWord) : (s.setStackTop o).host = s.host := rfl
@[simp] theorem State.setStackTop_ioTrace (s : State) (o : DWord) : (s.setStackTop o).ioTrace = s.ioTrace := rfl
@[simp] theorem State.setStackTop_pfx (s : State) (o : DWord) : (s.setStackTop o).pfx = s.pfx := rfl
@[simp] theorem State.setStackTop_repFlags (s : State) (o : DWord) : (s.setStackTop o).repFlags = s.repFlags := rfl
@[simp] theorem State.setStackTop_repCode (s : State) (o : DWord) : (s.setStackTop o).repCode = s.repCode := rfl
@[simp] theorem State.setStackTop_fresh (s : State) (o : DWord) : (s.setStackTop o).fresh = s.fresh := rfl
@[simp] theorem State.setStackTop_mem (s : State) (o : DWord) : (s.setStackTop o).mem = s.mem := rfl
@[simp] theorem State.setStackTop_dirty (s : State) (o : DWord) : (s.setStackTop o).dirty = s.dirty := rfl
@[simp] theorem State.completed_gpr (s t : State) : (s.completed t).gpr = t.gpr := rfl
@[simp] theorem State.completed_eip (s t : State) : (s.completed t).eip = t.eip := rfl
@[simp] theorem State.completed_nextEip (s t : State) : (s.completed t).nextEip = t.nextEip := rfl
@[simp] theorem State.completed_flags (s t : State) : (s.completed t).flags = t.flags := rfl
@[simp] theorem State.completed_cpl (s t : State) : (s.completed t).cpl = t.cpl := rfl
@[simp] theorem State.completed_seg (s t : State) : (s.completed t).seg = t.seg := rfl
@[simp] theorem State.completed_ldtr (s t : State) : (s.completed t).ldtr = t.ldtr := rfl
@[simp] theorem State.completed_tr (s t : State) : (s.completed t).tr = t.tr := rfl
@[simp] theorem State.completed_gdtr (s t : State) : (s.completed t).gdtr = t.gdtr := rfl
@[simp] theorem State.completed_idtr (s t : State) : (s.completed t).idtr = t.idtr := rfl
@[simp] theorem State.completed_cr0 (s t : State) : (s.completed t).cr0 = t.cr0 := rfl
@[simp] theorem State.completed_cr2 (s t : State) : (s.completed t).cr2 = t.cr2 := rfl
@[simp] theorem State.completed_cr3 (s t : State) : (s.completed t).cr3 = t.cr3 := rfl
@[simp] theorem State.completed_cr4 (s t : State) : (s.completed t).cr4 = t.cr4 := rfl
@[simp] theorem State.completed_pdptr (s t : State) : (s.completed t).pdptr = t.pdptr := rfl
@[simp] theorem State.completed_dr (s t : State) : (s.completed t).dr = t.dr := rfl
@[simp] theorem State.completed_tsc (s t : State) : (s.completed t).tsc = t.tsc := rfl
@[simp] theorem State.completed_pmc0 (s t : State) : (s.completed t).pmc0 = t.pmc0 := rfl
@[simp] theorem State.completed_pmc1 (s t : State) : (s.completed t).pmc1 = t.pmc1 := rfl
@[simp] theorem State.completed_msrs (s t : State) : (s.completed t).msrs = t.msrs := rfl
@[simp] theorem State.completed_fpu (s t : State) : (s.completed t).fpu = t.fpu := rfl
@[simp] theorem State.completed_inhibit (s t : State) : (s.completed t).inhibit = t.inhibit := rfl
@[simp] theorem State.completed_halted (s t : State) : (s.completed t).halted = t.halted := rfl
@[simp] theorem State.completed_shutdown (s t : State) : (s.completed t).shutdown = t.shutdown := rfl
@[simp] theorem State.completed_host (s t : State) : (s.completed t).host = t.host := rfl
@[simp] theorem State.completed_ioTrace (s t : State) : (s.completed t).ioTrace = t.ioTrace := rfl
@[simp] theorem State.completed_fresh (s t : State) : (s.completed t).fresh = t.fresh := rfl
@[simp] theorem State.completed_mem (s t : State) : (s.completed t).mem = t.mem := rfl
@[simp] theorem State.completed_dirty (s t : State) : (s.completed t).dirty = t.dirty := rfl
@[simp] theorem State.afterDelivery_gpr (s : State) : (s.afterDelivery).gpr = s.gpr := rfl
@[simp] theorem State.afterDelivery_eip (s : State) : (s.afterDelivery).eip = s.eip := rfl
@[simp] theorem State.afterDelivery_nextEip (s : State) : (s.afterDelivery).nextEip = s.nextEip := rfl
@[simp] theorem State.afterDelivery_flags (s : State) : (s.afterDelivery).flags = s.flags := rfl
@[simp] theorem State.afterDelivery_cpl (s : State) : (s.afterDelivery).cpl = s.cpl := rfl
@[simp] theorem State.afterDelivery_seg (s : State) : (s.afterDelivery).seg = s.seg := rfl
@[simp] theorem State.afterDelivery_ldtr (s : State) : (s.afterDelivery).ldtr = s.ldtr := rfl
@[simp] theorem State.afterDelivery_tr (s : State) : (s.afterDelivery).tr = s.tr := rfl
@[simp] theorem State.afterDelivery_gdtr (s : State) : (s.afterDelivery).gdtr = s.gdtr := rfl
@[simp] theorem State.afterDelivery_idtr (s : State) : (s.afterDelivery).idtr = s.idtr := rfl
@[simp] theorem State.afterDelivery_cr0 (s : State) : (s.afterDelivery).cr0 = s.cr0 := rfl
@[simp] theorem State.afterDelivery_cr2 (s : State) : (s.afterDelivery).cr2 = s.cr2 := rfl
@[simp] theorem State.afterDelivery_cr3 (s : State) : (s.afterDelivery).cr3 = s.cr3 := rfl
@[simp] theorem State.afterDelivery_cr4 (s : State) : (s.afterDelivery).cr4 = s.cr4 := rfl
@[simp] theorem State.afterDelivery_pdptr (s : State) : (s.afterDelivery).pdptr = s.pdptr := rfl
@[simp] theorem State.afterDelivery_dr (s : State) : (s.afterDelivery).dr = s.dr := rfl
@[simp] theorem State.afterDelivery_tsc (s : State) : (s.afterDelivery).tsc = s.tsc := rfl
@[simp] theorem State.afterDelivery_pmc0 (s : State) : (s.afterDelivery).pmc0 = s.pmc0 := rfl
@[simp] theorem State.afterDelivery_pmc1 (s : State) : (s.afterDelivery).pmc1 = s.pmc1 := rfl
@[simp] theorem State.afterDelivery_msrs (s : State) : (s.afterDelivery).msrs = s.msrs := rfl
@[simp] theorem State.afterDelivery_fpu (s : State) : (s.afterDelivery).fpu = s.fpu := rfl
@[simp] theorem State.afterDelivery_inhibit (s : State) : (s.afterDelivery).inhibit = s.inhibit := rfl
@[simp] theorem State.afterDelivery_host (s : State) : (s.afterDelivery).host = s.host := rfl
@[simp] theorem State.afterDelivery_ioTrace (s : State) : (s.afterDelivery).ioTrace = s.ioTrace := rfl
@[simp] theorem State.afterDelivery_fresh (s : State) : (s.afterDelivery).fresh = s.fresh := rfl
@[simp] theorem State.afterDelivery_mem (s : State) : (s.afterDelivery).mem = s.mem := rfl
@[simp] theorem State.afterDelivery_dirty (s : State) : (s.afterDelivery).dirty = s.dirty := rfl
@[simp] theorem State.shutDown_gpr (s : State) : (s.shutDown).gpr = s.gpr := rfl
@[simp] theorem State.shutDown_eip (s : State) : (s.shutDown).eip = s.eip := rfl
@[simp] theorem State.shutDown_nextEip (s : State) : (s.shutDown).nextEip = s.nextEip := rfl
@[simp] theorem State.shutDown_flags (s : State) : (s.shutDown).flags = s.flags := rfl
@[simp] theorem State.shutDown_cpl (s : State) : (s.shutDown).cpl = s.cpl := rfl
@[simp] theorem State.shutDown_seg (s : State) : (s.shutDown).seg = s.seg := rfl
@[simp] theorem State.shutDown_ldtr (s : State) : (s.shutDown).ldtr = s.ldtr := rfl
@[simp] theorem State.shutDown_tr (s : State) : (s.shutDown).tr = s.tr := rfl
@[simp] theorem State.shutDown_gdtr (s : State) : (s.shutDown).gdtr = s.gdtr := rfl
@[simp] theorem State.shutDown_idtr (s : State) : (s.shutDown).idtr = s.idtr := rfl
@[simp] theorem State.shutDown_cr0 (s : State) : (s.shutDown).cr0 = s.cr0 := rfl
@[simp] theorem State.shutDown_cr2 (s : State) : (s.shutDown).cr2 = s.cr2 := rfl
@[simp] theorem State.shutDown_cr3 (s : State) : (s.shutDown).cr3 = s.cr3 := rfl
@[simp] theorem State.shutDown_cr4 (s : State) : (s.shutDown).cr4 = s.cr4 := rfl
@[simp] theorem State.shutDown_pdptr (s : State) : (s.shutDown).pdptr = s.pdptr := rfl
@[simp] theorem State.shutDown_dr (s : State) : (s.shutDown).dr = s.dr := rfl
@[simp] theorem State.shutDown_tsc (s : State) : (s.shutDown).tsc = s.tsc := rfl
@[simp] theorem State.shutDown_pmc0 (s : State) : (s.shutDown).pmc0 = s.pmc0 := rfl
@[simp] theorem State.shutDown_pmc1 (s : State) : (s.shutDown).pmc1 = s.pmc1 := rfl
@[simp] theorem State.shutDown_msrs (s : State) : (s.shutDown).msrs = s.msrs := rfl
@[simp] theorem State.shutDown_fpu (s : State) : (s.shutDown).fpu = s.fpu := rfl
@[simp] theorem State.shutDown_inhibit (s : State) : (s.shutDown).inhibit = s.inhibit := rfl
@[simp] theorem State.shutDown_halted (s : State) : (s.shutDown).halted = s.halted := rfl
@[simp] theorem State.shutDown_trapOwed (s : State) : (s.shutDown).trapOwed = s.trapOwed := rfl
@[simp] theorem State.shutDown_host (s : State) : (s.shutDown).host = s.host := rfl
@[simp] theorem State.shutDown_ioTrace (s : State) : (s.shutDown).ioTrace = s.ioTrace := rfl
@[simp] theorem State.shutDown_fresh (s : State) : (s.shutDown).fresh = s.fresh := rfl
@[simp] theorem State.shutDown_mem (s : State) : (s.shutDown).mem = s.mem := rfl
@[simp] theorem State.shutDown_dirty (s : State) : (s.shutDown).dirty = s.dirty := rfl
@[simp] theorem State.ticked_gpr (s : State) : (s.ticked).gpr = s.gpr := rfl
@[simp] theorem State.ticked_eip (s : State) : (s.ticked).eip = s.eip := rfl
@[simp] theorem State.ticked_nextEip (s : State) : (s.ticked).nextEip = s.nextEip := rfl
@[simp] theorem State.ticked_flags (s : State) : (s.ticked).flags = s.flags := rfl
@[simp] theorem State.ticked_cpl (s : State) : (s.ticked).cpl = s.cpl := rfl
@[simp] theorem State.ticked_seg (s : State) : (s.ticked).seg = s.seg := rfl
@[simp] theorem State.ticked_ldtr (s : State) : (s.ticked).ldtr = s.ldtr := rfl
@[simp] theorem State.ticked_tr (s : State) : (s.ticked).tr = s.tr := rfl
@[simp] theorem State.ticked_gdtr (s : State) : (s.ticked).gdtr = s.gdtr := rfl
@[simp] theorem State.ticked_idtr (s : State) : (s.ticked).idtr = s.idtr := rfl
@[simp] theorem State.ticked_cr0 (s : State) : (s.ticked).cr0 = s.cr0 := rfl
@[simp] theorem State.ticked_cr2 (s : State) : (s.ticked).cr2 = s.cr2 := rfl
@[simp] theorem State.ticked_cr3 (s : State) : (s.ticked).cr3 = s.cr3 := rfl
@[simp] theorem State.ticked_cr4 (s : State) : (s.ticked).cr4 = s.cr4 := rfl
@[simp] theorem State.ticked_pdptr (s : State) : (s.ticked).pdptr = s.pdptr := rfl
@[simp] theorem State.ticked_dr (s : State) : (s.ticked).dr = s.dr := rfl
@[simp] theorem State.ticked_pmc0 (s : State) : (s.ticked).pmc0 = s.pmc0 := rfl
@[simp] theorem State.ticked_pmc1 (s : State) : (s.ticked).pmc1 = s.pmc1 := rfl
@[simp] theorem State.ticked_msrs (s : State) : (s.ticked).msrs = s.msrs := rfl
@[simp] theorem State.ticked_fpu (s : State) : (s.ticked).fpu = s.fpu := rfl
@[simp] theorem State.ticked_inhibit (s : State) : (s.ticked).inhibit = s.inhibit := rfl
@[simp] theorem State.ticked_halted (s : State) : (s.ticked).halted = s.halted := rfl
@[simp] theorem State.ticked_shutdown (s : State) : (s.ticked).shutdown = s.shutdown := rfl
@[simp] theorem State.ticked_trapOwed (s : State) : (s.ticked).trapOwed = s.trapOwed := rfl
@[simp] theorem State.ticked_host (s : State) : (s.ticked).host = s.host := rfl
@[simp] theorem State.ticked_ioTrace (s : State) : (s.ticked).ioTrace = s.ioTrace := rfl
@[simp] theorem State.ticked_pfx (s : State) : (s.ticked).pfx = s.pfx := rfl
@[simp] theorem State.ticked_repFlags (s : State) : (s.ticked).repFlags = s.repFlags := rfl
@[simp] theorem State.ticked_repCode (s : State) : (s.ticked).repCode = s.repCode := rfl
@[simp] theorem State.ticked_mem (s : State) : (s.ticked).mem = s.mem := rfl
@[simp] theorem State.ticked_dirty (s : State) : (s.ticked).dirty = s.dirty := rfl
@[simp] theorem State.ticked_fresh (s : State) : (s.ticked).fresh = s.fresh + 1 := rfl
@[simp] theorem State.begin_gpr (s : State) : (s.begin).gpr = s.gpr := rfl
@[simp] theorem State.begin_eip (s : State) : (s.begin).eip = s.eip := rfl
@[simp] theorem State.begin_flags (s : State) : (s.begin).flags = s.flags := rfl
@[simp] theorem State.begin_cpl (s : State) : (s.begin).cpl = s.cpl := rfl
@[simp] theorem State.begin_seg (s : State) : (s.begin).seg = s.seg := rfl
@[simp] theorem State.begin_ldtr (s : State) : (s.begin).ldtr = s.ldtr := rfl
@[simp] theorem State.begin_tr (s : State) : (s.begin).tr = s.tr := rfl
@[simp] theorem State.begin_gdtr (s : State) : (s.begin).gdtr = s.gdtr := rfl
@[simp] theorem State.begin_idtr (s : State) : (s.begin).idtr = s.idtr := rfl
@[simp] theorem State.begin_cr0 (s : State) : (s.begin).cr0 = s.cr0 := rfl
@[simp] theorem State.begin_cr2 (s : State) : (s.begin).cr2 = s.cr2 := rfl
@[simp] theorem State.begin_cr3 (s : State) : (s.begin).cr3 = s.cr3 := rfl
@[simp] theorem State.begin_cr4 (s : State) : (s.begin).cr4 = s.cr4 := rfl
@[simp] theorem State.begin_pdptr (s : State) : (s.begin).pdptr = s.pdptr := rfl
@[simp] theorem State.begin_dr (s : State) : (s.begin).dr = s.dr := rfl
@[simp] theorem State.begin_tsc (s : State) : (s.begin).tsc = s.tsc := rfl
@[simp] theorem State.begin_pmc0 (s : State) : (s.begin).pmc0 = s.pmc0 := rfl
@[simp] theorem State.begin_pmc1 (s : State) : (s.begin).pmc1 = s.pmc1 := rfl
@[simp] theorem State.begin_msrs (s : State) : (s.begin).msrs = s.msrs := rfl
@[simp] theorem State.begin_fpu (s : State) : (s.begin).fpu = s.fpu := rfl
@[simp] theorem State.begin_inhibit (s : State) : (s.begin).inhibit = s.inhibit := rfl
@[simp] theorem State.begin_halted (s : State) : (s.begin).halted = s.halted := rfl
@[simp] theorem State.begin_shutdown (s : State) : (s.begin).shutdown = s.shutdown := rfl
@[simp] theorem State.begin_trapOwed (s : State) : (s.begin).trapOwed = s.trapOwed := rfl
@[simp] theorem State.begin_host (s : State) : (s.begin).host = s.host := rfl
@[simp] theorem State.begin_ioTrace (s : State) : (s.begin).ioTrace = s.ioTrace := rfl
@[simp] theorem State.begin_repFlags (s : State) : (s.begin).repFlags = s.repFlags := rfl
@[simp] theorem State.begin_repCode (s : State) : (s.begin).repCode = s.repCode := rfl
@[simp] theorem State.begin_fresh (s : State) : (s.begin).fresh = s.fresh := rfl
@[simp] theorem State.begin_mem (s : State) : (s.begin).mem = s.mem := rfl
@[simp] theorem State.begin_dirty (s : State) : (s.begin).dirty = s.dirty := rfl
@[simp] theorem State.past_gpr (s : State) (n : Nat) : (s.past n).gpr = s.gpr := rfl
@[simp] theorem State.past_eip (s : State) (n : Nat) : (s.past n).eip = s.eip := rfl
@[simp] theorem State.past_flags (s : State) (n : Nat) : (s.past n).flags = s.flags := rfl
@[simp] theorem State.past_cpl (s : State) (n : Nat) : (s.past n).cpl = s.cpl := rfl
@[simp] theorem State.past_seg (s : State) (n : Nat) : (s.past n).seg = s.seg := rfl
@[simp] theorem State.past_ldtr (s : State) (n : Nat) : (s.past n).ldtr = s.ldtr := rfl
@[simp] theorem State.past_tr (s : State) (n : Nat) : (s.past n).tr = s.tr := rfl
@[simp] theorem State.past_gdtr (s : State) (n : Nat) : (s.past n).gdtr = s.gdtr := rfl
@[simp] theorem State.past_idtr (s : State) (n : Nat) : (s.past n).idtr = s.idtr := rfl
@[simp] theorem State.past_cr0 (s : State) (n : Nat) : (s.past n).cr0 = s.cr0 := rfl
@[simp] theorem State.past_cr2 (s : State) (n : Nat) : (s.past n).cr2 = s.cr2 := rfl
@[simp] theorem State.past_cr3 (s : State) (n : Nat) : (s.past n).cr3 = s.cr3 := rfl
@[simp] theorem State.past_cr4 (s : State) (n : Nat) : (s.past n).cr4 = s.cr4 := rfl
@[simp] theorem State.past_pdptr (s : State) (n : Nat) : (s.past n).pdptr = s.pdptr := rfl
@[simp] theorem State.past_dr (s : State) (n : Nat) : (s.past n).dr = s.dr := rfl
@[simp] theorem State.past_tsc (s : State) (n : Nat) : (s.past n).tsc = s.tsc := rfl
@[simp] theorem State.past_pmc0 (s : State) (n : Nat) : (s.past n).pmc0 = s.pmc0 := rfl
@[simp] theorem State.past_pmc1 (s : State) (n : Nat) : (s.past n).pmc1 = s.pmc1 := rfl
@[simp] theorem State.past_msrs (s : State) (n : Nat) : (s.past n).msrs = s.msrs := rfl
@[simp] theorem State.past_fpu (s : State) (n : Nat) : (s.past n).fpu = s.fpu := rfl
@[simp] theorem State.past_inhibit (s : State) (n : Nat) : (s.past n).inhibit = s.inhibit := rfl
@[simp] theorem State.past_halted (s : State) (n : Nat) : (s.past n).halted = s.halted := rfl
@[simp] theorem State.past_shutdown (s : State) (n : Nat) : (s.past n).shutdown = s.shutdown := rfl
@[simp] theorem State.past_trapOwed (s : State) (n : Nat) : (s.past n).trapOwed = s.trapOwed := rfl
@[simp] theorem State.past_host (s : State) (n : Nat) : (s.past n).host = s.host := rfl
@[simp] theorem State.past_ioTrace (s : State) (n : Nat) : (s.past n).ioTrace = s.ioTrace := rfl
@[simp] theorem State.past_pfx (s : State) (n : Nat) : (s.past n).pfx = s.pfx := rfl
@[simp] theorem State.past_repFlags (s : State) (n : Nat) : (s.past n).repFlags = s.repFlags := rfl
@[simp] theorem State.past_repCode (s : State) (n : Nat) : (s.past n).repCode = s.repCode := rfl
@[simp] theorem State.past_fresh (s : State) (n : Nat) : (s.past n).fresh = s.fresh := rfl
@[simp] theorem State.past_mem (s : State) (n : Nat) : (s.past n).mem = s.mem := rfl
@[simp] theorem State.past_dirty (s : State) (n : Nat) : (s.past n).dirty = s.dirty := rfl
@[simp] theorem State.storeByte_gpr (s : State) (a : DWord) (v : Byte) : (s.storeByte a v).gpr = s.gpr := by
  rw [State.storeByte_eq]
@[simp] theorem State.storeByte_eip (s : State) (a : DWord) (v : Byte) : (s.storeByte a v).eip = s.eip := by
  rw [State.storeByte_eq]
@[simp] theorem State.storeByte_nextEip (s : State) (a : DWord) (v : Byte) : (s.storeByte a v).nextEip = s.nextEip := by
  rw [State.storeByte_eq]
@[simp] theorem State.storeByte_flags (s : State) (a : DWord) (v : Byte) : (s.storeByte a v).flags = s.flags := by
  rw [State.storeByte_eq]
@[simp] theorem State.storeByte_cpl (s : State) (a : DWord) (v : Byte) : (s.storeByte a v).cpl = s.cpl := by
  rw [State.storeByte_eq]
@[simp] theorem State.storeByte_seg (s : State) (a : DWord) (v : Byte) : (s.storeByte a v).seg = s.seg := by
  rw [State.storeByte_eq]
@[simp] theorem State.storeByte_ldtr (s : State) (a : DWord) (v : Byte) : (s.storeByte a v).ldtr = s.ldtr := by
  rw [State.storeByte_eq]
@[simp] theorem State.storeByte_tr (s : State) (a : DWord) (v : Byte) : (s.storeByte a v).tr = s.tr := by
  rw [State.storeByte_eq]
@[simp] theorem State.storeByte_gdtr (s : State) (a : DWord) (v : Byte) : (s.storeByte a v).gdtr = s.gdtr := by
  rw [State.storeByte_eq]
@[simp] theorem State.storeByte_idtr (s : State) (a : DWord) (v : Byte) : (s.storeByte a v).idtr = s.idtr := by
  rw [State.storeByte_eq]
@[simp] theorem State.storeByte_cr2 (s : State) (a : DWord) (v : Byte) : (s.storeByte a v).cr2 = s.cr2 := by
  rw [State.storeByte_eq]
@[simp] theorem State.storeByte_cr3 (s : State) (a : DWord) (v : Byte) : (s.storeByte a v).cr3 = s.cr3 := by
  rw [State.storeByte_eq]
@[simp] theorem State.storeByte_cr4 (s : State) (a : DWord) (v : Byte) : (s.storeByte a v).cr4 = s.cr4 := by
  rw [State.storeByte_eq]
@[simp] theorem State.storeByte_pdptr (s : State) (a : DWord) (v : Byte) : (s.storeByte a v).pdptr = s.pdptr := by
  rw [State.storeByte_eq]
@[simp] theorem State.storeByte_dr (s : State) (a : DWord) (v : Byte) : (s.storeByte a v).dr = s.dr := by
  rw [State.storeByte_eq]
@[simp] theorem State.storeByte_tsc (s : State) (a : DWord) (v : Byte) : (s.storeByte a v).tsc = s.tsc := by
  rw [State.storeByte_eq]
@[simp] theorem State.storeByte_pmc0 (s : State) (a : DWord) (v : Byte) : (s.storeByte a v).pmc0 = s.pmc0 := by
  rw [State.storeByte_eq]
@[simp] theorem State.storeByte_pmc1 (s : State) (a : DWord) (v : Byte) : (s.storeByte a v).pmc1 = s.pmc1 := by
  rw [State.storeByte_eq]
@[simp] theorem State.storeByte_msrs (s : State) (a : DWord) (v : Byte) : (s.storeByte a v).msrs = s.msrs := by
  rw [State.storeByte_eq]
@[simp] theorem State.storeByte_fpu (s : State) (a : DWord) (v : Byte) : (s.storeByte a v).fpu = s.fpu := by
  rw [State.storeByte_eq]
@[simp] theorem State.storeByte_inhibit (s : State) (a : DWord) (v : Byte) : (s.storeByte a v).inhibit = s.inhibit := by
  rw [State.storeByte_eq]
@[simp] theorem State.storeByte_halted (s : State) (a : DWord) (v : Byte) : (s.storeByte a v).halted = s.halted := by
  rw [State.storeByte_eq]
@[simp] theorem State.storeByte_shutdown (s : State) (a : DWord) (v : Byte) : (s.storeByte a v).shutdown = s.shutdown := by
  rw [State.storeByte_eq]
@[simp] theorem State.storeByte_trapOwed (s : State) (a : DWord) (v : Byte) : (s.storeByte a v).trapOwed = s.trapOwed := by
  rw [State.storeByte_eq]
@[simp] theorem State.storeByte_ioTrace (s : State) (a : DWord) (v : Byte) : (s.storeByte a v).ioTrace = s.ioTrace := by
  rw [State.storeByte_eq]
@[simp] theorem State.storeByte_pfx (s : State) (a : DWord) (v : Byte) : (s.storeByte a v).pfx = s.pfx := by
  rw [State.storeByte_eq]
@[simp] theorem State.storeByte_repFlags (s : State) (a : DWord) (v : Byte) : (s.storeByte a v).repFlags = s.repFlags := by
  rw [State.storeByte_eq]
@[simp] theorem State.storeByte_repCode (s : State) (a : DWord) (v : Byte) : (s.storeByte a v).repCode = s.repCode := by
  rw [State.storeByte_eq]
@[simp] theorem State.storeByte_fresh (s : State) (a : DWord) (v : Byte) : (s.storeByte a v).fresh = s.fresh := by
  rw [State.storeByte_eq]
@[simp] theorem State.loadReal_gpr (s : State) (r : SegReg) (x : Word) : (s.loadReal r x).gpr = s.gpr := rfl
@[simp] theorem State.loadReal_eip (s : State) (r : SegReg) (x : Word) : (s.loadReal r x).eip = s.eip := rfl
@[simp] theorem State.loadReal_nextEip (s : State) (r : SegReg) (x : Word) : (s.loadReal r x).nextEip = s.nextEip := rfl
@[simp] theorem State.loadReal_flags (s : State) (r : SegReg) (x : Word) : (s.loadReal r x).flags = s.flags := rfl
@[simp] theorem State.loadReal_cpl (s : State) (r : SegReg) (x : Word) : (s.loadReal r x).cpl = s.cpl := rfl
@[simp] theorem State.loadReal_ldtr (s : State) (r : SegReg) (x : Word) : (s.loadReal r x).ldtr = s.ldtr := rfl
@[simp] theorem State.loadReal_tr (s : State) (r : SegReg) (x : Word) : (s.loadReal r x).tr = s.tr := rfl
@[simp] theorem State.loadReal_gdtr (s : State) (r : SegReg) (x : Word) : (s.loadReal r x).gdtr = s.gdtr := rfl
@[simp] theorem State.loadReal_idtr (s : State) (r : SegReg) (x : Word) : (s.loadReal r x).idtr = s.idtr := rfl
@[simp] theorem State.loadReal_cr0 (s : State) (r : SegReg) (x : Word) : (s.loadReal r x).cr0 = s.cr0 := rfl
@[simp] theorem State.loadReal_cr2 (s : State) (r : SegReg) (x : Word) : (s.loadReal r x).cr2 = s.cr2 := rfl
@[simp] theorem State.loadReal_cr3 (s : State) (r : SegReg) (x : Word) : (s.loadReal r x).cr3 = s.cr3 := rfl
@[simp] theorem State.loadReal_cr4 (s : State) (r : SegReg) (x : Word) : (s.loadReal r x).cr4 = s.cr4 := rfl
@[simp] theorem State.loadReal_pdptr (s : State) (r : SegReg) (x : Word) : (s.loadReal r x).pdptr = s.pdptr := rfl
@[simp] theorem State.loadReal_dr (s : State) (r : SegReg) (x : Word) : (s.loadReal r x).dr = s.dr := rfl
@[simp] theorem State.loadReal_tsc (s : State) (r : SegReg) (x : Word) : (s.loadReal r x).tsc = s.tsc := rfl
@[simp] theorem State.loadReal_pmc0 (s : State) (r : SegReg) (x : Word) : (s.loadReal r x).pmc0 = s.pmc0 := rfl
@[simp] theorem State.loadReal_pmc1 (s : State) (r : SegReg) (x : Word) : (s.loadReal r x).pmc1 = s.pmc1 := rfl
@[simp] theorem State.loadReal_msrs (s : State) (r : SegReg) (x : Word) : (s.loadReal r x).msrs = s.msrs := rfl
@[simp] theorem State.loadReal_fpu (s : State) (r : SegReg) (x : Word) : (s.loadReal r x).fpu = s.fpu := rfl
@[simp] theorem State.loadReal_inhibit (s : State) (r : SegReg) (x : Word) : (s.loadReal r x).inhibit = s.inhibit := rfl
@[simp] theorem State.loadReal_halted (s : State) (r : SegReg) (x : Word) : (s.loadReal r x).halted = s.halted := rfl
@[simp] theorem State.loadReal_shutdown (s : State) (r : SegReg) (x : Word) : (s.loadReal r x).shutdown = s.shutdown := rfl
@[simp] theorem State.loadReal_trapOwed (s : State) (r : SegReg) (x : Word) : (s.loadReal r x).trapOwed = s.trapOwed := rfl
@[simp] theorem State.loadReal_host (s : State) (r : SegReg) (x : Word) : (s.loadReal r x).host = s.host := rfl
@[simp] theorem State.loadReal_ioTrace (s : State) (r : SegReg) (x : Word) : (s.loadReal r x).ioTrace = s.ioTrace := rfl
@[simp] theorem State.loadReal_pfx (s : State) (r : SegReg) (x : Word) : (s.loadReal r x).pfx = s.pfx := rfl
@[simp] theorem State.loadReal_repFlags (s : State) (r : SegReg) (x : Word) : (s.loadReal r x).repFlags = s.repFlags := rfl
@[simp] theorem State.loadReal_repCode (s : State) (r : SegReg) (x : Word) : (s.loadReal r x).repCode = s.repCode := rfl
@[simp] theorem State.loadReal_fresh (s : State) (r : SegReg) (x : Word) : (s.loadReal r x).fresh = s.fresh := rfl
@[simp] theorem State.loadReal_mem (s : State) (r : SegReg) (x : Word) : (s.loadReal r x).mem = s.mem := rfl
@[simp] theorem State.loadReal_dirty (s : State) (r : SegReg) (x : Word) : (s.loadReal r x).dirty = s.dirty := rfl
@[simp] theorem State.loadNull_gpr (s : State) (r : SegReg) (x : Word) : (s.loadNull r x).gpr = s.gpr := rfl
@[simp] theorem State.loadNull_eip (s : State) (r : SegReg) (x : Word) : (s.loadNull r x).eip = s.eip := rfl
@[simp] theorem State.loadNull_nextEip (s : State) (r : SegReg) (x : Word) : (s.loadNull r x).nextEip = s.nextEip := rfl
@[simp] theorem State.loadNull_flags (s : State) (r : SegReg) (x : Word) : (s.loadNull r x).flags = s.flags := rfl
@[simp] theorem State.loadNull_cpl (s : State) (r : SegReg) (x : Word) : (s.loadNull r x).cpl = s.cpl := rfl
@[simp] theorem State.loadNull_ldtr (s : State) (r : SegReg) (x : Word) : (s.loadNull r x).ldtr = s.ldtr := rfl
@[simp] theorem State.loadNull_tr (s : State) (r : SegReg) (x : Word) : (s.loadNull r x).tr = s.tr := rfl
@[simp] theorem State.loadNull_gdtr (s : State) (r : SegReg) (x : Word) : (s.loadNull r x).gdtr = s.gdtr := rfl
@[simp] theorem State.loadNull_idtr (s : State) (r : SegReg) (x : Word) : (s.loadNull r x).idtr = s.idtr := rfl
@[simp] theorem State.loadNull_cr0 (s : State) (r : SegReg) (x : Word) : (s.loadNull r x).cr0 = s.cr0 := rfl
@[simp] theorem State.loadNull_cr2 (s : State) (r : SegReg) (x : Word) : (s.loadNull r x).cr2 = s.cr2 := rfl
@[simp] theorem State.loadNull_cr3 (s : State) (r : SegReg) (x : Word) : (s.loadNull r x).cr3 = s.cr3 := rfl
@[simp] theorem State.loadNull_cr4 (s : State) (r : SegReg) (x : Word) : (s.loadNull r x).cr4 = s.cr4 := rfl
@[simp] theorem State.loadNull_pdptr (s : State) (r : SegReg) (x : Word) : (s.loadNull r x).pdptr = s.pdptr := rfl
@[simp] theorem State.loadNull_dr (s : State) (r : SegReg) (x : Word) : (s.loadNull r x).dr = s.dr := rfl
@[simp] theorem State.loadNull_tsc (s : State) (r : SegReg) (x : Word) : (s.loadNull r x).tsc = s.tsc := rfl
@[simp] theorem State.loadNull_pmc0 (s : State) (r : SegReg) (x : Word) : (s.loadNull r x).pmc0 = s.pmc0 := rfl
@[simp] theorem State.loadNull_pmc1 (s : State) (r : SegReg) (x : Word) : (s.loadNull r x).pmc1 = s.pmc1 := rfl
@[simp] theorem State.loadNull_msrs (s : State) (r : SegReg) (x : Word) : (s.loadNull r x).msrs = s.msrs := rfl
@[simp] theorem State.loadNull_fpu (s : State) (r : SegReg) (x : Word) : (s.loadNull r x).fpu = s.fpu := rfl
@[simp] theorem State.loadNull_inhibit (s : State) (r : SegReg) (x : Word) : (s.loadNull r x).inhibit = s.inhibit := rfl
@[simp] theorem State.loadNull_halted (s : State) (r : SegReg) (x : Word) : (s.loadNull r x).halted = s.halted := rfl
@[simp] theorem State.loadNull_shutdown (s : State) (r : SegReg) (x : Word) : (s.loadNull r x).shutdown = s.shutdown := rfl
@[simp] theorem State.loadNull_trapOwed (s : State) (r : SegReg) (x : Word) : (s.loadNull r x).trapOwed = s.trapOwed := rfl
@[simp] theorem State.loadNull_host (s : State) (r : SegReg) (x : Word) : (s.loadNull r x).host = s.host := rfl
@[simp] theorem State.loadNull_ioTrace (s : State) (r : SegReg) (x : Word) : (s.loadNull r x).ioTrace = s.ioTrace := rfl
@[simp] theorem State.loadNull_pfx (s : State) (r : SegReg) (x : Word) : (s.loadNull r x).pfx = s.pfx := rfl
@[simp] theorem State.loadNull_repFlags (s : State) (r : SegReg) (x : Word) : (s.loadNull r x).repFlags = s.repFlags := rfl
@[simp] theorem State.loadNull_repCode (s : State) (r : SegReg) (x : Word) : (s.loadNull r x).repCode = s.repCode := rfl
@[simp] theorem State.loadNull_fresh (s : State) (r : SegReg) (x : Word) : (s.loadNull r x).fresh = s.fresh := rfl
@[simp] theorem State.loadNull_mem (s : State) (r : SegReg) (x : Word) : (s.loadNull r x).mem = s.mem := rfl
@[simp] theorem State.loadNull_dirty (s : State) (r : SegReg) (x : Word) : (s.loadNull r x).dirty = s.dirty := rfl
@[simp] theorem State.completed_pfx (s t : State) : (s.completed t).pfx = noPrefixes := rfl
@[simp] theorem State.completed_repFlags (s t : State) : (s.completed t).repFlags = none := rfl
@[simp] theorem State.completed_repCode (s t : State) : (s.completed t).repCode = none := rfl
@[simp] theorem State.afterDelivery_pfx (s : State) : s.afterDelivery.pfx = noPrefixes := rfl
@[simp] theorem State.begin_pfx (s : State) : s.begin.pfx = noPrefixes := rfl
@[simp] theorem State.begin_nextEip (s : State) : s.begin.nextEip = s.eip := rfl
@[simp] theorem State.past_nextEip (s : State) (n : Nat) : (s.past n).nextEip = s.nextEip + BitVec.ofNat 32 n := rfl

/-- Marking a descriptor reads and writes memory, and nothing else. -/
theorem State.markDesc_eq (s : State) (a : DWord) (b : Byte) :
    s.markDesc a b = { s with mem := (s.markDesc a b).mem, dirty := (s.markDesc a b).dirty,
                              ioTrace := (s.markDesc a b).ioTrace, fresh := (s.markDesc a b).fresh } := by
  unfold State.markDesc; rw [State.store_eq, State.noteRead_eq]

/-- Marking a descriptor that RAM and ROM hold stores the eight bytes. -/
theorem State.markDesc_quiet {s : State} {a : DWord} (h : s.quiet a 8 = true) (b : Byte) :
    s.markDesc a b = s.store a 8 (s.descAt a ||| b.setWidth 64 <<< 40).toNat := by
  unfold State.markDesc; rw [State.noteRead_quiet h]

/-- Marking a descriptor accessed reads and writes memory, and nothing else. -/
theorem State.setAccessed_eq (s : State) (a : DWord) :
    s.setAccessed a = { s with mem := (s.setAccessed a).mem, dirty := (s.setAccessed a).dirty,
                               ioTrace := (s.setAccessed a).ioTrace, fresh := (s.setAccessed a).fresh } := by
  unfold State.setAccessed; split
  · rfl
  · exact State.markDesc_eq s _ _

@[simp] theorem State.setAccessed_gpr (s : State) (a : DWord) : (s.setAccessed a).gpr = s.gpr := by
  rw [State.setAccessed_eq]
@[simp] theorem State.setAccessed_eip (s : State) (a : DWord) : (s.setAccessed a).eip = s.eip := by
  rw [State.setAccessed_eq]
@[simp] theorem State.setAccessed_nextEip (s : State) (a : DWord) : (s.setAccessed a).nextEip = s.nextEip := by
  rw [State.setAccessed_eq]
@[simp] theorem State.setAccessed_flags (s : State) (a : DWord) : (s.setAccessed a).flags = s.flags := by
  rw [State.setAccessed_eq]
@[simp] theorem State.setAccessed_cpl (s : State) (a : DWord) : (s.setAccessed a).cpl = s.cpl := by
  rw [State.setAccessed_eq]
@[simp] theorem State.setAccessed_seg (s : State) (a : DWord) : (s.setAccessed a).seg = s.seg := by
  rw [State.setAccessed_eq]
@[simp] theorem State.setAccessed_ldtr (s : State) (a : DWord) : (s.setAccessed a).ldtr = s.ldtr := by
  rw [State.setAccessed_eq]
@[simp] theorem State.setAccessed_tr (s : State) (a : DWord) : (s.setAccessed a).tr = s.tr := by
  rw [State.setAccessed_eq]
@[simp] theorem State.setAccessed_gdtr (s : State) (a : DWord) : (s.setAccessed a).gdtr = s.gdtr := by
  rw [State.setAccessed_eq]
@[simp] theorem State.setAccessed_idtr (s : State) (a : DWord) : (s.setAccessed a).idtr = s.idtr := by
  rw [State.setAccessed_eq]
@[simp] theorem State.setAccessed_cr0 (s : State) (a : DWord) : (s.setAccessed a).cr0 = s.cr0 := by
  rw [State.setAccessed_eq]
@[simp] theorem State.setAccessed_cr2 (s : State) (a : DWord) : (s.setAccessed a).cr2 = s.cr2 := by
  rw [State.setAccessed_eq]
@[simp] theorem State.setAccessed_cr3 (s : State) (a : DWord) : (s.setAccessed a).cr3 = s.cr3 := by
  rw [State.setAccessed_eq]
@[simp] theorem State.setAccessed_cr4 (s : State) (a : DWord) : (s.setAccessed a).cr4 = s.cr4 := by
  rw [State.setAccessed_eq]
@[simp] theorem State.setAccessed_pdptr (s : State) (a : DWord) : (s.setAccessed a).pdptr = s.pdptr := by
  rw [State.setAccessed_eq]
@[simp] theorem State.setAccessed_dr (s : State) (a : DWord) : (s.setAccessed a).dr = s.dr := by
  rw [State.setAccessed_eq]
@[simp] theorem State.setAccessed_tsc (s : State) (a : DWord) : (s.setAccessed a).tsc = s.tsc := by
  rw [State.setAccessed_eq]
@[simp] theorem State.setAccessed_pmc0 (s : State) (a : DWord) : (s.setAccessed a).pmc0 = s.pmc0 := by
  rw [State.setAccessed_eq]
@[simp] theorem State.setAccessed_pmc1 (s : State) (a : DWord) : (s.setAccessed a).pmc1 = s.pmc1 := by
  rw [State.setAccessed_eq]
@[simp] theorem State.setAccessed_msrs (s : State) (a : DWord) : (s.setAccessed a).msrs = s.msrs := by
  rw [State.setAccessed_eq]
@[simp] theorem State.setAccessed_fpu (s : State) (a : DWord) : (s.setAccessed a).fpu = s.fpu := by
  rw [State.setAccessed_eq]
@[simp] theorem State.setAccessed_inhibit (s : State) (a : DWord) : (s.setAccessed a).inhibit = s.inhibit := by
  rw [State.setAccessed_eq]
@[simp] theorem State.setAccessed_halted (s : State) (a : DWord) : (s.setAccessed a).halted = s.halted := by
  rw [State.setAccessed_eq]
@[simp] theorem State.setAccessed_shutdown (s : State) (a : DWord) : (s.setAccessed a).shutdown = s.shutdown := by
  rw [State.setAccessed_eq]
@[simp] theorem State.setAccessed_trapOwed (s : State) (a : DWord) : (s.setAccessed a).trapOwed = s.trapOwed := by
  rw [State.setAccessed_eq]
@[simp] theorem State.setAccessed_host (s : State) (a : DWord) : (s.setAccessed a).host = s.host := by
  rw [State.setAccessed_eq]
/-- The mark makes no event where the descriptor is in RAM or ROM. -/
theorem State.setAccessed_ioTrace {s : State} {a : DWord} (h : s.quiet a 8 = true) :
    (s.setAccessed a).ioTrace = s.ioTrace := by
  unfold State.setAccessed; split
  · rfl
  · rw [State.markDesc_quiet h]
    refine State.store_ioTrace_quiet ?_
    simp only [State.quiet, Bool.and_eq_true, Bool.not_eq_true'] at h
    exact h.1
@[simp] theorem State.setAccessed_pfx (s : State) (a : DWord) : (s.setAccessed a).pfx = s.pfx := by
  rw [State.setAccessed_eq]
@[simp] theorem State.setAccessed_repFlags (s : State) (a : DWord) : (s.setAccessed a).repFlags = s.repFlags := by
  rw [State.setAccessed_eq]
@[simp] theorem State.setAccessed_repCode (s : State) (a : DWord) : (s.setAccessed a).repCode = s.repCode := by
  rw [State.setAccessed_eq]
/-- The mark draws no free value where the descriptor is in RAM or ROM. -/
theorem State.setAccessed_fresh {s : State} {a : DWord} (h : s.quiet a 8 = true) : (s.setAccessed a).fresh = s.fresh := by
  unfold State.setAccessed; split
  · rfl
  · rw [State.markDesc_quiet h, State.store_eq]

/-! ## The passing of time -/

/-- When no event is due at the boundary. -/
theorem boundary_eq_none (s : State) : boundary s = none ↔
    s.host.reset = false ∧ s.host.init = false ∧ s.shutdown = false ∧ s.trapOwed = false ∧
    (s.host.nmi && s.inhibit != .ss) = false ∧ (s.host.intr = none ∨ s.intrOpen = false) ∧ s.halted = false := by
  unfold boundary
  cases s.host.reset <;> cases s.host.init <;> cases s.shutdown <;> cases s.trapOwed <;>
    cases (s.host.nmi && s.inhibit != .ss) <;> cases s.host.intr <;> cases s.intrOpen <;> cases s.halted <;> simp

/-- No event depends on the time-stamp counter. -/
theorem boundary_ticked (s : State) : boundary s.ticked = none ↔ boundary s = none := by
  rw [boundary_eq_none, boundary_eq_none]; rfl

/-- What memory and the devices hold does not change as time passes. -/
theorem State.ticked_byteAt {s : State} {a : DWord} (h : s.kindAt (s.phys a) ≠ .nothing) :
    s.ticked.byteAt a = s.byteAt a := by
  have h' : s.ticked.kindAt (s.ticked.phys a) ≠ .nothing := h
  rw [State.byteAt, State.byteAt, if_neg h, if_neg h']; rfl

@[simp] theorem State.ticked_touches (s : State) (k : RegionKind) (a : DWord) (n : Nat) :
    s.ticked.touches k a n = s.touches k a n :=
  State.touches_congr (s := s) (t := s.ticked) rfl rfl k a n

@[simp] theorem State.ticked_quiet (s : State) (a : DWord) (n : Nat) : s.ticked.quiet a n = s.quiet a n := by
  simp only [State.quiet, State.ticked_touches]

/-! ## Registers -/

/-- What a write to a whole register reads as, and that no other register changes. -/
theorem Gprs.get_set (g : Gprs) (r q : Reg) (v : DWord) : (g.set r v).get q = if q = r then v else g.get q := by
  have : ∀ r q : Reg, (g.set r v).get q = if q = r then v else g.get q := by
    intro r q
    match r, q with
    | 0#3, 0#3 | 0#3, 1#3 | 0#3, 2#3 | 0#3, 3#3 | 0#3, 4#3 | 0#3, 5#3 | 0#3, 6#3 | 0#3, 7#3
    | 1#3, 0#3 | 1#3, 1#3 | 1#3, 2#3 | 1#3, 3#3 | 1#3, 4#3 | 1#3, 5#3 | 1#3, 6#3 | 1#3, 7#3
    | 2#3, 0#3 | 2#3, 1#3 | 2#3, 2#3 | 2#3, 3#3 | 2#3, 4#3 | 2#3, 5#3 | 2#3, 6#3 | 2#3, 7#3
    | 3#3, 0#3 | 3#3, 1#3 | 3#3, 2#3 | 3#3, 3#3 | 3#3, 4#3 | 3#3, 5#3 | 3#3, 6#3 | 3#3, 7#3
    | 4#3, 0#3 | 4#3, 1#3 | 4#3, 2#3 | 4#3, 3#3 | 4#3, 4#3 | 4#3, 5#3 | 4#3, 6#3 | 4#3, 7#3
    | 5#3, 0#3 | 5#3, 1#3 | 5#3, 2#3 | 5#3, 3#3 | 5#3, 4#3 | 5#3, 5#3 | 5#3, 6#3 | 5#3, 7#3
    | 6#3, 0#3 | 6#3, 1#3 | 6#3, 2#3 | 6#3, 3#3 | 6#3, 4#3 | 6#3, 5#3 | 6#3, 6#3 | 6#3, 7#3
    | 7#3, 0#3 | 7#3, 1#3 | 7#3, 2#3 | 7#3, 3#3 | 7#3, 4#3 | 7#3, 5#3 | 7#3, 6#3 | 7#3, 7#3 => rfl
  exact this r q

end Sys2Proof.Machine
end

