-- ==== Sys2Proof/Laws/Run.lean ====
section
/-! SUPPORT. How a meaning runs: each primitive of the monad `M` as an equation on the state it is applied to, so that a
proof computes a meaning with `simp` and unfolds neither the monad nor a shared operation. -/

namespace Sys2Proof.Machine

/-! ## The monad -/

theorem M.bind_apply {α β : Type} (x : M α) (f : α → M β) (s : State) :
    (x >>= f) s = match x s with
      | .ok p => f p.1 p.2
      | .error e => .error e := by
  show Except.bind (x s) _ = _
  cases x s <;> rfl

@[simp] theorem M.bind_ok {α β : Type} {x : M α} {f : α → M β} {s t : State} {a : α} (h : x s = .ok (a, t)) :
    (x >>= f) s = f a t := by rw [M.bind_apply, h]

@[simp] theorem M.bind_error {α β : Type} {x : M α} {f : α → M β} {s : State} {e : Stop} (h : x s = .error e) :
    (x >>= f) s = .error e := by rw [M.bind_apply, h]

@[simp] theorem M.pure_apply {α : Type} (a : α) (s : State) : (pure a : M α) s = .ok (a, s) := rfl
@[simp] theorem M.get_apply (s : State) : (get : M State) s = .ok (s, s) := rfl
@[simp] theorem M.set_apply (t s : State) : (set t : M PUnit) s = .ok (⟨⟩, t) := rfl
@[simp] theorem M.modify_apply (f : State → State) (s : State) : (modify f : M PUnit) s = .ok (⟨⟩, f s) := rfl
@[simp] theorem M.throw_apply {α : Type} (e : Stop) (s : State) : (throw e : M α) s = .error e := rfl

theorem M.ite_apply {α : Type} {c : Prop} [Decidable c] (x y : M α) (s : State) :
    (if c then x else y) s = if c then x s else y s := by split <;> rfl

/-! ## Checks -/

@[simp] theorem check_none (s : State) : check none s = .ok ((), s) := rfl
@[simp] theorem check_some (e : Stop) (s : State) : check (some e) s = .error e := rfl
@[simp] theorem stopIf_false (e : Stop) (s : State) : stopIf false e s = .ok ((), s) := rfl
@[simp] theorem stopIf_true (e : Stop) (s : State) : stopIf true e s = .error e := rfl

/-- A check stops with its reason or changes nothing. -/
theorem check_apply (o : Option Stop) (s : State) :
    check o s = match o with
      | none => .ok ((), s)
      | some e => .error e := by cases o <;> rfl

theorem stopIf_apply (b : Bool) (e : Stop) (s : State) :
    stopIf b e s = if b then .error e else .ok ((), s) := by cases b <;> rfl

/-! ## Free values, registers and flags -/

@[simp] theorem freeBits_apply (w : Nat) (s : State) :
    freeBits w s = .ok (Config.freeBits w s.fresh, { s with fresh := s.fresh + 1 }) := rfl

@[simp] theorem freeBit_apply (s : State) :
    freeBit s = .ok ((Config.freeBits 1 s.fresh).getLsbD 0, { s with fresh := s.fresh + 1 }) := rfl

@[simp] theorem getReg_apply (w : Nat) (r : Reg) (s : State) : getReg w r s = .ok (s.gpr.read w r, s) := rfl

@[simp] theorem setReg_apply (w : Nat) (r : Reg) (v : BitVec w) (s : State) :
    setReg w r v s = .ok ((), { s with gpr := s.gpr.write w r v }) := rfl

@[simp] theorem setFlags_apply (f : Flags → Flags) (s : State) :
    setFlags f s = .ok ((), { s with flags := f s.flags }) := rfl

@[simp] theorem advance_apply (s : State) : advance s = .ok ((), { s with eip := s.nextEip }) := rfl

@[simp] theorem needCpl0_apply (s : State) : needCpl0 s = stopIf (!s.privileged) (excGP 0#16) s := rfl

/-! ## Memory and the stack -/

/-- A read of memory answers the bytes and does what a read does besides, or stops with the fault of its checks. -/
theorem memRead_apply (l : Loc) (n al : Nat) (s : State) :
    memRead l n al s = match readFault s l n al with
      | none => .ok (s.readLin (s.linear l) n, s.noteRead (s.linear l) n)
      | some e => .error e := by
  unfold memRead; rw [M.bind_apply, M.get_apply]; simp only []
  rw [M.bind_apply, check_apply]; cases readFault s l n al <;> rfl

/-- A write of memory stores the bytes at the linear address of its place, or stops with the fault of its checks. -/
theorem memWrite_apply (l : Loc) (n al v : Nat) (s : State) :
    memWrite l n al v s = match writeFault s l n al with
      | none => .ok ((), s.store (s.linear l) n v)
      | some e => .error e := by
  unfold memWrite; rw [M.bind_apply, M.get_apply]; simp only []
  rw [M.bind_apply, check_apply]; cases writeFault s l n al <;> rfl

theorem memProbe_apply (l : Loc) (n al : Nat) (s : State) :
    memProbe l n al s = match writeFault s l n al with
      | none => .ok ((), s)
      | some e => .error e := by
  unfold memProbe; rw [M.bind_apply, M.get_apply]; simp only []
  rw [check_apply]

/-- A read of RAM and ROM changes nothing. -/
@[simp] theorem memRead_ok {l : Loc} {n al : Nat} {s : State} (h : readFault s l n al = none)
    (hq : s.quiet (s.linear l) n = true) : memRead l n al s = .ok (s.readLin (s.linear l) n, s) := by
  rw [memRead_apply, h]; simp only []; rw [State.noteRead_quiet hq]

@[simp] theorem memWrite_ok {l : Loc} {n al v : Nat} {s : State} (h : writeFault s l n al = none) :
    memWrite l n al v s = .ok ((), s.store (s.linear l) n v) := by rw [memWrite_apply, h]

/-- A floating-point store stores all its bytes, or stops, where the first part may be stored. -/
theorem memWriteSplit_apply (l : Loc) (n al v : Nat) (s : State) :
    memWriteSplit l n al v s = match writeFault s l n al with
      | none => .ok ((), s.store (s.linear l) n v)
      | some e => .error (s.splitStop l n v s.fresh e) := by
  unfold memWriteSplit; rw [M.bind_apply, M.get_apply]; simp only []
  rw [M.bind_apply, check_apply]; cases writeFault s l n al <;> rfl

@[simp] theorem memWriteSplit_ok {l : Loc} {n al v : Nat} {s : State} (h : writeFault s l n al = none) :
    memWriteSplit l n al v s = .ok ((), s.store (s.linear l) n v) := by rw [memWriteSplit_apply, h]

@[simp] theorem memProbe_ok {l : Loc} {n al : Nat} {s : State} (h : writeFault s l n al = none) :
    memProbe l n al s = .ok ((), s) := by rw [memProbe_apply, h]

@[simp] theorem readLoc_ok {w : Nat} {l : Loc} {s : State} (h : readFault s l (bytesOf w) (bytesOf w) = none)
    (hq : s.quiet (s.linear l) (bytesOf w) = true) :
    readLoc w l s = .ok (BitVec.ofNat w (s.readLin (s.linear l) (bytesOf w)), s) := by
  unfold readLoc; rw [M.bind_ok (memRead_ok h hq)]; rfl

@[simp] theorem writeLoc_ok {w : Nat} {l : Loc} {v : BitVec w} {s : State}
    (h : writeFault s l (bytesOf w) (bytesOf w) = none) :
    writeLoc w l v s = .ok ((), s.store (s.linear l) (bytesOf w) v.toNat) := by
  unfold writeLoc; exact memWrite_ok h

/-- A push stores its item below the top of the stack and moves the stack pointer to it, or stops with the fault of the
write. -/
theorem pushAl_apply (n al v : Nat) (s : State) :
    pushAl n al v s = match writeFault s (s.pushLoc n) n al with
      | none => .ok ((), (s.store (s.linear (s.pushLoc n)) n v).setStackTop (s.pushLoc n).off)
      | some e => .error e := by
  unfold pushAl; rw [M.bind_apply, M.get_apply]; simp only []
  rw [M.bind_apply, check_apply]; cases writeFault s (s.pushLoc n) n al <;> rfl

/-- A pop answers the item at the top of the stack and moves the stack pointer past it, or stops with the fault of the
read. -/
theorem popAl_apply (n al : Nat) (s : State) :
    popAl n al s = match readFault s (s.stackLoc 0#32) n al with
      | none => .ok (s.readLin (s.linear (s.stackLoc 0#32)) n,
          (s.noteRead (s.linear (s.stackLoc 0#32)) n).setStackTop (s.stackLoc (BitVec.ofNat 32 n)).off)
      | some e => .error e := by
  unfold popAl; rw [M.bind_apply, M.get_apply]; simp only []
  rw [M.bind_apply, check_apply]; cases readFault s (s.stackLoc 0#32) n al <;> rfl

@[simp] theorem pushAl_ok {n al v : Nat} {s : State} (h : writeFault s (s.pushLoc n) n al = none) :
    pushAl n al v s = .ok ((), (s.store (s.linear (s.pushLoc n)) n v).setStackTop (s.pushLoc n).off) := by
  rw [pushAl_apply, h]

@[simp] theorem popAl_ok {n al : Nat} {s : State} (h : readFault s (s.stackLoc 0#32) n al = none)
    (hq : s.quiet (s.linear (s.stackLoc 0#32)) n = true) :
    popAl n al s =
      .ok (s.readLin (s.linear (s.stackLoc 0#32)) n, s.setStackTop (s.stackLoc (BitVec.ofNat 32 n)).off) := by
  rw [popAl_apply, h]; simp only []; rw [State.noteRead_quiet hq]

/-- A read by the processor itself answers the bytes and does what a read does besides. -/
@[simp] theorem sysRead_apply (a : DWord) (n : Nat) (s : State) :
    sysRead a n s = .ok (s.readLin a n, s.noteRead a n) := rfl

/-- In RAM and ROM it changes nothing. -/
theorem sysRead_ok {a : DWord} {n : Nat} {s : State} (hq : s.quiet a n = true) :
    sysRead a n s = .ok (s.readLin a n, s) := by rw [sysRead_apply, State.noteRead_quiet hq]

/-- The two reads of an operand of two parts, or the fault of their one check. -/
theorem memReadPair_apply (l : Loc) (n m al : Nat) (s : State) :
    memReadPair l n m al s = match readFault s l (n + m) al with
      | none =>
        let t := s.noteRead (s.linear l) n
        .ok ((s.readLin (s.linear l) n, t.readLin (s.linear l + BitVec.ofNat 32 n) m),
          t.noteRead (s.linear l + BitVec.ofNat 32 n) m)
      | some e => .error e := by
  unfold memReadPair; rw [M.bind_apply, M.get_apply]; simp only []
  rw [M.bind_apply, check_apply]; cases readFault s l (n + m) al <;> rfl

/-- In RAM and ROM they change nothing. -/
@[simp] theorem memReadPair_ok {l : Loc} {n m al : Nat} {s : State} (h : readFault s l (n + m) al = none)
    (hq : s.quiet (s.linear l) (n + m) = true) : memReadPair l n m al s =
      .ok ((s.readLin (s.linear l) n, s.readLin (s.linear l + BitVec.ofNat 32 n) m), s) := by
  have hn : s.quiet (s.linear l) n = true := by simpa using State.quiet_part hq (d := 0) (m := n) (by omega)
  have hm := State.quiet_part hq (d := n) (m := m) (by omega)
  rw [memReadPair_apply, h]; simp only [State.noteRead_quiet hn, State.noteRead_quiet hm]

/-- An item passed over moves the stack pointer, or stops with the fault of its check. -/
theorem skipItem_apply (n al : Nat) (s : State) :
    skipItem n al s = match readFault s (s.stackLoc 0#32) n al with
      | none => .ok ((), s.setStackTop (s.stackLoc (BitVec.ofNat 32 n)).off)
      | some e => .error e := by
  unfold skipItem; rw [M.bind_apply, M.get_apply]; simp only []
  rw [M.bind_apply, check_apply]; cases readFault s (s.stackLoc 0#32) n al <;> rfl

@[simp] theorem skipItem_ok {n al : Nat} {s : State} (h : readFault s (s.stackLoc 0#32) n al = none) :
    skipItem n al s = .ok ((), s.setStackTop (s.stackLoc (BitVec.ofNat 32 n)).off) := by rw [skipItem_apply, h]

@[simp] theorem push_ok {n v : Nat} {s : State} (h : writeFault s (s.pushLoc n) n n = none) :
    push n v s = .ok ((), (s.store (s.linear (s.pushLoc n)) n v).setStackTop (s.pushLoc n).off) := pushAl_ok h

@[simp] theorem pop_ok {n : Nat} {s : State} (h : readFault s (s.stackLoc 0#32) n n = none)
    (hq : s.quiet (s.linear (s.stackLoc 0#32)) n = true) :
    pop n s = .ok (s.readLin (s.linear (s.stackLoc 0#32)) n, s.setStackTop (s.stackLoc (BitVec.ofNat 32 n)).off) :=
  popAl_ok h hq

@[simp] theorem pushRaw_apply (n v : Nat) (s : State) :
    pushRaw n v s = .ok ((), (s.store (s.linear (s.pushLoc n)) n v).setStackTop (s.pushLoc n).off) := rfl

/-! ## Block checks and loads of CS and SS -/

@[simp] theorem needTop_apply (d n : Nat) (s : State) :
    needTop d n s = stopIf (!s.topIn d n) (excSS 0#16) s := rfl

@[simp] theorem switchStack_apply (sel : Word) (a : DWord) (d : QWord) (esp : DWord) (s : State) :
    switchStack sel a d esp s = .ok ((), s.switchStack sel a d esp) := rfl

@[simp] theorem enterCode_apply (sel : Word) (a : DWord) (d : QWord) (l : BitVec 2) (eip : DWord) (s : State) :
    enterCode sel a d l eip s = .ok ((), s.enterCode sel a d l eip) := rfl

/-! ## How an instruction ends -/

/-- An instruction that sets EIP itself, when its meaning completes. -/
theorem runJump_ok {body : M Unit} {s t : State} (h : body { s with inhibit := .none } = .ok ((), t)) :
    runJump body s = .next (s.completed t) := by unfold runJump; rw [h]

/-- An instruction whose meaning stops. -/
theorem runJump_error {body : M Unit} {s : State} {e : Stop} (h : body { s with inhibit := .none } = .error e) :
    runJump body s = stopped s e := by unfold runJump; rw [h]

/-- An instruction that goes on with the next one, when its meaning completes. -/
theorem runSeq_ok {body : M Unit} {s t : State} (h : body { s with inhibit := .none } = .ok ((), t)) :
    runSeq body s = .next (s.completed { t with eip := t.nextEip }) :=
  runJump_ok (by rw [M.bind_ok h]; rfl)

/-- An instruction that would go on with the next one, when its meaning stops. -/
theorem runSeq_error {body : M Unit} {s : State} {e : Stop} (h : body { s with inhibit := .none } = .error e) :
    runSeq body s = stopped s e :=
  runJump_error (by rw [M.bind_error h])

/-! ## The window of the instruction before does not matter to the checks of an access -/

@[simp] theorem readFault_inhibit (s : State) (i : Inhibit) (l : Loc) (n al : Nat) :
    readFault { s with inhibit := i } l n al = readFault s l n al := rfl

@[simp] theorem State.quiet_inhibit (s : State) (i : Inhibit) (a : DWord) (n : Nat) :
    State.quiet { s with inhibit := i } a n = s.quiet a n := by
  unfold State.quiet
  rw [State.touches_congr (s := s) (t := { s with inhibit := i }) rfl rfl,
    State.touches_congr (s := s) (t := { s with inhibit := i }) rfl rfl]

@[simp] theorem writeFault_inhibit (s : State) (i : Inhibit) (l : Loc) (n al : Nat) :
    writeFault { s with inhibit := i } l n al = writeFault s l n al := rfl

/-- What may be written may be read (20_memory.md R130, R131). -/
theorem readFault_of_writeFault {s : State} {l : Loc} {n al : Nat} (h : writeFault s l n al = none) :
    readFault s l n al = none := by
  unfold writeFault at h; unfold readFault
  split at h
  · cases h
  · rename_i hp
    rw [if_neg]
    · exact h
    · intro hq; apply hp
      simp only [Bool.and_eq_true, Bool.or_eq_true, Bool.not_eq_true', Seg.isReadableCode, Seg.isCode,
        Seg.isWritableData, Seg.isData] at hq ⊢
      refine ⟨hq.1, ?_⟩
      rcases hq.2 with hv | hc
      · exact .inl (.inl hv)
      · right
        rcases hc with ⟨⟨_, ht⟩, _⟩
        rw [ht]; simp

end Sys2Proof.Machine
end

