-- ==== Sys2Proof/Laws/Descriptors.lean ====
section
/-! SUPPORT. What the far transfers ask of a selector and a descriptor, as bits of the descriptor: the words of
`Safety.FarFaults`, `GateFaults`, `ReturnFaults` and `OuterFaults`. -/

namespace Sys2Proof.Machine

/-- An error code without EXT. -/
theorem selCode_false (sel : Word) : selCode sel false = codeOf sel := by simp [selCode, codeOf]

theorem segOfDesc_dpl (sel : Word) (d : QWord) : (segOfDesc sel d).dpl = descDpl d := rfl

theorem segOfDesc_p (sel : Word) (d : QWord) : (segOfDesc sel d).p = d.getLsbD 47 := rfl

theorem segOfDesc_isCode (sel : Word) (d : QWord) : (segOfDesc sel d).isCode = (d.getLsbD 44 && d.getLsbD 43) := by
  simp [Seg.isCode, segOfDesc, descS, descType]

theorem segOfDesc_isConforming (sel : Word) (d : QWord) :
    (segOfDesc sel d).isConforming = (d.getLsbD 44 && d.getLsbD 43 && d.getLsbD 42) := by
  rw [Seg.isConforming, segOfDesc_isCode]; simp [segOfDesc, descType]

theorem segOfDesc_isWritableData (sel : Word) (d : QWord) :
    (segOfDesc sel d).isWritableData = (d.getLsbD 44 && !d.getLsbD 43 && d.getLsbD 41) := by
  simp [Seg.isWritableData, Seg.isData, segOfDesc, descS, descType]

/-- `codeSegment`, as the meanings ask it. -/
theorem codeSegment_iff (sel : Word) (d : QWord) : codeSegment d ↔ (segOfDesc sel d).isCode = true := by
  rw [segOfDesc_isCode, codeSegment, Bool.and_eq_true]

/-- `mayWrite`, as the meanings ask it. -/
theorem mayWrite_iff (sel : Word) (d : QWord) : mayWrite d ↔ (segOfDesc sel d).isWritableData = true := by
  simp [segOfDesc_isWritableData, mayWrite, and_assoc]

/-- All that the first step of a far JMP or CALL can do: a null selector is #GP(0), one outside its table #GP(selector), and
another gives its descriptor, whose reading is noted (R392, R407). -/
theorem farDesc_apply (sel : Word) (s : State) : farDesc sel s =
    if selNull sel then .error (excGP 0#16)
    else match s.descAddr sel with
      | none => .error (excGP (codeOf sel))
      | some a => .ok ((a, s.descAt a), s.noteRead a 8) := by
  unfold farDesc
  rw [M.bind_apply, M.get_apply]; simp only []
  rw [M.bind_apply, stopIf_apply]
  cases selNull sel <;> simp
  split <;> simp_all [selCode_false]
  rfl

end Sys2Proof.Machine
end

