-- ==== Sys2Proof/Laws/Operands.lean ====
section
/-! SUPPORT. One equation for each shared operation on an r/m operand: register forms always complete, memory forms
complete where their checks pass. -/

namespace Sys2Proof.Machine

@[simp] theorem readRM_reg (w : Nat) (r : Reg) (s : State) : readRM w (.reg r) s = .ok (s.gpr.read w r, s) := rfl

theorem readRM_mem (w : Nat) (e : Ea) (s : State) : readRM w (.mem e) s = readLoc w (s.eaLoc e) s := rfl

@[simp] theorem readRM_mem_ok {w : Nat} {e : Ea} {s : State}
    (h : readFault s (s.eaLoc e) (bytesOf w) (bytesOf w) = none)
    (hq : s.quiet (s.linear (s.eaLoc e)) (bytesOf w) = true) :
    readRM w (.mem e) s = .ok (BitVec.ofNat w (s.readLin (s.linear (s.eaLoc e)) (bytesOf w)), s) := by
  rw [readRM_mem]; exact readLoc_ok h hq

@[simp] theorem writeRM_reg (w : Nat) (r : Reg) (v : BitVec w) (s : State) :
    writeRM w (.reg r) v s = .ok ((), { s with gpr := s.gpr.write w r v }) := rfl

theorem writeRM_mem (w : Nat) (e : Ea) (v : BitVec w) (s : State) :
    writeRM w (.mem e) v s = writeLoc w (s.eaLoc e) v s := rfl

@[simp] theorem writeRM_mem_ok {w : Nat} {e : Ea} {v : BitVec w} {s : State}
    (h : writeFault s (s.eaLoc e) (bytesOf w) (bytesOf w) = none) :
    writeRM w (.mem e) v s = .ok ((), s.store (s.linear (s.eaLoc e)) (bytesOf w) v.toNat) := by
  rw [writeRM_mem]; exact writeLoc_ok h

/-- A read-modify-write of a place: the computation runs on the value read, and its answer is stored. -/
theorem updateLoc_ok {w : Nat} {l : Loc} {f : BitVec w → M (BitVec w)} {s t : State} {v : BitVec w}
    (h : writeFault s l (bytesOf w) (bytesOf w) = none) (hq : s.quiet (s.linear l) (bytesOf w) = true)
    (hf : f (BitVec.ofNat w (s.readLin (s.linear l) (bytesOf w))) s = .ok (v, t))
    (ht : writeFault t l (bytesOf w) (bytesOf w) = none) :
    updateLoc w l f s = .ok ((), t.store (t.linear l) (bytesOf w) v.toNat) := by
  unfold updateLoc
  rw [M.bind_ok (memProbe_ok h)]
  rw [M.bind_ok (readLoc_ok (readFault_of_writeFault h) hq), M.bind_ok hf]
  exact writeLoc_ok ht

/-- A read-modify-write of a register. -/
theorem updateRM_reg {w : Nat} {r : Reg} {f : BitVec w → M (BitVec w)} {s t : State} {v : BitVec w}
    (hf : f (s.gpr.read w r) s = .ok (v, t)) :
    updateRM w (.reg r) f s = .ok ((), { t with gpr := t.gpr.write w r v }) := by
  show ((getReg w r) >>= fun v => f v >>= fun v' => setReg w r v') s = _
  rw [M.bind_ok (getReg_apply w r s), M.bind_ok hf, setReg_apply]

/-- A read-modify-write of memory. -/
theorem updateRM_mem {w : Nat} {e : Ea} {f : BitVec w → M (BitVec w)} {s t : State} {v : BitVec w}
    (h : writeFault s (s.eaLoc e) (bytesOf w) (bytesOf w) = none)
    (hq : s.quiet (s.linear (s.eaLoc e)) (bytesOf w) = true)
    (hf : f (BitVec.ofNat w (s.readLin (s.linear (s.eaLoc e)) (bytesOf w))) s = .ok (v, t))
    (ht : writeFault t (s.eaLoc e) (bytesOf w) (bytesOf w) = none) :
    updateRM w (.mem e) f s = .ok ((), t.store (t.linear (s.eaLoc e)) (bytesOf w) v.toNat) := by
  show ((get : M State) >>= fun s => updateLoc w (s.eaLoc e) f) s = _
  rw [M.bind_ok (M.get_apply s)]
  exact updateLoc_ok h hq hf ht

end Sys2Proof.Machine
end

