-- ==== Sys2Proof/Laws/Forms.lean ====
section
/-! SUPPORT. One lemma for each operand form of the integer instructions: from what the operation does to the values, to
what the instruction does to the machine. -/

namespace Sys2Proof.Machine

/-- The state without the window of the instruction before. -/
def State.noWindow (s : State) : State := { s with inhibit := .none }

/-- The bytes that an address reads as do not hang on the window of the instruction before. -/
theorem State.readLin_noWindow (s : State) (a : DWord) (n : Nat) : s.noWindow.readLin a n = s.readLin a n := by
  induction n generalizing a with
  | zero => rfl
  | succ n ih => simp only [State.readLin, ih]; rfl

@[simp] theorem State.rmVal_noWindow (s : State) (w : Nat) (rm : RM) : s.noWindow.rmVal w rm = s.rmVal w rm := by
  cases rm with
  | reg r => rfl
  | mem e => exact congrArg (BitVec.ofNat w) (State.readLin_noWindow s _ _)

/-- A write of an r/m operand passes updates of the flags, the count of free values and the window. -/
theorem State.putRM_with (s : State) (w : Nat) (rm : RM) (v : BitVec w) (f : Flags) (n : Nat) (x : Inhibit) :
    State.putRM { s with flags := f, fresh := n, inhibit := x } w rm v =
      { s.putRM w rm v with flags := f, fresh := n, inhibit := x } := by
  cases rm with
  | reg r => rfl
  | mem e =>
    show State.store { s with flags := f, fresh := n, inhibit := x } _ _ _ = _
    rw [show ({ s with flags := f, fresh := n, inhibit := x } : State) =
      { { { s with flags := f } with fresh := n } with inhibit := x } from rfl,
      State.store_with_inhibit, State.store_with_fresh, State.store_with_flags]
    rfl

theorem State.putRM_noWindow (s : State) (w : Nat) (rm : RM) (v : BitVec w) :
    s.noWindow.putRM w rm v = (s.putRM w rm v).noWindow := by
  cases rm with
  | reg r => rfl
  | mem e => exact State.store_with_inhibit s .none _ _ _

@[simp] theorem State.putRM_nextEip (s : State) (w : Nat) (rm : RM) (v : BitVec w) :
    (s.putRM w rm v).nextEip = s.nextEip := by cases rm <;> simp [State.putRM]

@[simp] theorem State.putRM_inhibit (s : State) (w : Nat) (rm : RM) (v : BitVec w) :
    (s.putRM w rm v).inhibit = s.inhibit := by cases rm <;> simp [State.putRM]

/-- The frame of a write to an r/m operand. -/
theorem onlyRM_putRM (s : State) (w : Nat) (rm : RM) (v : BitVec w) (f : Flags) (n : Nat) :
    OnlyRM s (s.finish { s.putRM w rm v with flags := f, fresh := n }) w rm := by
  cases rm with
  | reg r => rfl
  | mem e => exact fun h b hb => State.store_read_outside h hb

/-- An r/m operand that can be read is read. -/
theorem readRM_ok {s : State} {w : Nat} {rm : RM} (h : s.canRead w rm) : readRM w rm s = .ok (s.rmVal w rm, s) := by
  cases rm with
  | reg r => rfl
  | mem e => exact readRM_mem_ok h.1 h.2

/-- An r/m operand that can be stored to is written. -/
theorem writeRM_ok {s : State} {w : Nat} {rm : RM} {v : BitVec w} (h : s.canStore w rm) :
    writeRM w rm v s = .ok ((), s.putRM w rm v) := by
  cases rm with
  | reg r => rfl
  | mem e => exact writeRM_mem_ok h

/-- What can be written can be read. -/
theorem State.canRead_of_canWrite {s : State} {w : Nat} {rm : RM} (h : s.canWrite w rm) : s.canRead w rm := by
  cases rm with
  | reg r => trivial
  | mem e => exact ⟨readFault_of_writeFault h.1, h.2⟩

/-- What can be read and then written can be stored to. -/
theorem State.canStore_of_canWrite {s : State} {w : Nat} {rm : RM} (h : s.canWrite w rm) : s.canStore w rm := by
  cases rm with
  | reg r => trivial
  | mem e => exact h.1

/-- The window of the instruction before does not matter to whether an operand can be read. -/
theorem State.canRead_noWindow {s : State} {w : Nat} {rm : RM} (h : s.canRead w rm) : s.noWindow.canRead w rm := by
  cases rm with
  | reg r => trivial
  | mem e => exact ⟨h.1, (State.quiet_inhibit s .none _ _).trans h.2⟩

/-- Nor to whether it can be read and then written. -/
theorem State.canWrite_noWindow {s : State} {w : Nat} {rm : RM} (h : s.canWrite w rm) : s.noWindow.canWrite w rm := by
  cases rm with
  | reg r => trivial
  | mem e => exact ⟨h.1, (State.quiet_inhibit s .none _ _).trans h.2⟩

/-- A read-modify-write of a place whose operation changes only the flags and the count of free values. -/
theorem updateLoc_flags {s : State} {w : Nat} {l : Loc} {op : BitVec w → M (BitVec w)} {v : BitVec w} {f : Flags}
    {n : Nat} (h : s.updates l (bytesOf w) (bytesOf w))
    (ho : op (BitVec.ofNat w (s.readLin (s.linear l) (bytesOf w))) s = .ok (v, { s with flags := f, fresh := n }))
    (ha : f.ac = s.flags.ac) (hv : f.vm = s.flags.vm) :
    updateLoc w l op s = .ok ((), { s.store (s.linear l) (bytesOf w) v.toNat with flags := f, fresh := n }) := by
  have hw : writeFault { s with flags := f, fresh := n } l (bytesOf w) (bytesOf w) = none := by
    rw [← h.1]
    simp only [writeFault, rangeFault, alignFault, State.isProt, State.alignChecked, State.pe, State.linear, ha, hv]
    rfl
  rw [updateLoc_ok h.1 h.2 ho hw, show ({ s with flags := f, fresh := n } : State) = { { s with flags := f } with
    fresh := n } from rfl, State.store_with_fresh, State.store_with_flags]
  rfl

/-- A read-modify-write whose operation changes only the flags and the count of free values. -/
theorem updateRM_ok {s : State} {w : Nat} {rm : RM} {op : BitVec w → M (BitVec w)} {v : BitVec w} {f : Flags} {n : Nat}
    (h : s.canWrite w rm) (ho : op (s.rmVal w rm) s = .ok (v, { s with flags := f, fresh := n }))
    (ha : f.ac = s.flags.ac) (hv : f.vm = s.flags.vm) :
    updateRM w rm op s = .ok ((), { s.putRM w rm v with flags := f, fresh := n }) := by
  cases rm with
  | reg r => exact updateRM_reg ho
  | mem e =>
    show ((get : M State) >>= fun s => updateLoc w (s.eaLoc e) op) s = _
    rw [M.bind_ok (M.get_apply s), updateLoc_flags h ho ha hv]
    rfl

/-- The end of an instruction whose meaning leaves the next address as it was. -/
theorem runSeq_finish {body : M Unit} {s t : State} (h : body s.noWindow = .ok ((), t)) (hn : t.nextEip = s.nextEip)
    (hi : t.inhibit = .none) : runSeq body s = .next (s.finish t) := by
  rw [runSeq_ok h]
  unfold State.finish
  rw [← hn, ← hi]

/-- A read-modify-write instruction. -/
theorem runSeq_updateRM {s : State} {w : Nat} {rm : RM} {op : BitVec w → M (BitVec w)} {v : BitVec w} {f : Flags}
    {n : Nat} (h : s.canWrite w rm)
    (ho : op (s.rmVal w rm) s.noWindow = .ok (v, { s.noWindow with flags := f, fresh := n }))
    (ha : f.ac = s.flags.ac) (hv : f.vm = s.flags.vm) :
    runSeq (updateRM w rm op) s = .next (s.finish { s.putRM w rm v with flags := f, fresh := n }) := by
  have h' := State.canWrite_noWindow h
  have hu := updateRM_ok (s := s.noWindow) h' (by rw [State.rmVal_noWindow]; exact ho) ha hv
  have hp := State.putRM_noWindow s w rm v
  rw [hp] at hu
  rw [runSeq_finish hu (State.putRM_nextEip s w rm v) rfl]
  rfl

/-! ## The two-operand forms -/

/-- What a two-operand operation does: it answers a result, and changes only flags (neither AC nor VM) and the count of
free values, as the relation `R` says. -/
def Does {w : Nat} (op : Binary w) (R : Flags → BitVec w → BitVec w → BitVec w → Flags → Prop) : Prop :=
  ∀ (a b : BitVec w) (s : State), ∃ v f n, op a b s = .ok (v, { s with flags := f, fresh := n }) ∧
    R s.flags a b v f ∧ f.ac = s.flags.ac ∧ f.vm = s.flags.vm

theorem formRmImm {R : BinRel} {w n : Nat} {op : Binary w} {con : RM → BitVec n → Instr} (hd : Does op (R w))
    (hc : ∀ rm imm s, exec (con rm imm) s = runSeq (opRmImm w op rm (imm.signExtend w)) s) : FormRmImm R w n con := by
  intro s rm imm h
  obtain ⟨v, f, k, ho, hR, ha, hv⟩ := hd (s.rmVal w rm) (imm.signExtend w) s.noWindow
  exact ⟨v, f, hR, k, (hc rm imm s).trans (runSeq_updateRM h ho ha hv), onlyRM_putRM s w rm v f k⟩

theorem formAccImm {R : BinRel} {w : Nat} {op : Binary w} {con : BitVec w → Instr} (hd : Does op (R w))
    (hc : ∀ imm s, exec (con imm) s = runSeq (opRmImm w op (.reg rA) imm) s) : FormAccImm R w con := by
  intro s imm
  obtain ⟨v, f, k, ho, hR, ha, hv⟩ := hd (s.gpr.read w rA) imm s.noWindow
  exact ⟨v, f, hR, k, (hc imm s).trans (runSeq_updateRM (rm := .reg rA) trivial ho ha hv)⟩

theorem formRmReg {R : BinRel} {w : Nat} {op : Binary w} {con : RM → Reg → Instr} (hd : Does op (R w))
    (hc : ∀ rm r s, exec (con rm r) s = runSeq (opRmReg w op rm r) s) : FormRmReg R w con := by
  intro s rm r h
  obtain ⟨v, f, k, ho, hR, ha, hv⟩ := hd (s.rmVal w rm) (s.gpr.read w r) s.noWindow
  refine ⟨v, f, hR, k, (hc rm r s).trans ?_, onlyRM_putRM s w rm v f k⟩
  exact runSeq_updateRM (op := fun d => op d (s.gpr.read w r)) h ho ha hv

theorem formRegRm {R : BinRel} {w : Nat} {op : Binary w} {con : Reg → RM → Instr} (hd : Does op (R w))
    (hc : ∀ r rm s, exec (con r rm) s = runSeq (opRegRm w op r rm) s) : FormRegRm R w con := by
  intro s r rm h
  obtain ⟨v, f, k, ho, hR, -, -⟩ := hd (s.gpr.read w r) (s.rmVal w rm) s.noWindow
  refine ⟨v, f, hR, k, (hc r rm s).trans ?_⟩
  have h' := State.canRead_noWindow h
  have hr := readRM_ok h'
  rw [State.rmVal_noWindow] at hr
  refine runSeq_finish (t := { s.noWindow with gpr := s.gpr.write w r v, flags := f, fresh := k }) ?_ rfl rfl
  unfold opRegRm
  rw [M.bind_ok hr, M.bind_ok (getReg_apply w r _)]
  exact (M.bind_ok ho).trans rfl

theorem testRmImm_form {R : BinRel} {w n : Nat} {op : Binary w} {con : RM → BitVec n → Instr} (hd : Does op (R w))
    (hc : ∀ rm imm s, exec (con rm imm) s = runSeq (testRmImm w op rm (imm.signExtend w)) s) : TestRmImm R w n con := by
  intro s rm imm h
  obtain ⟨v, f, k, ho, hR, -, -⟩ := hd (s.rmVal w rm) (imm.signExtend w) s.noWindow
  refine ⟨v, f, hR, k, (hc rm imm s).trans ?_⟩
  have h' := State.canRead_noWindow h
  have hr := readRM_ok h'
  rw [State.rmVal_noWindow] at hr
  refine runSeq_finish (t := { s.noWindow with flags := f, fresh := k }) ?_ rfl rfl
  unfold testRmImm
  rw [M.bind_ok hr, M.bind_ok ho]
  rfl

theorem testAccImm_form {R : BinRel} {w : Nat} {op : Binary w} {con : BitVec w → Instr} (hd : Does op (R w))
    (hc : ∀ imm s, exec (con imm) s = runSeq (testRmImm w op (.reg rA) imm) s) : TestAccImm R w con := by
  intro s imm
  obtain ⟨v, f, k, ho, hR, -, -⟩ := hd (s.gpr.read w rA) imm s.noWindow
  refine ⟨v, f, hR, k, (hc imm s).trans ?_⟩
  refine runSeq_finish (t := { s.noWindow with flags := f, fresh := k }) ?_ rfl rfl
  unfold testRmImm
  rw [M.bind_ok (readRM_reg w rA _)]
  exact (M.bind_ok ho).trans rfl

theorem testRmReg_form {R : BinRel} {w : Nat} {op : Binary w} {con : RM → Reg → Instr} (hd : Does op (R w))
    (hc : ∀ rm r s, exec (con rm r) s = runSeq (testRmReg w op rm r) s) : TestRmReg R w con := by
  intro s rm r h
  obtain ⟨v, f, k, ho, hR, -, -⟩ := hd (s.rmVal w rm) (s.gpr.read w r) s.noWindow
  refine ⟨v, f, hR, k, (hc rm r s).trans ?_⟩
  have h' := State.canRead_noWindow h
  have hr := readRM_ok h'
  rw [State.rmVal_noWindow] at hr
  refine runSeq_finish (t := { s.noWindow with flags := f, fresh := k }) ?_ rfl rfl
  unfold testRmReg
  rw [M.bind_ok (getReg_apply w r _), M.bind_ok hr]
  exact (M.bind_ok ho).trans rfl

theorem testRegRm_form {R : BinRel} {w : Nat} {op : Binary w} {con : Reg → RM → Instr} (hd : Does op (R w))
    (hc : ∀ r rm s, exec (con r rm) s = runSeq (testRegRm w op r rm) s) : TestRegRm R w con := by
  intro s r rm h
  obtain ⟨v, f, k, ho, hR, -, -⟩ := hd (s.gpr.read w r) (s.rmVal w rm) s.noWindow
  refine ⟨v, f, hR, k, (hc r rm s).trans ?_⟩
  have h' := State.canRead_noWindow h
  have hr := readRM_ok h'
  rw [State.rmVal_noWindow] at hr
  refine runSeq_finish (t := { s.noWindow with flags := f, fresh := k }) ?_ rfl rfl
  unfold testRegRm
  rw [M.bind_ok hr, M.bind_ok (getReg_apply w r _)]
  exact (M.bind_ok ho).trans rfl

/-! ## The one-operand forms -/

/-- What a one-operand operation does. -/
def DoesUnary {w : Nat} (op : BitVec w → M (BitVec w)) (R : Flags → BitVec w → BitVec w → BitVec w → Flags → Prop) :
    Prop :=
  Does (fun a _ => op a) fun f a _ v g => R f a 0#w v g

theorem formRm {R : BinRel} {w : Nat} {op : BitVec w → M (BitVec w)} {con : RM → Instr} (hd : DoesUnary op (R w))
    (hc : ∀ rm s, exec (con rm) s = runSeq (updateRM w rm op) s) : FormRm R w con := by
  intro s rm h
  obtain ⟨v, f, k, ho, hR, ha, hv⟩ := hd (s.rmVal w rm) 0#w s.noWindow
  exact ⟨v, f, hR, k, (hc rm s).trans (runSeq_updateRM h ho ha hv), onlyRM_putRM s w rm v f k⟩

theorem formReg {R : BinRel} {w : Nat} {op : BitVec w → M (BitVec w)} {con : Reg → Instr} (hd : DoesUnary op (R w))
    (hc : ∀ r s, exec (con r) s = runSeq (updateRM w (.reg r) op) s) : FormReg R w con := by
  intro s r
  obtain ⟨v, f, k, ho, hR, ha, hv⟩ := hd (s.gpr.read w r) 0#w s.noWindow
  exact ⟨v, f, hR, k, (hc r s).trans (runSeq_updateRM (rm := .reg r) trivial ho ha hv)⟩

end Sys2Proof.Machine
end

