-- ==== Sys2Proof/Tests/Slice0.lean ====
section
/-! SUPPORT. Tests: well-formedness, one written-out encoding of every constructor, single steps on the vectors of the
spec, and for every statement of Certificates/Slice0 a state and operands that meet its hypotheses. Expected values come
from spec/ (the encoding tables of 30_encoding.md, the vectors of 95_test_vectors.md and 95_test_vectors_2.md), never from
the model. -/

open Sys2Proof Sys2Proof.Machine

set_option Elab.async false

namespace Sys2Proof.Tests

/-! ## States -/

/-- Bytes placed in memory. -/
def load (a : Nat) (bs : List Nat) (s : State) : State :=
  s.load (BitVec.ofNat 32 a) (bs.map (BitVec.ofNat 8))

/-- Real-address mode, code at 0:0100H, a stack below 1000H, the vector table at 0. -/
def real : State :=
  { State.reset with
    eip := 0x100#32, nextEip := 0x100#32, seg := { State.reset.seg with cs := resetSeg 0#16 0#32 },
    gpr := { State.reset.gpr with esp := 0x1000#32, edx := 0#32 }, idtr := { base := 0#32, limit := 0x3FF#16 } }

/-- A flat 32-bit code segment register. -/
def flatCode (d : BitVec 2) (sel : Word) : Seg :=
  { sel := sel, valid := true, base := 0#32, limit := 0xFFFFFFFF#32, ty := 11#4, s := true, dpl := d, p := true, db := true }

/-- A flat 32-bit data segment register. -/
def flatData (d : BitVec 2) (sel : Word) : Seg :=
  { sel := sel, valid := true, base := 0#32, limit := 0xFFFFFFFF#32, ty := 3#4, s := true, dpl := d, p := true, db := true }

/-- A GDT: 8 code, 10H data, 18H code at DPL 3, 20H data at DPL 3, 28H a TSS, 30H a 386 call gate to 8 with one parameter,
38H conforming code, 40H an LDT, 48H a 286 call gate to 38H, 50H data not present, 58H read-only data at DPL 3, 60H
execute-only code at DPL 3. -/
def gdtBytes : List Nat :=
  [0, 0, 0, 0, 0, 0, 0, 0, 0xFF, 0xFF, 0, 0, 0, 0x9A, 0xCF, 0, 0xFF, 0xFF, 0, 0, 0, 0x92, 0xCF, 0,
   0xFF, 0xFF, 0, 0, 0, 0xFA, 0xCF, 0, 0xFF, 0xFF, 0, 0, 0, 0xF2, 0xCF, 0, 0x67, 0, 0, 0x80, 0, 0x89, 0, 0,
   0, 0x20, 8, 0, 1, 0xEC, 0, 0, 0xFF, 0xFF, 0, 0, 0, 0x9E, 0xCF, 0, 0x1F, 0, 0, 0x90, 0, 0x82, 0, 0,
   0x34, 2, 0x38, 0, 0, 0xE4, 0, 0, 0xFF, 0xFF, 0, 0, 0, 0x72, 0xCF, 0, 0xFF, 0xFF, 0, 0, 0, 0xF0, 0xCF, 0,
   0xFF, 0xFF, 0, 0, 0, 0xF8, 0xCF, 0]

/-- Protected mode at CPL 0, flat, code at 1000H, a stack below 9000H, GDT at 10000H, IDT at 20000H, and at 8000H the TSS
whose level 0 stack is 10H:9000H. -/
def prot0 : State :=
  load 0x8000 [0, 0, 0, 0, 0, 0x90, 0, 0, 0x10, 0, 0, 0] (load 0x10000 gdtBytes { real with
    cr0 := 0x60000011#32, cpl := 0#2,
    seg := { es := flatData 0#2 0x10#16, cs := flatCode 0#2 8#16, ss := flatData 0#2 0x10#16, ds := flatData 0#2 0x10#16,
             fs := flatData 0#2 0x10#16, gs := flatData 0#2 0x10#16 },
    gdtr := { base := 0x10000#32, limit := 0x67#16 }, idtr := { base := 0x20000#32, limit := 0x7FF#16 },
    tr := { sel := 0x28#16, valid := true, base := 0x8000#32, limit := 0x67#32, ty := 11#4, dpl := 0#2, p := true },
    eip := 0x1000#32, nextEip := 0x1000#32, gpr := { real.gpr with esp := 0x9000#32 } })

/-- The same at CPL 3, with a stack below 7FFCH. -/
def prot3 : State :=
  { prot0 with
    cpl := 3#2,
    seg := { es := flatData 3#2 0x23#16, cs := flatCode 3#2 0x1B#16, ss := flatData 3#2 0x23#16, ds := flatData 3#2 0x23#16,
             fs := flatData 3#2 0x23#16, gs := flatData 3#2 0x23#16 },
    gpr := { real.gpr with esp := 0x7FFC#32 } }

/-- Virtual-8086 mode with IOPL 3 above the same tables. -/
def virt : State :=
  { prot0 with
    cpl := 3#2, flags := { prot0.flags with vm := true, iopl := 3#2 }, seg := real.seg, gpr := real.gpr, eip := 0x100#32,
    nextEip := 0x100#32 }

/-- A gate in the IDT: type byte, selector, and the low word of the offset. -/
def gate (v acc sel off : Nat) (s : State) : State :=
  load (0x20000 + 8 * v) [off % 256, off / 256, sel, 0, 0, acc, 0, 0] s

/-- The FPU after FINIT with registers on its stack, the top first, and a control word. -/
def withStack (l : List Ext) (cw : Word) (s : State) : State :=
  let n := 8 - l.length
  let r := fun k => if n ≤ k then l.getD (k - n) 0#80 else 0#80
  let e := fun k => decide (k < n)
  { s with fpu := { s.fpu with
      cw := cw, regs := #v[r 0, r 1, r 2, r 3, r 4, r 5, r 6, r 7],
      empty := #v[e 0, e 1, e 2, e 3, e 4, e 5, e 6, e 7], st := { clearStatus with top := BitVec.ofNat 3 n } } }

/-- An instruction of these bytes, placed at CS:EIP, runs in one step, and what it leaves passes a check. -/
noncomputable def runs (bs : List Nat) (s : State) (p : State → Bool) : Bool :=
  match step (load (s.seg.cs.base + s.eip).toNat bs s) with
  | .next t => p t
  | _ => false

/-- The byte, word and doubleword of memory at an address. -/
def mem1 (t : State) (a : Nat) : Nat := (t.mem.read a).toNat
def mem2 (t : State) (a : Nat) : Nat := mem1 t a + 256 * mem1 t (a + 1)
def mem4 (t : State) (a : Nat) : Nat := mem2 t a + 65536 * mem2 t (a + 2)

/-- OF, SF, ZF, AF, PF and CF; a flag that the rule leaves open is `none`. -/
def flagsAre (t : State) (l : List (Option Bool)) : Bool :=
  ([t.flags.ofl, t.flags.sf, t.flags.zf, t.flags.af, t.flags.pf, t.flags.cf].zip l).all fun x =>
    match x.2 with
    | some b => x.1 == b
    | none => true

/-- ST(i). -/
def st (t : State) (i : Nat) : Ext := t.fpu.regs.toList.getD ((t.fpu.st.top.toNat + i) % 8) 0#80

/-! ## Well-formedness: a term for each check, which the check refuses -/

theorem test_wf_a16_bp_needs_disp : (Instr.movR16Rm16 0#3 (.mem (.a16 6#3 .none))).wellFormed = false := by decide +kernel
theorem test_wf_a32_esp_needs_sib : (Instr.movR32Rm32 0#3 (.mem (.a32 4#3 (.d8 1#8)))).wellFormed = false := by
  decide +kernel
theorem test_wf_a32_ebp_needs_disp : (Instr.movR32Rm32 0#3 (.mem (.a32 5#3 .none))).wellFormed = false := by decide +kernel
theorem test_wf_sib_ebp_needs_disp : (Instr.leaR32M 0#3 (.sib 0#2 1#3 5#3 .none)).wellFormed = false := by decide +kernel
theorem test_wf_xchg_ax_is_nop : (Instr.xchgAxR16 0#3).wellFormed = false := by decide +kernel
theorem test_wf_xchg_eax_is_nop : (Instr.xchgEaxR32 0#3).wellFormed = false := by decide +kernel
theorem test_wf_good : (Instr.movR32Rm32 0#3 (.mem (.sib 2#2 1#3 4#3 (.d32 0x1000#32)))).wellFormed = true := by
  decide +kernel
theorem test_fits_operand_size : (Instr.addRm32R32 (.reg 0#3) 1#3).fits ctx16 = false := by decide +kernel
theorem test_fits_address_size : (Instr.addRm16R16 (.mem (.a32 0#3 .none)) 1#3).fits ctx16 = false := by decide +kernel
theorem test_fits_moffs : (Instr.movAlMoffs8 (.o32 0#32)).fits ctx16 = false := by decide +kernel
theorem test_fits_composite : Instr.finit.fits { ctx16 with plain := false } = false := by decide +kernel

/-! ## Decoding: every constructor, from a word written out by its row of the opcode tables (R220 to R224), with its operands
in the places that R181 to R185, R190, R191 and R214 to R217 give -/

def c16a16 : Ctx := { os32 := false, as32 := false, plain := true }
def c16a32 : Ctx := { os32 := false, as32 := true, plain := true }
def c32a16 : Ctx := { os32 := true, as32 := false, plain := true }
def c32a32 : Ctx := { os32 := true, as32 := true, plain := true }

theorem test_decode_Prefix_1 :
    decode c16a16 [0xF0] = .ok .lock [] ∧
    decode c16a32 [0xF2] = .ok .repne [] ∧
    decode c16a16 [0xF3] = .ok .rep [] ∧
    decode c16a32 [0x2E] = .ok .segCs [] ∧
    decode c16a16 [0x36] = .ok .segSs [] ∧
    decode c16a32 [0x3E] = .ok .segDs [] ∧
    decode c16a16 [0x26] = .ok .segEs [] ∧
    decode c16a32 [0x64] = .ok .segFs [] ∧
    decode c16a16 [0x65] = .ok .segGs [] ∧
    decode c16a32 [0x66] = .ok .opSize [] ∧
    decode c16a16 [0x67] = .ok .addrSize [] := by decide +kernel

theorem test_decode_DataMove_1 :
    decode c16a32 [0x0F, 0xCE] = .ok (.bswapR32 6#3) [] ∧
    decode c16a16 [0x98] = .ok .cbw [] ∧
    decode c32a32 [0x98] = .ok .cwde [] ∧
    decode c16a16 [0x0F, 0x40, 0x36, 0x34, 0x12] = .ok (.cmovoR16Rm16 6#3 (.mem (.abs16 0x1234#16))) [] ∧
    decode c16a32 [0x0F, 0x41, 0xF7] = .ok (.cmovnoR16Rm16 6#3 (.reg 7#3)) [] ∧
    decode c16a16 [0x0F, 0x42, 0x75, 0xF2] = .ok (.cmovbR16Rm16 6#3 (.mem (.a16 5#3 (.d8 0xF2#8)))) [] ∧
    decode c16a32 [0x0F, 0x43, 0xB3, 0x44, 0x33, 0x22, 0x11] =
      .ok (.cmovaeR16Rm16 6#3 (.mem (.a32 3#3 (.d32 0x11223344#32)))) [] ∧
    decode c16a16 [0x0F, 0x44, 0xF2] = .ok (.cmoveR16Rm16 6#3 (.reg 2#3)) [] ∧
    decode c16a32 [0x0F, 0x45, 0x74, 0x71, 0xF2] = .ok (.cmovneR16Rm16 6#3 (.mem (.sib 1#2 6#3 1#3 (.d8 0xF2#8)))) [] ∧
    decode c16a16 [0x0F, 0x46, 0x36, 0x34, 0x12] = .ok (.cmovbeR16Rm16 6#3 (.mem (.abs16 0x1234#16))) [] ∧
    decode c16a32 [0x0F, 0x47, 0xF5] = .ok (.cmovaR16Rm16 6#3 (.reg 5#3)) [] ∧
    decode c16a16 [0x0F, 0x48, 0x75, 0xF2] = .ok (.cmovsR16Rm16 6#3 (.mem (.a16 5#3 (.d8 0xF2#8)))) [] ∧
    decode c16a32 [0x0F, 0x49, 0xB3, 0x44, 0x33, 0x22, 0x11] =
      .ok (.cmovnsR16Rm16 6#3 (.mem (.a32 3#3 (.d32 0x11223344#32)))) [] ∧
    decode c16a16 [0x0F, 0x4A, 0xF0] = .ok (.cmovpR16Rm16 6#3 (.reg 0#3)) [] ∧
    decode c16a32 [0x0F, 0x4B, 0x74, 0x71, 0xF2] = .ok (.cmovnpR16Rm16 6#3 (.mem (.sib 1#2 6#3 1#3 (.d8 0xF2#8)))) [] ∧
    decode c16a16 [0x0F, 0x4C, 0x36, 0x34, 0x12] = .ok (.cmovlR16Rm16 6#3 (.mem (.abs16 0x1234#16))) [] ∧
    decode c16a32 [0x0F, 0x4D, 0xF3] = .ok (.cmovgeR16Rm16 6#3 (.reg 3#3)) [] ∧
    decode c16a16 [0x0F, 0x4E, 0x75, 0xF2] = .ok (.cmovleR16Rm16 6#3 (.mem (.a16 5#3 (.d8 0xF2#8)))) [] ∧
    decode c16a32 [0x0F, 0x4F, 0xB3, 0x44, 0x33, 0x22, 0x11] =
      .ok (.cmovgR16Rm16 6#3 (.mem (.a32 3#3 (.d32 0x11223344#32)))) [] ∧
    decode c32a16 [0x0F, 0x40, 0xF6] = .ok (.cmovoR32Rm32 6#3 (.reg 6#3)) [] ∧
    decode c32a32 [0x0F, 0x41, 0x74, 0x71, 0xF2] = .ok (.cmovnoR32Rm32 6#3 (.mem (.sib 1#2 6#3 1#3 (.d8 0xF2#8)))) [] ∧
    decode c32a16 [0x0F, 0x42, 0x36, 0x34, 0x12] = .ok (.cmovbR32Rm32 6#3 (.mem (.abs16 0x1234#16))) [] ∧
    decode c32a32 [0x0F, 0x43, 0xF1] = .ok (.cmovaeR32Rm32 6#3 (.reg 1#3)) [] ∧
    decode c32a16 [0x0F, 0x44, 0x75, 0xF2] =
      .ok (.cmoveR32Rm32 6#3 (.mem (.a16 5#3 (.d8 0xF2#8)))) [] := by decide +kernel

theorem test_decode_DataMove_2 :
    decode c32a32 [0x0F, 0x45, 0xB3, 0x44, 0x33, 0x22, 0x11] =
      .ok (.cmovneR32Rm32 6#3 (.mem (.a32 3#3 (.d32 0x11223344#32)))) [] ∧
    decode c32a16 [0x0F, 0x46, 0xF4] = .ok (.cmovbeR32Rm32 6#3 (.reg 4#3)) [] ∧
    decode c32a32 [0x0F, 0x47, 0x74, 0x71, 0xF2] = .ok (.cmovaR32Rm32 6#3 (.mem (.sib 1#2 6#3 1#3 (.d8 0xF2#8)))) [] ∧
    decode c32a16 [0x0F, 0x48, 0x36, 0x34, 0x12] = .ok (.cmovsR32Rm32 6#3 (.mem (.abs16 0x1234#16))) [] ∧
    decode c32a32 [0x0F, 0x49, 0xF7] = .ok (.cmovnsR32Rm32 6#3 (.reg 7#3)) [] ∧
    decode c32a16 [0x0F, 0x4A, 0x75, 0xF2] = .ok (.cmovpR32Rm32 6#3 (.mem (.a16 5#3 (.d8 0xF2#8)))) [] ∧
    decode c32a32 [0x0F, 0x4B, 0xB3, 0x44, 0x33, 0x22, 0x11] =
      .ok (.cmovnpR32Rm32 6#3 (.mem (.a32 3#3 (.d32 0x11223344#32)))) [] ∧
    decode c32a16 [0x0F, 0x4C, 0xF2] = .ok (.cmovlR32Rm32 6#3 (.reg 2#3)) [] ∧
    decode c32a32 [0x0F, 0x4D, 0x74, 0x71, 0xF2] = .ok (.cmovgeR32Rm32 6#3 (.mem (.sib 1#2 6#3 1#3 (.d8 0xF2#8)))) [] ∧
    decode c32a16 [0x0F, 0x4E, 0x36, 0x34, 0x12] = .ok (.cmovleR32Rm32 6#3 (.mem (.abs16 0x1234#16))) [] ∧
    decode c32a32 [0x0F, 0x4F, 0xF5] = .ok (.cmovgR32Rm32 6#3 (.reg 5#3)) [] ∧
    decode c16a16 [0x0F, 0xB0, 0x75, 0xF2] = .ok (.cmpxchgRm8R8 (.mem (.a16 5#3 (.d8 0xF2#8))) 6#3) [] ∧
    decode c16a32 [0x0F, 0xB1, 0xB3, 0x44, 0x33, 0x22, 0x11] =
      .ok (.cmpxchgRm16R16 (.mem (.a32 3#3 (.d32 0x11223344#32))) 6#3) [] ∧
    decode c32a16 [0x0F, 0xB1, 0xF0] = .ok (.cmpxchgRm32R32 (.reg 0#3) 6#3) [] ∧
    decode c16a32 [0x0F, 0xC7, 0x4C, 0x71, 0xF2] = .ok (.cmpxchg8bM64 (.sib 1#2 6#3 1#3 (.d8 0xF2#8))) [] ∧
    decode c16a16 [0x99] = .ok .cwd [] ∧
    decode c32a32 [0x99] = .ok .cdq [] ∧
    decode c16a16 [0x88, 0x75, 0xF2] = .ok (.movRm8R8 (.mem (.a16 5#3 (.d8 0xF2#8))) 6#3) [] ∧
    decode c16a32 [0x89, 0xB3, 0x44, 0x33, 0x22, 0x11] =
      .ok (.movRm16R16 (.mem (.a32 3#3 (.d32 0x11223344#32))) 6#3) [] ∧
    decode c32a16 [0x89, 0xF6] = .ok (.movRm32R32 (.reg 6#3) 6#3) [] ∧
    decode c16a32 [0x8A, 0x74, 0x71, 0xF2] = .ok (.movR8Rm8 6#3 (.mem (.sib 1#2 6#3 1#3 (.d8 0xF2#8)))) [] ∧
    decode c16a16 [0x8B, 0x36, 0x34, 0x12] = .ok (.movR16Rm16 6#3 (.mem (.abs16 0x1234#16))) [] ∧
    decode c32a32 [0x8B, 0xF1] = .ok (.movR32Rm32 6#3 (.reg 1#3)) [] ∧
    decode c16a16 [0x8C, 0x65, 0xF2] = .ok (.movRm16Sreg (.mem (.a16 5#3 (.d8 0xF2#8))) .fs) [] := by decide +kernel

theorem test_decode_DataMove_3 :
    decode c16a32 [0x8E, 0xA3, 0x44, 0x33, 0x22, 0x11] =
      .ok (.movSregRm16 .fs (.mem (.a32 3#3 (.d32 0x11223344#32)))) [] ∧
    decode c16a16 [0xA0, 0x02, 0x01] = .ok (.movAlMoffs8 (.o16 0x0102#16)) [] ∧
    decode c16a32 [0xA1, 0x04, 0x03, 0x02, 0x01] = .ok (.movAxMoffs16 (.o32 0x01020304#32)) [] ∧
    decode c32a16 [0xA1, 0x02, 0x01] = .ok (.movEaxMoffs32 (.o16 0x0102#16)) [] ∧
    decode c16a32 [0xA2, 0x04, 0x03, 0x02, 0x01] = .ok (.movMoffs8Al (.o32 0x01020304#32)) [] ∧
    decode c16a16 [0xA3, 0x02, 0x01] = .ok (.movMoffs16Ax (.o16 0x0102#16)) [] ∧
    decode c32a32 [0xA3, 0x04, 0x03, 0x02, 0x01] = .ok (.movMoffs32Eax (.o32 0x01020304#32)) [] ∧
    decode c16a16 [0xB6, 0x9C] = .ok (.movR8Imm8 6#3 0x9C#8) [] ∧
    decode c16a32 [0xBE, 0x78, 0x56] = .ok (.movR16Imm16 6#3 0x5678#16) [] ∧
    decode c32a16 [0xBE, 0xEF, 0xCD, 0xAB, 0x89] = .ok (.movR32Imm32 6#3 0x89ABCDEF#32) [] ∧
    decode c16a32 [0xC6, 0xC5, 0x9C] = .ok (.movRm8Imm8 (.reg 5#3) 0x9C#8) [] ∧
    decode c16a16 [0xC7, 0x45, 0xF2, 0x78, 0x56] = .ok (.movRm16Imm16 (.mem (.a16 5#3 (.d8 0xF2#8))) 0x5678#16) [] ∧
    decode c32a32 [0xC7, 0x83, 0x44, 0x33, 0x22, 0x11, 0xEF, 0xCD, 0xAB, 0x89] =
      .ok (.movRm32Imm32 (.mem (.a32 3#3 (.d32 0x11223344#32))) 0x89ABCDEF#32) [] ∧
    decode c16a16 [0x0F, 0xBE, 0xF0] = .ok (.movsxR16Rm8 6#3 (.reg 0#3)) [] ∧
    decode c32a32 [0x0F, 0xBE, 0x74, 0x71, 0xF2] = .ok (.movsxR32Rm8 6#3 (.mem (.sib 1#2 6#3 1#3 (.d8 0xF2#8)))) [] ∧
    decode c32a16 [0x0F, 0xBF, 0x36, 0x34, 0x12] = .ok (.movsxR32Rm16 6#3 (.mem (.abs16 0x1234#16))) [] ∧
    decode c16a32 [0x0F, 0xB6, 0xF3] = .ok (.movzxR16Rm8 6#3 (.reg 3#3)) [] ∧
    decode c32a16 [0x0F, 0xB6, 0x75, 0xF2] = .ok (.movzxR32Rm8 6#3 (.mem (.a16 5#3 (.d8 0xF2#8)))) [] ∧
    decode c32a32 [0x0F, 0xB7, 0xB3, 0x44, 0x33, 0x22, 0x11] =
      .ok (.movzxR32Rm16 6#3 (.mem (.a32 3#3 (.d32 0x11223344#32)))) [] ∧
    decode c16a16 [0x8F, 0xC6] = .ok (.popM16 (.reg 6#3)) [] ∧
    decode c32a32 [0x8F, 0x44, 0x71, 0xF2] = .ok (.popM32 (.mem (.sib 1#2 6#3 1#3 (.d8 0xF2#8)))) [] ∧
    decode c16a16 [0x5E] = .ok (.popR16 6#3) [] ∧
    decode c32a32 [0x5E] = .ok (.popR32 6#3) [] ∧
    decode c16a16 [0x1F] = .ok .popDs [] := by decide +kernel

theorem test_decode_DataMove_4 :
    decode c16a32 [0x07] = .ok .popEs [] ∧
    decode c16a16 [0x17] = .ok .popSs [] ∧
    decode c16a32 [0x0F, 0xA1] = .ok .popFs [] ∧
    decode c16a16 [0x0F, 0xA9] = .ok .popGs [] ∧
    decode c16a32 [0x61] = .ok .popa [] ∧
    decode c32a16 [0x61] = .ok .popad [] ∧
    decode c16a32 [0xFF, 0xB3, 0x44, 0x33, 0x22, 0x11] = .ok (.pushRm16 (.mem (.a32 3#3 (.d32 0x11223344#32)))) [] ∧
    decode c32a16 [0xFF, 0xF2] = .ok (.pushRm32 (.reg 2#3)) [] ∧
    decode c16a32 [0x56] = .ok (.pushR16 6#3) [] ∧
    decode c32a16 [0x56] = .ok (.pushR32 6#3) [] ∧
    decode c16a32 [0x6A, 0x9C] = .ok (.pushImm8 0x9C#8) [] ∧
    decode c16a16 [0x68, 0x78, 0x56] = .ok (.pushImm16 0x5678#16) [] ∧
    decode c32a32 [0x68, 0xEF, 0xCD, 0xAB, 0x89] = .ok (.pushImm32 0x89ABCDEF#32) [] ∧
    decode c16a16 [0x0E] = .ok .pushCs [] ∧
    decode c16a32 [0x16] = .ok .pushSs [] ∧
    decode c16a16 [0x1E] = .ok .pushDs [] ∧
    decode c16a32 [0x06] = .ok .pushEs [] ∧
    decode c16a16 [0x0F, 0xA0] = .ok .pushFs [] ∧
    decode c16a32 [0x0F, 0xA8] = .ok .pushGs [] ∧
    decode c16a16 [0x60] = .ok .pusha [] ∧
    decode c32a32 [0x60] = .ok .pushad [] ∧
    decode c16a16 [0x0F, 0xC0, 0x36, 0x34, 0x12] = .ok (.xaddRm8R8 (.mem (.abs16 0x1234#16)) 6#3) [] ∧
    decode c16a32 [0x0F, 0xC1, 0xF1] = .ok (.xaddRm16R16 (.reg 1#3) 6#3) [] ∧
    decode c32a16 [0x0F, 0xC1, 0x75, 0xF2] =
      .ok (.xaddRm32R32 (.mem (.a16 5#3 (.d8 0xF2#8))) 6#3) [] := by decide +kernel

theorem test_decode_DataMove_5 :
    decode c16a32 [0x96] = .ok (.xchgAxR16 6#3) [] ∧
    decode c32a16 [0x96] = .ok (.xchgEaxR32 6#3) [] ∧
    decode c16a32 [0x86, 0x74, 0x71, 0xF2] = .ok (.xchgRm8R8 (.mem (.sib 1#2 6#3 1#3 (.d8 0xF2#8))) 6#3) [] ∧
    decode c16a16 [0x87, 0x36, 0x34, 0x12] = .ok (.xchgRm16R16 (.mem (.abs16 0x1234#16)) 6#3) [] ∧
    decode c32a32 [0x87, 0xF7] = .ok (.xchgRm32R32 (.reg 7#3) 6#3) [] ∧
    decode c16a16 [0xD7] = .ok .xlat [] := by decide +kernel

theorem test_decode_Arith_1 :
    decode c16a32 [0x37] = .ok .aaa [] ∧
    decode c16a16 [0xD5, 0x9C] = .ok (.aadImm8 0x9C#8) [] ∧
    decode c16a32 [0xD4, 0x9C] = .ok (.aamImm8 0x9C#8) [] ∧
    decode c16a16 [0x3F] = .ok .aas [] ∧
    decode c16a32 [0x14, 0x9C] = .ok (.adcAlImm8 0x9C#8) [] ∧
    decode c16a16 [0x15, 0x78, 0x56] = .ok (.adcAxImm16 0x5678#16) [] ∧
    decode c32a32 [0x15, 0xEF, 0xCD, 0xAB, 0x89] = .ok (.adcEaxImm32 0x89ABCDEF#32) [] ∧
    decode c16a16 [0x80, 0xD0, 0x9C] = .ok (.adcRm8Imm8 (.reg 0#3) 0x9C#8) [] ∧
    decode c16a32 [0x81, 0x54, 0x71, 0xF2, 0x78, 0x56] =
      .ok (.adcRm16Imm16 (.mem (.sib 1#2 6#3 1#3 (.d8 0xF2#8))) 0x5678#16) [] ∧
    decode c32a16 [0x81, 0x16, 0x34, 0x12, 0xEF, 0xCD, 0xAB, 0x89] =
      .ok (.adcRm32Imm32 (.mem (.abs16 0x1234#16)) 0x89ABCDEF#32) [] ∧
    decode c16a32 [0x83, 0xD3, 0x9C] = .ok (.adcRm16Imm8 (.reg 3#3) 0x9C#8) [] ∧
    decode c32a16 [0x83, 0x55, 0xF2, 0x9C] = .ok (.adcRm32Imm8 (.mem (.a16 5#3 (.d8 0xF2#8))) 0x9C#8) [] ∧
    decode c16a32 [0x10, 0xB3, 0x44, 0x33, 0x22, 0x11] = .ok (.adcRm8R8 (.mem (.a32 3#3 (.d32 0x11223344#32))) 6#3) [] ∧
    decode c16a16 [0x11, 0xF6] = .ok (.adcRm16R16 (.reg 6#3) 6#3) [] ∧
    decode c32a32 [0x11, 0x74, 0x71, 0xF2] = .ok (.adcRm32R32 (.mem (.sib 1#2 6#3 1#3 (.d8 0xF2#8))) 6#3) [] ∧
    decode c16a16 [0x12, 0x36, 0x34, 0x12] = .ok (.adcR8Rm8 6#3 (.mem (.abs16 0x1234#16))) [] ∧
    decode c16a32 [0x13, 0xF1] = .ok (.adcR16Rm16 6#3 (.reg 1#3)) [] ∧
    decode c32a16 [0x13, 0x75, 0xF2] = .ok (.adcR32Rm32 6#3 (.mem (.a16 5#3 (.d8 0xF2#8)))) [] ∧
    decode c16a32 [0x04, 0x9C] = .ok (.addAlImm8 0x9C#8) [] ∧
    decode c16a16 [0x05, 0x78, 0x56] = .ok (.addAxImm16 0x5678#16) [] ∧
    decode c32a32 [0x05, 0xEF, 0xCD, 0xAB, 0x89] = .ok (.addEaxImm32 0x89ABCDEF#32) [] ∧
    decode c16a16 [0x80, 0x06, 0x34, 0x12, 0x9C] = .ok (.addRm8Imm8 (.mem (.abs16 0x1234#16)) 0x9C#8) [] ∧
    decode c16a32 [0x81, 0xC7, 0x78, 0x56] = .ok (.addRm16Imm16 (.reg 7#3) 0x5678#16) [] ∧
    decode c32a16 [0x81, 0x45, 0xF2, 0xEF, 0xCD, 0xAB, 0x89] =
      .ok (.addRm32Imm32 (.mem (.a16 5#3 (.d8 0xF2#8))) 0x89ABCDEF#32) [] := by decide +kernel

theorem test_decode_Arith_2 :
    decode c16a32 [0x83, 0x83, 0x44, 0x33, 0x22, 0x11, 0x9C] =
      .ok (.addRm16Imm8 (.mem (.a32 3#3 (.d32 0x11223344#32))) 0x9C#8) [] ∧
    decode c32a16 [0x83, 0xC2, 0x9C] = .ok (.addRm32Imm8 (.reg 2#3) 0x9C#8) [] ∧
    decode c16a32 [0x00, 0x74, 0x71, 0xF2] = .ok (.addRm8R8 (.mem (.sib 1#2 6#3 1#3 (.d8 0xF2#8))) 6#3) [] ∧
    decode c16a16 [0x01, 0x36, 0x34, 0x12] = .ok (.addRm16R16 (.mem (.abs16 0x1234#16)) 6#3) [] ∧
    decode c32a32 [0x01, 0xF5] = .ok (.addRm32R32 (.reg 5#3) 6#3) [] ∧
    decode c16a16 [0x02, 0x75, 0xF2] = .ok (.addR8Rm8 6#3 (.mem (.a16 5#3 (.d8 0xF2#8)))) [] ∧
    decode c16a32 [0x03, 0xB3, 0x44, 0x33, 0x22, 0x11] =
      .ok (.addR16Rm16 6#3 (.mem (.a32 3#3 (.d32 0x11223344#32)))) [] ∧
    decode c32a16 [0x03, 0xF0] = .ok (.addR32Rm32 6#3 (.reg 0#3)) [] ∧
    decode c16a32 [0x3C, 0x9C] = .ok (.cmpAlImm8 0x9C#8) [] ∧
    decode c16a16 [0x3D, 0x78, 0x56] = .ok (.cmpAxImm16 0x5678#16) [] ∧
    decode c32a32 [0x3D, 0xEF, 0xCD, 0xAB, 0x89] = .ok (.cmpEaxImm32 0x89ABCDEF#32) [] ∧
    decode c16a16 [0x80, 0x7D, 0xF2, 0x9C] = .ok (.cmpRm8Imm8 (.mem (.a16 5#3 (.d8 0xF2#8))) 0x9C#8) [] ∧
    decode c16a32 [0x81, 0xBB, 0x44, 0x33, 0x22, 0x11, 0x78, 0x56] =
      .ok (.cmpRm16Imm16 (.mem (.a32 3#3 (.d32 0x11223344#32))) 0x5678#16) [] ∧
    decode c32a16 [0x81, 0xFE, 0xEF, 0xCD, 0xAB, 0x89] = .ok (.cmpRm32Imm32 (.reg 6#3) 0x89ABCDEF#32) [] ∧
    decode c16a32 [0x83, 0x7C, 0x71, 0xF2, 0x9C] = .ok (.cmpRm16Imm8 (.mem (.sib 1#2 6#3 1#3 (.d8 0xF2#8))) 0x9C#8) [] ∧
    decode c32a16 [0x83, 0x3E, 0x34, 0x12, 0x9C] = .ok (.cmpRm32Imm8 (.mem (.abs16 0x1234#16)) 0x9C#8) [] ∧
    decode c16a32 [0x38, 0xF1] = .ok (.cmpRm8R8 (.reg 1#3) 6#3) [] ∧
    decode c16a16 [0x39, 0x75, 0xF2] = .ok (.cmpRm16R16 (.mem (.a16 5#3 (.d8 0xF2#8))) 6#3) [] ∧
    decode c32a32 [0x39, 0xB3, 0x44, 0x33, 0x22, 0x11] =
      .ok (.cmpRm32R32 (.mem (.a32 3#3 (.d32 0x11223344#32))) 6#3) [] ∧
    decode c16a16 [0x3A, 0xF4] = .ok (.cmpR8Rm8 6#3 (.reg 4#3)) [] ∧
    decode c16a32 [0x3B, 0x74, 0x71, 0xF2] = .ok (.cmpR16Rm16 6#3 (.mem (.sib 1#2 6#3 1#3 (.d8 0xF2#8)))) [] ∧
    decode c32a16 [0x3B, 0x36, 0x34, 0x12] = .ok (.cmpR32Rm32 6#3 (.mem (.abs16 0x1234#16))) [] ∧
    decode c16a32 [0x27] = .ok .daa [] ∧
    decode c16a16 [0x2F] = .ok .das [] := by decide +kernel

theorem test_decode_Arith_3 :
    decode c16a32 [0xFE, 0x8B, 0x44, 0x33, 0x22, 0x11] = .ok (.decRm8 (.mem (.a32 3#3 (.d32 0x11223344#32)))) [] ∧
    decode c16a16 [0xFF, 0xCA] = .ok (.decRm16 (.reg 2#3)) [] ∧
    decode c32a32 [0xFF, 0x4C, 0x71, 0xF2] = .ok (.decRm32 (.mem (.sib 1#2 6#3 1#3 (.d8 0xF2#8)))) [] ∧
    decode c16a16 [0x4E] = .ok (.decR16 6#3) [] ∧
    decode c32a32 [0x4E] = .ok (.decR32 6#3) [] ∧
    decode c16a16 [0xF6, 0x75, 0xF2] = .ok (.divRm8 (.mem (.a16 5#3 (.d8 0xF2#8)))) [] ∧
    decode c16a32 [0xF7, 0xB3, 0x44, 0x33, 0x22, 0x11] = .ok (.divRm16 (.mem (.a32 3#3 (.d32 0x11223344#32)))) [] ∧
    decode c32a16 [0xF7, 0xF0] = .ok (.divRm32 (.reg 0#3)) [] ∧
    decode c16a32 [0xF6, 0x7C, 0x71, 0xF2] = .ok (.idivRm8 (.mem (.sib 1#2 6#3 1#3 (.d8 0xF2#8)))) [] ∧
    decode c16a16 [0xF7, 0x3E, 0x34, 0x12] = .ok (.idivRm16 (.mem (.abs16 0x1234#16))) [] ∧
    decode c32a32 [0xF7, 0xFB] = .ok (.idivRm32 (.reg 3#3)) [] ∧
    decode c16a16 [0xF6, 0x6D, 0xF2] = .ok (.imulRm8 (.mem (.a16 5#3 (.d8 0xF2#8)))) [] ∧
    decode c16a32 [0xF7, 0xAB, 0x44, 0x33, 0x22, 0x11] = .ok (.imulRm16 (.mem (.a32 3#3 (.d32 0x11223344#32)))) [] ∧
    decode c32a16 [0xF7, 0xEE] = .ok (.imulRm32 (.reg 6#3)) [] ∧
    decode c16a32 [0x0F, 0xAF, 0x74, 0x71, 0xF2] = .ok (.imulR16Rm16 6#3 (.mem (.sib 1#2 6#3 1#3 (.d8 0xF2#8)))) [] ∧
    decode c32a16 [0x0F, 0xAF, 0x36, 0x34, 0x12] = .ok (.imulR32Rm32 6#3 (.mem (.abs16 0x1234#16))) [] ∧
    decode c16a32 [0x6B, 0xF1, 0x9C] = .ok (.imulR16Rm16Imm8 6#3 (.reg 1#3) 0x9C#8) [] ∧
    decode c32a16 [0x6B, 0x75, 0xF2, 0x9C] = .ok (.imulR32Rm32Imm8 6#3 (.mem (.a16 5#3 (.d8 0xF2#8))) 0x9C#8) [] ∧
    decode c16a32 [0x69, 0xB3, 0x44, 0x33, 0x22, 0x11, 0x78, 0x56] =
      .ok (.imulR16Rm16Imm16 6#3 (.mem (.a32 3#3 (.d32 0x11223344#32))) 0x5678#16) [] ∧
    decode c32a16 [0x69, 0xF4, 0xEF, 0xCD, 0xAB, 0x89] = .ok (.imulR32Rm32Imm32 6#3 (.reg 4#3) 0x89ABCDEF#32) [] ∧
    decode c16a32 [0xFE, 0x44, 0x71, 0xF2] = .ok (.incRm8 (.mem (.sib 1#2 6#3 1#3 (.d8 0xF2#8)))) [] ∧
    decode c16a16 [0xFF, 0x06, 0x34, 0x12] = .ok (.incRm16 (.mem (.abs16 0x1234#16))) [] ∧
    decode c32a32 [0xFF, 0xC7] = .ok (.incRm32 (.reg 7#3)) [] ∧
    decode c16a16 [0x46] = .ok (.incR16 6#3) [] := by decide +kernel

theorem test_decode_Arith_4 :
    decode c32a32 [0x46] = .ok (.incR32 6#3) [] ∧
    decode c16a16 [0xF6, 0xE2] = .ok (.mulRm8 (.reg 2#3)) [] ∧
    decode c16a32 [0xF7, 0x64, 0x71, 0xF2] = .ok (.mulRm16 (.mem (.sib 1#2 6#3 1#3 (.d8 0xF2#8)))) [] ∧
    decode c32a16 [0xF7, 0x26, 0x34, 0x12] = .ok (.mulRm32 (.mem (.abs16 0x1234#16))) [] ∧
    decode c16a32 [0xF6, 0xDD] = .ok (.negRm8 (.reg 5#3)) [] ∧
    decode c16a16 [0xF7, 0x5D, 0xF2] = .ok (.negRm16 (.mem (.a16 5#3 (.d8 0xF2#8)))) [] ∧
    decode c32a32 [0xF7, 0x9B, 0x44, 0x33, 0x22, 0x11] = .ok (.negRm32 (.mem (.a32 3#3 (.d32 0x11223344#32)))) [] ∧
    decode c16a16 [0x1C, 0x9C] = .ok (.sbbAlImm8 0x9C#8) [] ∧
    decode c16a32 [0x1D, 0x78, 0x56] = .ok (.sbbAxImm16 0x5678#16) [] ∧
    decode c32a16 [0x1D, 0xEF, 0xCD, 0xAB, 0x89] = .ok (.sbbEaxImm32 0x89ABCDEF#32) [] ∧
    decode c16a32 [0x80, 0xDB, 0x9C] = .ok (.sbbRm8Imm8 (.reg 3#3) 0x9C#8) [] ∧
    decode c16a16 [0x81, 0x5D, 0xF2, 0x78, 0x56] = .ok (.sbbRm16Imm16 (.mem (.a16 5#3 (.d8 0xF2#8))) 0x5678#16) [] ∧
    decode c32a32 [0x81, 0x9B, 0x44, 0x33, 0x22, 0x11, 0xEF, 0xCD, 0xAB, 0x89] =
      .ok (.sbbRm32Imm32 (.mem (.a32 3#3 (.d32 0x11223344#32))) 0x89ABCDEF#32) [] ∧
    decode c16a16 [0x83, 0xDE, 0x9C] = .ok (.sbbRm16Imm8 (.reg 6#3) 0x9C#8) [] ∧
    decode c32a32 [0x83, 0x5C, 0x71, 0xF2, 0x9C] = .ok (.sbbRm32Imm8 (.mem (.sib 1#2 6#3 1#3 (.d8 0xF2#8))) 0x9C#8) [] ∧
    decode c16a16 [0x18, 0x36, 0x34, 0x12] = .ok (.sbbRm8R8 (.mem (.abs16 0x1234#16)) 6#3) [] ∧
    decode c16a32 [0x19, 0xF1] = .ok (.sbbRm16R16 (.reg 1#3) 6#3) [] ∧
    decode c32a16 [0x19, 0x75, 0xF2] = .ok (.sbbRm32R32 (.mem (.a16 5#3 (.d8 0xF2#8))) 6#3) [] ∧
    decode c16a32 [0x1A, 0xB3, 0x44, 0x33, 0x22, 0x11] = .ok (.sbbR8Rm8 6#3 (.mem (.a32 3#3 (.d32 0x11223344#32)))) [] ∧
    decode c16a16 [0x1B, 0xF4] = .ok (.sbbR16Rm16 6#3 (.reg 4#3)) [] ∧
    decode c32a32 [0x1B, 0x74, 0x71, 0xF2] = .ok (.sbbR32Rm32 6#3 (.mem (.sib 1#2 6#3 1#3 (.d8 0xF2#8)))) [] ∧
    decode c16a16 [0x2C, 0x9C] = .ok (.subAlImm8 0x9C#8) [] ∧
    decode c16a32 [0x2D, 0x78, 0x56] = .ok (.subAxImm16 0x5678#16) [] ∧
    decode c32a16 [0x2D, 0xEF, 0xCD, 0xAB, 0x89] = .ok (.subEaxImm32 0x89ABCDEF#32) [] := by decide +kernel

theorem test_decode_Arith_5 :
    decode c16a32 [0x80, 0xAB, 0x44, 0x33, 0x22, 0x11, 0x9C] =
      .ok (.subRm8Imm8 (.mem (.a32 3#3 (.d32 0x11223344#32))) 0x9C#8) [] ∧
    decode c16a16 [0x81, 0xEA, 0x78, 0x56] = .ok (.subRm16Imm16 (.reg 2#3) 0x5678#16) [] ∧
    decode c32a32 [0x81, 0x6C, 0x71, 0xF2, 0xEF, 0xCD, 0xAB, 0x89] =
      .ok (.subRm32Imm32 (.mem (.sib 1#2 6#3 1#3 (.d8 0xF2#8))) 0x89ABCDEF#32) [] ∧
    decode c16a16 [0x83, 0x2E, 0x34, 0x12, 0x9C] = .ok (.subRm16Imm8 (.mem (.abs16 0x1234#16)) 0x9C#8) [] ∧
    decode c32a32 [0x83, 0xED, 0x9C] = .ok (.subRm32Imm8 (.reg 5#3) 0x9C#8) [] ∧
    decode c16a16 [0x28, 0x75, 0xF2] = .ok (.subRm8R8 (.mem (.a16 5#3 (.d8 0xF2#8))) 6#3) [] ∧
    decode c16a32 [0x29, 0xB3, 0x44, 0x33, 0x22, 0x11] =
      .ok (.subRm16R16 (.mem (.a32 3#3 (.d32 0x11223344#32))) 6#3) [] ∧
    decode c32a16 [0x29, 0xF0] = .ok (.subRm32R32 (.reg 0#3) 6#3) [] ∧
    decode c16a32 [0x2A, 0x74, 0x71, 0xF2] = .ok (.subR8Rm8 6#3 (.mem (.sib 1#2 6#3 1#3 (.d8 0xF2#8)))) [] ∧
    decode c16a16 [0x2B, 0x36, 0x34, 0x12] = .ok (.subR16Rm16 6#3 (.mem (.abs16 0x1234#16))) [] ∧
    decode c32a32 [0x2B, 0xF3] = .ok (.subR32Rm32 6#3 (.reg 3#3)) [] := by decide +kernel

theorem test_decode_Logic_1 :
    decode c16a16 [0x24, 0x9C] = .ok (.andAlImm8 0x9C#8) [] ∧
    decode c16a32 [0x25, 0x78, 0x56] = .ok (.andAxImm16 0x5678#16) [] ∧
    decode c32a16 [0x25, 0xEF, 0xCD, 0xAB, 0x89] = .ok (.andEaxImm32 0x89ABCDEF#32) [] ∧
    decode c16a32 [0x80, 0x64, 0x71, 0xF2, 0x9C] = .ok (.andRm8Imm8 (.mem (.sib 1#2 6#3 1#3 (.d8 0xF2#8))) 0x9C#8) [] ∧
    decode c16a16 [0x81, 0x26, 0x34, 0x12, 0x78, 0x56] = .ok (.andRm16Imm16 (.mem (.abs16 0x1234#16)) 0x5678#16) [] ∧
    decode c32a32 [0x81, 0xE1, 0xEF, 0xCD, 0xAB, 0x89] = .ok (.andRm32Imm32 (.reg 1#3) 0x89ABCDEF#32) [] ∧
    decode c16a16 [0x83, 0x65, 0xF2, 0x9C] = .ok (.andRm16Imm8 (.mem (.a16 5#3 (.d8 0xF2#8))) 0x9C#8) [] ∧
    decode c32a32 [0x83, 0xA3, 0x44, 0x33, 0x22, 0x11, 0x9C] =
      .ok (.andRm32Imm8 (.mem (.a32 3#3 (.d32 0x11223344#32))) 0x9C#8) [] ∧
    decode c16a16 [0x20, 0xF4] = .ok (.andRm8R8 (.reg 4#3) 6#3) [] ∧
    decode c16a32 [0x21, 0x74, 0x71, 0xF2] = .ok (.andRm16R16 (.mem (.sib 1#2 6#3 1#3 (.d8 0xF2#8))) 6#3) [] ∧
    decode c32a16 [0x21, 0x36, 0x34, 0x12] = .ok (.andRm32R32 (.mem (.abs16 0x1234#16)) 6#3) [] ∧
    decode c16a32 [0x22, 0xF7] = .ok (.andR8Rm8 6#3 (.reg 7#3)) [] ∧
    decode c16a16 [0x23, 0x75, 0xF2] = .ok (.andR16Rm16 6#3 (.mem (.a16 5#3 (.d8 0xF2#8)))) [] ∧
    decode c32a32 [0x23, 0xB3, 0x44, 0x33, 0x22, 0x11] =
      .ok (.andR32Rm32 6#3 (.mem (.a32 3#3 (.d32 0x11223344#32)))) [] ∧
    decode c16a16 [0x0F, 0xBC, 0xF2] = .ok (.bsfR16Rm16 6#3 (.reg 2#3)) [] ∧
    decode c32a32 [0x0F, 0xBC, 0x74, 0x71, 0xF2] = .ok (.bsfR32Rm32 6#3 (.mem (.sib 1#2 6#3 1#3 (.d8 0xF2#8)))) [] ∧
    decode c16a16 [0x0F, 0xBD, 0x36, 0x34, 0x12] = .ok (.bsrR16Rm16 6#3 (.mem (.abs16 0x1234#16))) [] ∧
    decode c32a32 [0x0F, 0xBD, 0xF5] = .ok (.bsrR32Rm32 6#3 (.reg 5#3)) [] ∧
    decode c16a16 [0x0F, 0xA3, 0x75, 0xF2] = .ok (.btRm16R16 (.mem (.a16 5#3 (.d8 0xF2#8))) 6#3) [] ∧
    decode c32a32 [0x0F, 0xA3, 0xB3, 0x44, 0x33, 0x22, 0x11] =
      .ok (.btRm32R32 (.mem (.a32 3#3 (.d32 0x11223344#32))) 6#3) [] ∧
    decode c16a16 [0x0F, 0xBA, 0xE0, 0x9C] = .ok (.btRm16Imm8 (.reg 0#3) 0x9C#8) [] ∧
    decode c32a32 [0x0F, 0xBA, 0x64, 0x71, 0xF2, 0x9C] =
      .ok (.btRm32Imm8 (.mem (.sib 1#2 6#3 1#3 (.d8 0xF2#8))) 0x9C#8) [] ∧
    decode c16a16 [0x0F, 0xBB, 0x36, 0x34, 0x12] = .ok (.btcRm16R16 (.mem (.abs16 0x1234#16)) 6#3) [] ∧
    decode c32a32 [0x0F, 0xBB, 0xF3] = .ok (.btcRm32R32 (.reg 3#3) 6#3) [] := by decide +kernel

theorem test_decode_Logic_2 :
    decode c16a16 [0x0F, 0xBA, 0x7D, 0xF2, 0x9C] = .ok (.btcRm16Imm8 (.mem (.a16 5#3 (.d8 0xF2#8))) 0x9C#8) [] ∧
    decode c32a32 [0x0F, 0xBA, 0xBB, 0x44, 0x33, 0x22, 0x11, 0x9C] =
      .ok (.btcRm32Imm8 (.mem (.a32 3#3 (.d32 0x11223344#32))) 0x9C#8) [] ∧
    decode c16a16 [0x0F, 0xB3, 0xF6] = .ok (.btrRm16R16 (.reg 6#3) 6#3) [] ∧
    decode c32a32 [0x0F, 0xB3, 0x74, 0x71, 0xF2] = .ok (.btrRm32R32 (.mem (.sib 1#2 6#3 1#3 (.d8 0xF2#8))) 6#3) [] ∧
    decode c16a16 [0x0F, 0xBA, 0x36, 0x34, 0x12, 0x9C] = .ok (.btrRm16Imm8 (.mem (.abs16 0x1234#16)) 0x9C#8) [] ∧
    decode c32a32 [0x0F, 0xBA, 0xF1, 0x9C] = .ok (.btrRm32Imm8 (.reg 1#3) 0x9C#8) [] ∧
    decode c16a16 [0x0F, 0xAB, 0x75, 0xF2] = .ok (.btsRm16R16 (.mem (.a16 5#3 (.d8 0xF2#8))) 6#3) [] ∧
    decode c32a32 [0x0F, 0xAB, 0xB3, 0x44, 0x33, 0x22, 0x11] =
      .ok (.btsRm32R32 (.mem (.a32 3#3 (.d32 0x11223344#32))) 6#3) [] ∧
    decode c16a16 [0x0F, 0xBA, 0xEC, 0x9C] = .ok (.btsRm16Imm8 (.reg 4#3) 0x9C#8) [] ∧
    decode c32a32 [0x0F, 0xBA, 0x6C, 0x71, 0xF2, 0x9C] =
      .ok (.btsRm32Imm8 (.mem (.sib 1#2 6#3 1#3 (.d8 0xF2#8))) 0x9C#8) [] ∧
    decode c16a16 [0xF6, 0x16, 0x34, 0x12] = .ok (.notRm8 (.mem (.abs16 0x1234#16))) [] ∧
    decode c16a32 [0xF7, 0xD7] = .ok (.notRm16 (.reg 7#3)) [] ∧
    decode c32a16 [0xF7, 0x55, 0xF2] = .ok (.notRm32 (.mem (.a16 5#3 (.d8 0xF2#8)))) [] ∧
    decode c16a32 [0x0C, 0x9C] = .ok (.orAlImm8 0x9C#8) [] ∧
    decode c16a16 [0x0D, 0x78, 0x56] = .ok (.orAxImm16 0x5678#16) [] ∧
    decode c32a32 [0x0D, 0xEF, 0xCD, 0xAB, 0x89] = .ok (.orEaxImm32 0x89ABCDEF#32) [] ∧
    decode c16a16 [0x80, 0x0E, 0x34, 0x12, 0x9C] = .ok (.orRm8Imm8 (.mem (.abs16 0x1234#16)) 0x9C#8) [] ∧
    decode c16a32 [0x81, 0xCD, 0x78, 0x56] = .ok (.orRm16Imm16 (.reg 5#3) 0x5678#16) [] ∧
    decode c32a16 [0x81, 0x4D, 0xF2, 0xEF, 0xCD, 0xAB, 0x89] =
      .ok (.orRm32Imm32 (.mem (.a16 5#3 (.d8 0xF2#8))) 0x89ABCDEF#32) [] ∧
    decode c16a32 [0x83, 0x8B, 0x44, 0x33, 0x22, 0x11, 0x9C] =
      .ok (.orRm16Imm8 (.mem (.a32 3#3 (.d32 0x11223344#32))) 0x9C#8) [] ∧
    decode c32a16 [0x83, 0xC8, 0x9C] = .ok (.orRm32Imm8 (.reg 0#3) 0x9C#8) [] ∧
    decode c16a32 [0x08, 0x74, 0x71, 0xF2] = .ok (.orRm8R8 (.mem (.sib 1#2 6#3 1#3 (.d8 0xF2#8))) 6#3) [] ∧
    decode c16a16 [0x09, 0x36, 0x34, 0x12] = .ok (.orRm16R16 (.mem (.abs16 0x1234#16)) 6#3) [] ∧
    decode c32a32 [0x09, 0xF3] = .ok (.orRm32R32 (.reg 3#3) 6#3) [] := by decide +kernel

theorem test_decode_Logic_3 :
    decode c16a16 [0x0A, 0x75, 0xF2] = .ok (.orR8Rm8 6#3 (.mem (.a16 5#3 (.d8 0xF2#8)))) [] ∧
    decode c16a32 [0x0B, 0xB3, 0x44, 0x33, 0x22, 0x11] =
      .ok (.orR16Rm16 6#3 (.mem (.a32 3#3 (.d32 0x11223344#32)))) [] ∧
    decode c32a16 [0x0B, 0xF6] = .ok (.orR32Rm32 6#3 (.reg 6#3)) [] ∧
    decode c16a32 [0xD0, 0x44, 0x71, 0xF2] = .ok (.rolRm8One (.mem (.sib 1#2 6#3 1#3 (.d8 0xF2#8)))) [] ∧
    decode c16a16 [0xD2, 0x06, 0x34, 0x12] = .ok (.rolRm8Cl (.mem (.abs16 0x1234#16))) [] ∧
    decode c16a32 [0xC0, 0xC1, 0x9C] = .ok (.rolRm8Imm8 (.reg 1#3) 0x9C#8) [] ∧
    decode c16a16 [0xD1, 0x45, 0xF2] = .ok (.rolRm16One (.mem (.a16 5#3 (.d8 0xF2#8)))) [] ∧
    decode c32a32 [0xD1, 0x83, 0x44, 0x33, 0x22, 0x11] = .ok (.rolRm32One (.mem (.a32 3#3 (.d32 0x11223344#32)))) [] ∧
    decode c16a16 [0xD3, 0xC4] = .ok (.rolRm16Cl (.reg 4#3)) [] ∧
    decode c32a32 [0xD3, 0x44, 0x71, 0xF2] = .ok (.rolRm32Cl (.mem (.sib 1#2 6#3 1#3 (.d8 0xF2#8)))) [] ∧
    decode c16a16 [0xC1, 0x06, 0x34, 0x12, 0x9C] = .ok (.rolRm16Imm8 (.mem (.abs16 0x1234#16)) 0x9C#8) [] ∧
    decode c32a32 [0xC1, 0xC7, 0x9C] = .ok (.rolRm32Imm8 (.reg 7#3) 0x9C#8) [] ∧
    decode c16a16 [0xD0, 0x4D, 0xF2] = .ok (.rorRm8One (.mem (.a16 5#3 (.d8 0xF2#8)))) [] ∧
    decode c16a32 [0xD2, 0x8B, 0x44, 0x33, 0x22, 0x11] = .ok (.rorRm8Cl (.mem (.a32 3#3 (.d32 0x11223344#32)))) [] ∧
    decode c16a16 [0xC0, 0xCA, 0x9C] = .ok (.rorRm8Imm8 (.reg 2#3) 0x9C#8) [] ∧
    decode c16a32 [0xD1, 0x4C, 0x71, 0xF2] = .ok (.rorRm16One (.mem (.sib 1#2 6#3 1#3 (.d8 0xF2#8)))) [] ∧
    decode c32a16 [0xD1, 0x0E, 0x34, 0x12] = .ok (.rorRm32One (.mem (.abs16 0x1234#16))) [] ∧
    decode c16a32 [0xD3, 0xCD] = .ok (.rorRm16Cl (.reg 5#3)) [] ∧
    decode c32a16 [0xD3, 0x4D, 0xF2] = .ok (.rorRm32Cl (.mem (.a16 5#3 (.d8 0xF2#8)))) [] ∧
    decode c16a32 [0xC1, 0x8B, 0x44, 0x33, 0x22, 0x11, 0x9C] =
      .ok (.rorRm16Imm8 (.mem (.a32 3#3 (.d32 0x11223344#32))) 0x9C#8) [] ∧
    decode c32a16 [0xC1, 0xC8, 0x9C] = .ok (.rorRm32Imm8 (.reg 0#3) 0x9C#8) [] ∧
    decode c16a32 [0xD0, 0x54, 0x71, 0xF2] = .ok (.rclRm8One (.mem (.sib 1#2 6#3 1#3 (.d8 0xF2#8)))) [] ∧
    decode c16a16 [0xD2, 0x16, 0x34, 0x12] = .ok (.rclRm8Cl (.mem (.abs16 0x1234#16))) [] ∧
    decode c16a32 [0xC0, 0xD3, 0x9C] = .ok (.rclRm8Imm8 (.reg 3#3) 0x9C#8) [] := by decide +kernel

theorem test_decode_Logic_4 :
    decode c16a16 [0xD1, 0x55, 0xF2] = .ok (.rclRm16One (.mem (.a16 5#3 (.d8 0xF2#8)))) [] ∧
    decode c32a32 [0xD1, 0x93, 0x44, 0x33, 0x22, 0x11] = .ok (.rclRm32One (.mem (.a32 3#3 (.d32 0x11223344#32)))) [] ∧
    decode c16a16 [0xD3, 0xD6] = .ok (.rclRm16Cl (.reg 6#3)) [] ∧
    decode c32a32 [0xD3, 0x54, 0x71, 0xF2] = .ok (.rclRm32Cl (.mem (.sib 1#2 6#3 1#3 (.d8 0xF2#8)))) [] ∧
    decode c16a16 [0xC1, 0x16, 0x34, 0x12, 0x9C] = .ok (.rclRm16Imm8 (.mem (.abs16 0x1234#16)) 0x9C#8) [] ∧
    decode c32a32 [0xC1, 0xD1, 0x9C] = .ok (.rclRm32Imm8 (.reg 1#3) 0x9C#8) [] ∧
    decode c16a16 [0xD0, 0x5D, 0xF2] = .ok (.rcrRm8One (.mem (.a16 5#3 (.d8 0xF2#8)))) [] ∧
    decode c16a32 [0xD2, 0x9B, 0x44, 0x33, 0x22, 0x11] = .ok (.rcrRm8Cl (.mem (.a32 3#3 (.d32 0x11223344#32)))) [] ∧
    decode c16a16 [0xC0, 0xDC, 0x9C] = .ok (.rcrRm8Imm8 (.reg 4#3) 0x9C#8) [] ∧
    decode c16a32 [0xD1, 0x5C, 0x71, 0xF2] = .ok (.rcrRm16One (.mem (.sib 1#2 6#3 1#3 (.d8 0xF2#8)))) [] ∧
    decode c32a16 [0xD1, 0x1E, 0x34, 0x12] = .ok (.rcrRm32One (.mem (.abs16 0x1234#16))) [] ∧
    decode c16a32 [0xD3, 0xDF] = .ok (.rcrRm16Cl (.reg 7#3)) [] ∧
    decode c32a16 [0xD3, 0x5D, 0xF2] = .ok (.rcrRm32Cl (.mem (.a16 5#3 (.d8 0xF2#8)))) [] ∧
    decode c16a32 [0xC1, 0x9B, 0x44, 0x33, 0x22, 0x11, 0x9C] =
      .ok (.rcrRm16Imm8 (.mem (.a32 3#3 (.d32 0x11223344#32))) 0x9C#8) [] ∧
    decode c32a16 [0xC1, 0xDA, 0x9C] = .ok (.rcrRm32Imm8 (.reg 2#3) 0x9C#8) [] ∧
    decode c16a32 [0xD0, 0x64, 0x71, 0xF2] = .ok (.salRm8One (.mem (.sib 1#2 6#3 1#3 (.d8 0xF2#8)))) [] ∧
    decode c16a16 [0xD2, 0x26, 0x34, 0x12] = .ok (.salRm8Cl (.mem (.abs16 0x1234#16))) [] ∧
    decode c16a32 [0xC0, 0xE5, 0x9C] = .ok (.salRm8Imm8 (.reg 5#3) 0x9C#8) [] ∧
    decode c16a16 [0xD1, 0x65, 0xF2] = .ok (.salRm16One (.mem (.a16 5#3 (.d8 0xF2#8)))) [] ∧
    decode c32a32 [0xD1, 0xA3, 0x44, 0x33, 0x22, 0x11] = .ok (.salRm32One (.mem (.a32 3#3 (.d32 0x11223344#32)))) [] ∧
    decode c16a16 [0xD3, 0xE0] = .ok (.salRm16Cl (.reg 0#3)) [] ∧
    decode c32a32 [0xD3, 0x64, 0x71, 0xF2] = .ok (.salRm32Cl (.mem (.sib 1#2 6#3 1#3 (.d8 0xF2#8)))) [] ∧
    decode c16a16 [0xC1, 0x26, 0x34, 0x12, 0x9C] = .ok (.salRm16Imm8 (.mem (.abs16 0x1234#16)) 0x9C#8) [] ∧
    decode c32a32 [0xC1, 0xE3, 0x9C] = .ok (.salRm32Imm8 (.reg 3#3) 0x9C#8) [] := by decide +kernel

theorem test_decode_Logic_5 :
    decode c16a16 [0xD0, 0x6D, 0xF2] = .ok (.shrRm8One (.mem (.a16 5#3 (.d8 0xF2#8)))) [] ∧
    decode c16a32 [0xD2, 0xAB, 0x44, 0x33, 0x22, 0x11] = .ok (.shrRm8Cl (.mem (.a32 3#3 (.d32 0x11223344#32)))) [] ∧
    decode c16a16 [0xC0, 0xEE, 0x9C] = .ok (.shrRm8Imm8 (.reg 6#3) 0x9C#8) [] ∧
    decode c16a32 [0xD1, 0x6C, 0x71, 0xF2] = .ok (.shrRm16One (.mem (.sib 1#2 6#3 1#3 (.d8 0xF2#8)))) [] ∧
    decode c32a16 [0xD1, 0x2E, 0x34, 0x12] = .ok (.shrRm32One (.mem (.abs16 0x1234#16))) [] ∧
    decode c16a32 [0xD3, 0xE9] = .ok (.shrRm16Cl (.reg 1#3)) [] ∧
    decode c32a16 [0xD3, 0x6D, 0xF2] = .ok (.shrRm32Cl (.mem (.a16 5#3 (.d8 0xF2#8)))) [] ∧
    decode c16a32 [0xC1, 0xAB, 0x44, 0x33, 0x22, 0x11, 0x9C] =
      .ok (.shrRm16Imm8 (.mem (.a32 3#3 (.d32 0x11223344#32))) 0x9C#8) [] ∧
    decode c32a16 [0xC1, 0xEC, 0x9C] = .ok (.shrRm32Imm8 (.reg 4#3) 0x9C#8) [] ∧
    decode c16a32 [0xD0, 0x7C, 0x71, 0xF2] = .ok (.sarRm8One (.mem (.sib 1#2 6#3 1#3 (.d8 0xF2#8)))) [] ∧
    decode c16a16 [0xD2, 0x3E, 0x34, 0x12] = .ok (.sarRm8Cl (.mem (.abs16 0x1234#16))) [] ∧
    decode c16a32 [0xC0, 0xFF, 0x9C] = .ok (.sarRm8Imm8 (.reg 7#3) 0x9C#8) [] ∧
    decode c16a16 [0xD1, 0x7D, 0xF2] = .ok (.sarRm16One (.mem (.a16 5#3 (.d8 0xF2#8)))) [] ∧
    decode c32a32 [0xD1, 0xBB, 0x44, 0x33, 0x22, 0x11] = .ok (.sarRm32One (.mem (.a32 3#3 (.d32 0x11223344#32)))) [] ∧
    decode c16a16 [0xD3, 0xFA] = .ok (.sarRm16Cl (.reg 2#3)) [] ∧
    decode c32a32 [0xD3, 0x7C, 0x71, 0xF2] = .ok (.sarRm32Cl (.mem (.sib 1#2 6#3 1#3 (.d8 0xF2#8)))) [] ∧
    decode c16a16 [0xC1, 0x3E, 0x34, 0x12, 0x9C] = .ok (.sarRm16Imm8 (.mem (.abs16 0x1234#16)) 0x9C#8) [] ∧
    decode c32a32 [0xC1, 0xFD, 0x9C] = .ok (.sarRm32Imm8 (.reg 5#3) 0x9C#8) [] ∧
    decode c16a16 [0x0F, 0x90, 0x45, 0xF2] = .ok (.setoRm8 (.mem (.a16 5#3 (.d8 0xF2#8)))) [] ∧
    decode c16a32 [0x0F, 0x91, 0x83, 0x44, 0x33, 0x22, 0x11] =
      .ok (.setnoRm8 (.mem (.a32 3#3 (.d32 0x11223344#32)))) [] ∧
    decode c16a16 [0x0F, 0x92, 0xC0] = .ok (.setbRm8 (.reg 0#3)) [] ∧
    decode c16a32 [0x0F, 0x93, 0x44, 0x71, 0xF2] = .ok (.setaeRm8 (.mem (.sib 1#2 6#3 1#3 (.d8 0xF2#8)))) [] ∧
    decode c16a16 [0x0F, 0x94, 0x06, 0x34, 0x12] = .ok (.seteRm8 (.mem (.abs16 0x1234#16))) [] ∧
    decode c16a32 [0x0F, 0x95, 0xC3] = .ok (.setneRm8 (.reg 3#3)) [] := by decide +kernel

theorem test_decode_Logic_6 :
    decode c16a16 [0x0F, 0x96, 0x45, 0xF2] = .ok (.setbeRm8 (.mem (.a16 5#3 (.d8 0xF2#8)))) [] ∧
    decode c16a32 [0x0F, 0x97, 0x83, 0x44, 0x33, 0x22, 0x11] =
      .ok (.setaRm8 (.mem (.a32 3#3 (.d32 0x11223344#32)))) [] ∧
    decode c16a16 [0x0F, 0x98, 0xC6] = .ok (.setsRm8 (.reg 6#3)) [] ∧
    decode c16a32 [0x0F, 0x99, 0x44, 0x71, 0xF2] = .ok (.setnsRm8 (.mem (.sib 1#2 6#3 1#3 (.d8 0xF2#8)))) [] ∧
    decode c16a16 [0x0F, 0x9A, 0x06, 0x34, 0x12] = .ok (.setpRm8 (.mem (.abs16 0x1234#16))) [] ∧
    decode c16a32 [0x0F, 0x9B, 0xC1] = .ok (.setnpRm8 (.reg 1#3)) [] ∧
    decode c16a16 [0x0F, 0x9C, 0x45, 0xF2] = .ok (.setlRm8 (.mem (.a16 5#3 (.d8 0xF2#8)))) [] ∧
    decode c16a32 [0x0F, 0x9D, 0x83, 0x44, 0x33, 0x22, 0x11] =
      .ok (.setgeRm8 (.mem (.a32 3#3 (.d32 0x11223344#32)))) [] ∧
    decode c16a16 [0x0F, 0x9E, 0xC4] = .ok (.setleRm8 (.reg 4#3)) [] ∧
    decode c16a32 [0x0F, 0x9F, 0x44, 0x71, 0xF2] = .ok (.setgRm8 (.mem (.sib 1#2 6#3 1#3 (.d8 0xF2#8)))) [] ∧
    decode c16a16 [0x0F, 0xA4, 0x36, 0x34, 0x12, 0x9C] =
      .ok (.shldRm16R16Imm8 (.mem (.abs16 0x1234#16)) 6#3 0x9C#8) [] ∧
    decode c32a32 [0x0F, 0xA4, 0xF7, 0x9C] = .ok (.shldRm32R32Imm8 (.reg 7#3) 6#3 0x9C#8) [] ∧
    decode c16a16 [0x0F, 0xA5, 0x75, 0xF2] = .ok (.shldRm16R16Cl (.mem (.a16 5#3 (.d8 0xF2#8))) 6#3) [] ∧
    decode c32a32 [0x0F, 0xA5, 0xB3, 0x44, 0x33, 0x22, 0x11] =
      .ok (.shldRm32R32Cl (.mem (.a32 3#3 (.d32 0x11223344#32))) 6#3) [] ∧
    decode c16a16 [0x0F, 0xAC, 0xF2, 0x9C] = .ok (.shrdRm16R16Imm8 (.reg 2#3) 6#3 0x9C#8) [] ∧
    decode c32a32 [0x0F, 0xAC, 0x74, 0x71, 0xF2, 0x9C] =
      .ok (.shrdRm32R32Imm8 (.mem (.sib 1#2 6#3 1#3 (.d8 0xF2#8))) 6#3 0x9C#8) [] ∧
    decode c16a16 [0x0F, 0xAD, 0x36, 0x34, 0x12] = .ok (.shrdRm16R16Cl (.mem (.abs16 0x1234#16)) 6#3) [] ∧
    decode c32a32 [0x0F, 0xAD, 0xF5] = .ok (.shrdRm32R32Cl (.reg 5#3) 6#3) [] ∧
    decode c16a16 [0xA8, 0x9C] = .ok (.testAlImm8 0x9C#8) [] ∧
    decode c16a32 [0xA9, 0x78, 0x56] = .ok (.testAxImm16 0x5678#16) [] ∧
    decode c32a16 [0xA9, 0xEF, 0xCD, 0xAB, 0x89] = .ok (.testEaxImm32 0x89ABCDEF#32) [] ∧
    decode c16a32 [0xF6, 0x44, 0x71, 0xF2, 0x9C] = .ok (.testRm8Imm8 (.mem (.sib 1#2 6#3 1#3 (.d8 0xF2#8))) 0x9C#8) [] ∧
    decode c16a16 [0xF7, 0x06, 0x34, 0x12, 0x78, 0x56] = .ok (.testRm16Imm16 (.mem (.abs16 0x1234#16)) 0x5678#16) [] ∧
    decode c32a32 [0xF7, 0xC3, 0xEF, 0xCD, 0xAB, 0x89] =
      .ok (.testRm32Imm32 (.reg 3#3) 0x89ABCDEF#32) [] := by decide +kernel

theorem test_decode_Logic_7 :
    decode c16a16 [0x84, 0x75, 0xF2] = .ok (.testRm8R8 (.mem (.a16 5#3 (.d8 0xF2#8))) 6#3) [] ∧
    decode c16a32 [0x85, 0xB3, 0x44, 0x33, 0x22, 0x11] =
      .ok (.testRm16R16 (.mem (.a32 3#3 (.d32 0x11223344#32))) 6#3) [] ∧
    decode c32a16 [0x85, 0xF6] = .ok (.testRm32R32 (.reg 6#3) 6#3) [] ∧
    decode c16a32 [0x34, 0x9C] = .ok (.xorAlImm8 0x9C#8) [] ∧
    decode c16a16 [0x35, 0x78, 0x56] = .ok (.xorAxImm16 0x5678#16) [] ∧
    decode c32a32 [0x35, 0xEF, 0xCD, 0xAB, 0x89] = .ok (.xorEaxImm32 0x89ABCDEF#32) [] ∧
    decode c16a16 [0x80, 0x75, 0xF2, 0x9C] = .ok (.xorRm8Imm8 (.mem (.a16 5#3 (.d8 0xF2#8))) 0x9C#8) [] ∧
    decode c16a32 [0x81, 0xB3, 0x44, 0x33, 0x22, 0x11, 0x78, 0x56] =
      .ok (.xorRm16Imm16 (.mem (.a32 3#3 (.d32 0x11223344#32))) 0x5678#16) [] ∧
    decode c32a16 [0x81, 0xF4, 0xEF, 0xCD, 0xAB, 0x89] = .ok (.xorRm32Imm32 (.reg 4#3) 0x89ABCDEF#32) [] ∧
    decode c16a32 [0x83, 0x74, 0x71, 0xF2, 0x9C] = .ok (.xorRm16Imm8 (.mem (.sib 1#2 6#3 1#3 (.d8 0xF2#8))) 0x9C#8) [] ∧
    decode c32a16 [0x83, 0x36, 0x34, 0x12, 0x9C] = .ok (.xorRm32Imm8 (.mem (.abs16 0x1234#16)) 0x9C#8) [] ∧
    decode c16a32 [0x30, 0xF7] = .ok (.xorRm8R8 (.reg 7#3) 6#3) [] ∧
    decode c16a16 [0x31, 0x75, 0xF2] = .ok (.xorRm16R16 (.mem (.a16 5#3 (.d8 0xF2#8))) 6#3) [] ∧
    decode c32a32 [0x31, 0xB3, 0x44, 0x33, 0x22, 0x11] =
      .ok (.xorRm32R32 (.mem (.a32 3#3 (.d32 0x11223344#32))) 6#3) [] ∧
    decode c16a16 [0x32, 0xF2] = .ok (.xorR8Rm8 6#3 (.reg 2#3)) [] ∧
    decode c16a32 [0x33, 0x74, 0x71, 0xF2] = .ok (.xorR16Rm16 6#3 (.mem (.sib 1#2 6#3 1#3 (.d8 0xF2#8)))) [] ∧
    decode c32a16 [0x33, 0x36, 0x34, 0x12] = .ok (.xorR32Rm32 6#3 (.mem (.abs16 0x1234#16))) [] := by decide +kernel

theorem test_decode_Control_1 :
    decode c16a32 [0xE8, 0x78, 0x56] = .ok (.callRel16 0x5678#16) [] ∧
    decode c32a16 [0xE8, 0xEF, 0xCD, 0xAB, 0x89] = .ok (.callRel32 0x89ABCDEF#32) [] ∧
    decode c16a32 [0xFF, 0x93, 0x44, 0x33, 0x22, 0x11] = .ok (.callRm16 (.mem (.a32 3#3 (.d32 0x11223344#32)))) [] ∧
    decode c32a16 [0xFF, 0xD0] = .ok (.callRm32 (.reg 0#3)) [] ∧
    decode c16a32 [0x9A, 0x57, 0x13, 0x68, 0x24] = .ok (.callPtr16x16 0x2468#16 0x1357#16) [] ∧
    decode c32a16 [0x9A, 0xDF, 0x9B, 0x57, 0x13, 0x68, 0x24] = .ok (.callPtr16x32 0x2468#16 0x13579BDF#32) [] ∧
    decode c16a32 [0xFF, 0x9B, 0x44, 0x33, 0x22, 0x11] = .ok (.callM16x16 (.a32 3#3 (.d32 0x11223344#32))) [] ∧
    decode c32a16 [0xFF, 0x5D, 0xF2] = .ok (.callM16x32 (.a16 5#3 (.d8 0xF2#8))) [] ∧
    decode c16a32 [0xCC] = .ok .int3 [] ∧
    decode c16a16 [0xCD, 0x9C] = .ok (.intImm8 0x9C#8) [] ∧
    decode c16a32 [0xCE] = .ok .into [] ∧
    decode c16a16 [0xCF] = .ok .iret [] ∧
    decode c32a32 [0xCF] = .ok .iretd [] ∧
    decode c16a16 [0x70, 0x9C] = .ok (.joRel8 0x9C#8) [] ∧
    decode c16a32 [0x71, 0x9C] = .ok (.jnoRel8 0x9C#8) [] ∧
    decode c16a16 [0x72, 0x9C] = .ok (.jbRel8 0x9C#8) [] ∧
    decode c16a32 [0x73, 0x9C] = .ok (.jaeRel8 0x9C#8) [] ∧
    decode c16a16 [0x74, 0x9C] = .ok (.jeRel8 0x9C#8) [] ∧
    decode c16a32 [0x75, 0x9C] = .ok (.jneRel8 0x9C#8) [] ∧
    decode c16a16 [0x76, 0x9C] = .ok (.jbeRel8 0x9C#8) [] ∧
    decode c16a32 [0x77, 0x9C] = .ok (.jaRel8 0x9C#8) [] ∧
    decode c16a16 [0x78, 0x9C] = .ok (.jsRel8 0x9C#8) [] ∧
    decode c16a32 [0x79, 0x9C] = .ok (.jnsRel8 0x9C#8) [] ∧
    decode c16a16 [0x7A, 0x9C] = .ok (.jpRel8 0x9C#8) [] := by decide +kernel

theorem test_decode_Control_2 :
    decode c16a32 [0x7B, 0x9C] = .ok (.jnpRel8 0x9C#8) [] ∧
    decode c16a16 [0x7C, 0x9C] = .ok (.jlRel8 0x9C#8) [] ∧
    decode c16a32 [0x7D, 0x9C] = .ok (.jgeRel8 0x9C#8) [] ∧
    decode c16a16 [0x7E, 0x9C] = .ok (.jleRel8 0x9C#8) [] ∧
    decode c16a32 [0x7F, 0x9C] = .ok (.jgRel8 0x9C#8) [] ∧
    decode c16a16 [0x0F, 0x80, 0x78, 0x56] = .ok (.joRel16 0x5678#16) [] ∧
    decode c16a32 [0x0F, 0x81, 0x78, 0x56] = .ok (.jnoRel16 0x5678#16) [] ∧
    decode c16a16 [0x0F, 0x82, 0x78, 0x56] = .ok (.jbRel16 0x5678#16) [] ∧
    decode c16a32 [0x0F, 0x83, 0x78, 0x56] = .ok (.jaeRel16 0x5678#16) [] ∧
    decode c16a16 [0x0F, 0x84, 0x78, 0x56] = .ok (.jeRel16 0x5678#16) [] ∧
    decode c16a32 [0x0F, 0x85, 0x78, 0x56] = .ok (.jneRel16 0x5678#16) [] ∧
    decode c16a16 [0x0F, 0x86, 0x78, 0x56] = .ok (.jbeRel16 0x5678#16) [] ∧
    decode c16a32 [0x0F, 0x87, 0x78, 0x56] = .ok (.jaRel16 0x5678#16) [] ∧
    decode c16a16 [0x0F, 0x88, 0x78, 0x56] = .ok (.jsRel16 0x5678#16) [] ∧
    decode c16a32 [0x0F, 0x89, 0x78, 0x56] = .ok (.jnsRel16 0x5678#16) [] ∧
    decode c16a16 [0x0F, 0x8A, 0x78, 0x56] = .ok (.jpRel16 0x5678#16) [] ∧
    decode c16a32 [0x0F, 0x8B, 0x78, 0x56] = .ok (.jnpRel16 0x5678#16) [] ∧
    decode c16a16 [0x0F, 0x8C, 0x78, 0x56] = .ok (.jlRel16 0x5678#16) [] ∧
    decode c16a32 [0x0F, 0x8D, 0x78, 0x56] = .ok (.jgeRel16 0x5678#16) [] ∧
    decode c16a16 [0x0F, 0x8E, 0x78, 0x56] = .ok (.jleRel16 0x5678#16) [] ∧
    decode c16a32 [0x0F, 0x8F, 0x78, 0x56] = .ok (.jgRel16 0x5678#16) [] ∧
    decode c32a16 [0x0F, 0x80, 0xEF, 0xCD, 0xAB, 0x89] = .ok (.joRel32 0x89ABCDEF#32) [] ∧
    decode c32a32 [0x0F, 0x81, 0xEF, 0xCD, 0xAB, 0x89] = .ok (.jnoRel32 0x89ABCDEF#32) [] ∧
    decode c32a16 [0x0F, 0x82, 0xEF, 0xCD, 0xAB, 0x89] = .ok (.jbRel32 0x89ABCDEF#32) [] := by decide +kernel

theorem test_decode_Control_3 :
    decode c32a32 [0x0F, 0x83, 0xEF, 0xCD, 0xAB, 0x89] = .ok (.jaeRel32 0x89ABCDEF#32) [] ∧
    decode c32a16 [0x0F, 0x84, 0xEF, 0xCD, 0xAB, 0x89] = .ok (.jeRel32 0x89ABCDEF#32) [] ∧
    decode c32a32 [0x0F, 0x85, 0xEF, 0xCD, 0xAB, 0x89] = .ok (.jneRel32 0x89ABCDEF#32) [] ∧
    decode c32a16 [0x0F, 0x86, 0xEF, 0xCD, 0xAB, 0x89] = .ok (.jbeRel32 0x89ABCDEF#32) [] ∧
    decode c32a32 [0x0F, 0x87, 0xEF, 0xCD, 0xAB, 0x89] = .ok (.jaRel32 0x89ABCDEF#32) [] ∧
    decode c32a16 [0x0F, 0x88, 0xEF, 0xCD, 0xAB, 0x89] = .ok (.jsRel32 0x89ABCDEF#32) [] ∧
    decode c32a32 [0x0F, 0x89, 0xEF, 0xCD, 0xAB, 0x89] = .ok (.jnsRel32 0x89ABCDEF#32) [] ∧
    decode c32a16 [0x0F, 0x8A, 0xEF, 0xCD, 0xAB, 0x89] = .ok (.jpRel32 0x89ABCDEF#32) [] ∧
    decode c32a32 [0x0F, 0x8B, 0xEF, 0xCD, 0xAB, 0x89] = .ok (.jnpRel32 0x89ABCDEF#32) [] ∧
    decode c32a16 [0x0F, 0x8C, 0xEF, 0xCD, 0xAB, 0x89] = .ok (.jlRel32 0x89ABCDEF#32) [] ∧
    decode c32a32 [0x0F, 0x8D, 0xEF, 0xCD, 0xAB, 0x89] = .ok (.jgeRel32 0x89ABCDEF#32) [] ∧
    decode c32a16 [0x0F, 0x8E, 0xEF, 0xCD, 0xAB, 0x89] = .ok (.jleRel32 0x89ABCDEF#32) [] ∧
    decode c32a32 [0x0F, 0x8F, 0xEF, 0xCD, 0xAB, 0x89] = .ok (.jgRel32 0x89ABCDEF#32) [] ∧
    decode c16a16 [0xE3, 0x9C] = .ok (.jcxzRel8 0x9C#8) [] ∧
    decode c16a32 [0xE3, 0x9C] = .ok (.jecxzRel8 0x9C#8) [] ∧
    decode c16a16 [0xEB, 0x9C] = .ok (.jmpRel8 0x9C#8) [] ∧
    decode c16a32 [0xE9, 0x78, 0x56] = .ok (.jmpRel16 0x5678#16) [] ∧
    decode c32a16 [0xE9, 0xEF, 0xCD, 0xAB, 0x89] = .ok (.jmpRel32 0x89ABCDEF#32) [] ∧
    decode c16a32 [0xFF, 0xE7] = .ok (.jmpRm16 (.reg 7#3)) [] ∧
    decode c32a16 [0xFF, 0x65, 0xF2] = .ok (.jmpRm32 (.mem (.a16 5#3 (.d8 0xF2#8)))) [] ∧
    decode c16a32 [0xEA, 0x57, 0x13, 0x68, 0x24] = .ok (.jmpPtr16x16 0x2468#16 0x1357#16) [] ∧
    decode c32a16 [0xEA, 0xDF, 0x9B, 0x57, 0x13, 0x68, 0x24] = .ok (.jmpPtr16x32 0x2468#16 0x13579BDF#32) [] ∧
    decode c16a32 [0xFF, 0x6C, 0x71, 0xF2] = .ok (.jmpM16x16 (.sib 1#2 6#3 1#3 (.d8 0xF2#8))) [] ∧
    decode c32a16 [0xFF, 0x2E, 0x34, 0x12] = .ok (.jmpM16x32 (.abs16 0x1234#16)) [] := by decide +kernel

theorem test_decode_Control_4 :
    decode c16a32 [0xC3] = .ok .retNear [] ∧
    decode c16a16 [0xC2, 0x78, 0x56] = .ok (.retNearImm16 0x5678#16) [] ∧
    decode c16a32 [0xCB] = .ok .retFar [] ∧
    decode c16a16 [0xCA, 0x78, 0x56] = .ok (.retFarImm16 0x5678#16) [] ∧
    decode c16a32 [0x62, 0x74, 0x71, 0xF2] = .ok (.boundR16M16a16 6#3 (.sib 1#2 6#3 1#3 (.d8 0xF2#8))) [] ∧
    decode c32a16 [0x62, 0x36, 0x34, 0x12] = .ok (.boundR32M32a32 6#3 (.abs16 0x1234#16)) [] ∧
    decode c16a32 [0xC8, 0x78, 0x56, 0x9C] = .ok (.enterImm16Imm8 0x5678#16 0x9C#8) [] ∧
    decode c16a16 [0xC9] = .ok .leave [] ∧
    decode c16a32 [0xE2, 0x9C] = .ok (.loopRel8 0x9C#8) [] ∧
    decode c16a16 [0xE1, 0x9C] = .ok (.loopeRel8 0x9C#8) [] ∧
    decode c16a32 [0xE0, 0x9C] = .ok (.loopneRel8 0x9C#8) [] ∧
    decode c16a16 [0x0F, 0x0B] = .ok .ud2 [] := by decide +kernel

theorem test_decode_Strings_1 :
    decode c16a32 [0xA6] = .ok .cmpsb [] ∧
    decode c16a16 [0xA7] = .ok .cmpsw [] ∧
    decode c32a32 [0xA7] = .ok .cmpsd [] ∧
    decode c16a16 [0xE4, 0x9C] = .ok (.inAlImm8 0x9C#8) [] ∧
    decode c16a32 [0xE5, 0x9C] = .ok (.inAxImm8 0x9C#8) [] ∧
    decode c32a16 [0xE5, 0x9C] = .ok (.inEaxImm8 0x9C#8) [] ∧
    decode c16a32 [0xEC] = .ok .inAlDx [] ∧
    decode c16a16 [0xED] = .ok .inAxDx [] ∧
    decode c32a32 [0xED] = .ok .inEaxDx [] ∧
    decode c16a16 [0x6C] = .ok .insb [] ∧
    decode c16a32 [0x6D] = .ok .insw [] ∧
    decode c32a16 [0x6D] = .ok .insd [] ∧
    decode c16a32 [0xAC] = .ok .lodsb [] ∧
    decode c16a16 [0xAD] = .ok .lodsw [] ∧
    decode c32a32 [0xAD] = .ok .lodsd [] ∧
    decode c16a16 [0xA4] = .ok .movsb [] ∧
    decode c16a32 [0xA5] = .ok .movsw [] ∧
    decode c32a16 [0xA5] = .ok .movsd [] ∧
    decode c16a32 [0xE6, 0x9C] = .ok (.outImm8Al 0x9C#8) [] ∧
    decode c16a16 [0xE7, 0x9C] = .ok (.outImm8Ax 0x9C#8) [] ∧
    decode c32a32 [0xE7, 0x9C] = .ok (.outImm8Eax 0x9C#8) [] ∧
    decode c16a16 [0xEE] = .ok .outDxAl [] ∧
    decode c16a32 [0xEF] = .ok .outDxAx [] ∧
    decode c32a16 [0xEF] = .ok .outDxEax [] := by decide +kernel

theorem test_decode_Strings_2 :
    decode c16a32 [0x6E] = .ok .outsb [] ∧
    decode c16a16 [0x6F] = .ok .outsw [] ∧
    decode c32a32 [0x6F] = .ok .outsd [] ∧
    decode c16a16 [0xAE] = .ok .scasb [] ∧
    decode c16a32 [0xAF] = .ok .scasw [] ∧
    decode c32a16 [0xAF] = .ok .scasd [] ∧
    decode c16a32 [0xAA] = .ok .stosb [] ∧
    decode c16a16 [0xAB] = .ok .stosw [] ∧
    decode c32a32 [0xAB] = .ok .stosd [] := by decide +kernel

theorem test_decode_FlagSeg_1 :
    decode c16a16 [0xF8] = .ok .clc [] ∧
    decode c16a32 [0xFC] = .ok .cld [] ∧
    decode c16a16 [0xFA] = .ok .cli [] ∧
    decode c16a32 [0xF5] = .ok .cmc [] ∧
    decode c16a16 [0x9F] = .ok .lahf [] ∧
    decode c16a32 [0xC5, 0xB3, 0x44, 0x33, 0x22, 0x11] = .ok (.ldsR16M16x16 6#3 (.a32 3#3 (.d32 0x11223344#32))) [] ∧
    decode c32a16 [0xC5, 0x36, 0x34, 0x12] = .ok (.ldsR32M16x32 6#3 (.abs16 0x1234#16)) [] ∧
    decode c16a32 [0x0F, 0xB2, 0x74, 0x71, 0xF2] = .ok (.lssR16M16x16 6#3 (.sib 1#2 6#3 1#3 (.d8 0xF2#8))) [] ∧
    decode c32a16 [0x0F, 0xB2, 0x36, 0x34, 0x12] = .ok (.lssR32M16x32 6#3 (.abs16 0x1234#16)) [] ∧
    decode c16a32 [0xC4, 0xB3, 0x44, 0x33, 0x22, 0x11] = .ok (.lesR16M16x16 6#3 (.a32 3#3 (.d32 0x11223344#32))) [] ∧
    decode c32a16 [0xC4, 0x75, 0xF2] = .ok (.lesR32M16x32 6#3 (.a16 5#3 (.d8 0xF2#8))) [] ∧
    decode c16a32 [0x0F, 0xB4, 0xB3, 0x44, 0x33, 0x22, 0x11] =
      .ok (.lfsR16M16x16 6#3 (.a32 3#3 (.d32 0x11223344#32))) [] ∧
    decode c32a16 [0x0F, 0xB4, 0x36, 0x34, 0x12] = .ok (.lfsR32M16x32 6#3 (.abs16 0x1234#16)) [] ∧
    decode c16a32 [0x0F, 0xB5, 0x74, 0x71, 0xF2] = .ok (.lgsR16M16x16 6#3 (.sib 1#2 6#3 1#3 (.d8 0xF2#8))) [] ∧
    decode c32a16 [0x0F, 0xB5, 0x36, 0x34, 0x12] = .ok (.lgsR32M16x32 6#3 (.abs16 0x1234#16)) [] ∧
    decode c16a32 [0x8D, 0xB3, 0x44, 0x33, 0x22, 0x11] = .ok (.leaR16M 6#3 (.a32 3#3 (.d32 0x11223344#32))) [] ∧
    decode c32a16 [0x8D, 0x75, 0xF2] = .ok (.leaR32M 6#3 (.a16 5#3 (.d8 0xF2#8))) [] ∧
    decode c16a32 [0x0F, 0xA2] = .ok .cpuid [] ∧
    decode c16a16 [0x90] = .ok .nop [] ∧
    decode c16a32 [0x9D] = .ok .popf [] ∧
    decode c32a16 [0x9D] = .ok .popfd [] ∧
    decode c16a32 [0x9C] = .ok .pushf [] ∧
    decode c32a16 [0x9C] = .ok .pushfd [] ∧
    decode c16a32 [0x9E] = .ok .sahf [] := by decide +kernel

theorem test_decode_FlagSeg_2 :
    decode c16a16 [0xF9] = .ok .stc [] ∧
    decode c16a32 [0xFD] = .ok .std [] ∧
    decode c16a16 [0xFB] = .ok .sti [] := by decide +kernel

theorem test_decode_FpuControl_1 :
    decode c16a32 [0xDB, 0xE0] = .ok .feni [] ∧
    decode c16a16 [0xDB, 0xE1] = .ok .fdisi [] ∧
    decode c16a32 [0xDB, 0xE4] = .ok .fsetpm [] ∧
    decode c16a32 [0xDB, 0xE2] = .ok .fnclex [] ∧
    decode c16a16 [0x9B, 0xDB, 0xE2] = .ok .fclex [] ∧
    decode c16a32 [0xD9, 0xF6] = .ok .fdecstp [] ∧
    decode c16a16 [0xDD, 0xC5] = .ok (.ffreeSti 5#3) [] ∧
    decode c16a32 [0xD9, 0xF7] = .ok .fincstp [] ∧
    decode c16a16 [0xDB, 0xE3] = .ok .fninit [] ∧
    decode c16a16 [0x9B, 0xDB, 0xE3] = .ok .finit [] ∧
    decode c16a16 [0xD9, 0x2E, 0x34, 0x12] = .ok (.fldcwM2byte (.abs16 0x1234#16)) [] ∧
    decode c16a32 [0xD9, 0xA3, 0x44, 0x33, 0x22, 0x11] = .ok (.fldenvMEnv (.a32 3#3 (.d32 0x11223344#32))) [] ∧
    decode c16a16 [0xD9, 0xD0] = .ok .fnop [] ∧
    decode c16a32 [0xDD, 0xA3, 0x44, 0x33, 0x22, 0x11] = .ok (.frstorMState (.a32 3#3 (.d32 0x11223344#32))) [] ∧
    decode c16a16 [0xDD, 0x36, 0x34, 0x12] = .ok (.fnsaveMState (.abs16 0x1234#16)) [] ∧
    decode c16a16 [0x9B, 0xDD, 0x75, 0xF2] = .ok (.fsaveMState (.a16 5#3 (.d8 0xF2#8))) [] ∧
    decode c16a16 [0xD9, 0x3E, 0x34, 0x12] = .ok (.fnstcwM2byte (.abs16 0x1234#16)) [] ∧
    decode c16a16 [0x9B, 0xD9, 0x3E, 0x34, 0x12] = .ok (.fstcwM2byte (.abs16 0x1234#16)) [] ∧
    decode c16a16 [0xD9, 0x75, 0xF2] = .ok (.fnstenvMEnv (.a16 5#3 (.d8 0xF2#8))) [] ∧
    decode c16a16 [0x9B, 0xD9, 0x36, 0x34, 0x12] = .ok (.fstenvMEnv (.abs16 0x1234#16)) [] ∧
    decode c16a16 [0xDD, 0x3E, 0x34, 0x12] = .ok (.fnstswM2byte (.abs16 0x1234#16)) [] ∧
    decode c16a32 [0xDF, 0xE0] = .ok .fnstswAx [] ∧
    decode c16a16 [0x9B, 0xDD, 0x3E, 0x34, 0x12] = .ok (.fstswM2byte (.abs16 0x1234#16)) [] ∧
    decode c16a16 [0x9B, 0xDF, 0xE0] = .ok .fstswAx [] := by decide +kernel

theorem test_decode_FpuControl_2 :
    decode c16a16 [0x9B] = .ok .wait [] := by decide +kernel

theorem test_decode_FpuData_1 :
    decode c16a16 [0xDF, 0x26, 0x34, 0x12] = .ok (.fbldM80dec (.abs16 0x1234#16)) [] ∧
    decode c16a32 [0xDF, 0x74, 0x71, 0xF2] = .ok (.fbstpM80bcd (.sib 1#2 6#3 1#3 (.d8 0xF2#8))) [] ∧
    decode c16a16 [0xDA, 0xC5] = .ok (.fcmovbSt0Sti 5#3) [] ∧
    decode c16a32 [0xDA, 0xCD] = .ok (.fcmoveSt0Sti 5#3) [] ∧
    decode c16a16 [0xDA, 0xD5] = .ok (.fcmovbeSt0Sti 5#3) [] ∧
    decode c16a32 [0xDA, 0xDD] = .ok (.fcmovuSt0Sti 5#3) [] ∧
    decode c16a16 [0xDB, 0xC5] = .ok (.fcmovnbSt0Sti 5#3) [] ∧
    decode c16a32 [0xDB, 0xCD] = .ok (.fcmovneSt0Sti 5#3) [] ∧
    decode c16a16 [0xDB, 0xD5] = .ok (.fcmovnbeSt0Sti 5#3) [] ∧
    decode c16a32 [0xDB, 0xDD] = .ok (.fcmovnuSt0Sti 5#3) [] ∧
    decode c16a16 [0xD8, 0x55, 0xF2] = .ok (.fcomM32real (.a16 5#3 (.d8 0xF2#8))) [] ∧
    decode c16a32 [0xDC, 0x93, 0x44, 0x33, 0x22, 0x11] = .ok (.fcomM64real (.a32 3#3 (.d32 0x11223344#32))) [] ∧
    decode c16a16 [0xD8, 0xD5] = .ok (.fcomSti 5#3) [] ∧
    decode c16a32 [0xD8, 0x5C, 0x71, 0xF2] = .ok (.fcompM32real (.sib 1#2 6#3 1#3 (.d8 0xF2#8))) [] ∧
    decode c16a16 [0xDC, 0x1E, 0x34, 0x12] = .ok (.fcompM64real (.abs16 0x1234#16)) [] ∧
    decode c16a32 [0xD8, 0xDD] = .ok (.fcompSti 5#3) [] ∧
    decode c16a16 [0xDE, 0xD9] = .ok .fcompp [] ∧
    decode c16a32 [0xDB, 0xF5] = .ok (.fcomiSt0Sti 5#3) [] ∧
    decode c16a16 [0xDF, 0xF5] = .ok (.fcomipSt0Sti 5#3) [] ∧
    decode c16a32 [0xDB, 0xED] = .ok (.fucomiSt0Sti 5#3) [] ∧
    decode c16a16 [0xDF, 0xED] = .ok (.fucomipSt0Sti 5#3) [] ∧
    decode c16a32 [0xDE, 0x93, 0x44, 0x33, 0x22, 0x11] = .ok (.ficomM16int (.a32 3#3 (.d32 0x11223344#32))) [] ∧
    decode c16a16 [0xDA, 0x55, 0xF2] = .ok (.ficomM32int (.a16 5#3 (.d8 0xF2#8))) [] ∧
    decode c16a32 [0xDE, 0x9B, 0x44, 0x33, 0x22, 0x11] =
      .ok (.ficompM16int (.a32 3#3 (.d32 0x11223344#32))) [] := by decide +kernel

theorem test_decode_FpuData_2 :
    decode c16a16 [0xDA, 0x1E, 0x34, 0x12] = .ok (.ficompM32int (.abs16 0x1234#16)) [] ∧
    decode c16a32 [0xDF, 0x44, 0x71, 0xF2] = .ok (.fildM16int (.sib 1#2 6#3 1#3 (.d8 0xF2#8))) [] ∧
    decode c16a16 [0xDB, 0x06, 0x34, 0x12] = .ok (.fildM32int (.abs16 0x1234#16)) [] ∧
    decode c16a32 [0xDF, 0xAB, 0x44, 0x33, 0x22, 0x11] = .ok (.fildM64int (.a32 3#3 (.d32 0x11223344#32))) [] ∧
    decode c16a16 [0xDF, 0x55, 0xF2] = .ok (.fistM16int (.a16 5#3 (.d8 0xF2#8))) [] ∧
    decode c16a32 [0xDB, 0x93, 0x44, 0x33, 0x22, 0x11] = .ok (.fistM32int (.a32 3#3 (.d32 0x11223344#32))) [] ∧
    decode c16a16 [0xDF, 0x1E, 0x34, 0x12] = .ok (.fistpM16int (.abs16 0x1234#16)) [] ∧
    decode c16a32 [0xDB, 0x5C, 0x71, 0xF2] = .ok (.fistpM32int (.sib 1#2 6#3 1#3 (.d8 0xF2#8))) [] ∧
    decode c16a16 [0xDF, 0x3E, 0x34, 0x12] = .ok (.fistpM64int (.abs16 0x1234#16)) [] ∧
    decode c16a32 [0xD9, 0x83, 0x44, 0x33, 0x22, 0x11] = .ok (.fldM32real (.a32 3#3 (.d32 0x11223344#32))) [] ∧
    decode c16a16 [0xDD, 0x45, 0xF2] = .ok (.fldM64real (.a16 5#3 (.d8 0xF2#8))) [] ∧
    decode c16a32 [0xDB, 0xAB, 0x44, 0x33, 0x22, 0x11] = .ok (.fldM80real (.a32 3#3 (.d32 0x11223344#32))) [] ∧
    decode c16a16 [0xD9, 0xC5] = .ok (.fldSti 5#3) [] ∧
    decode c16a32 [0xD9, 0xE8] = .ok .fld1 [] ∧
    decode c16a16 [0xD9, 0xE9] = .ok .fldl2t [] ∧
    decode c16a32 [0xD9, 0xEA] = .ok .fldl2e [] ∧
    decode c16a16 [0xD9, 0xEB] = .ok .fldpi [] ∧
    decode c16a32 [0xD9, 0xEC] = .ok .fldlg2 [] ∧
    decode c16a16 [0xD9, 0xED] = .ok .fldln2 [] ∧
    decode c16a32 [0xD9, 0xEE] = .ok .fldz [] ∧
    decode c16a16 [0xD9, 0x16, 0x34, 0x12] = .ok (.fstM32real (.abs16 0x1234#16)) [] ∧
    decode c16a32 [0xDD, 0x93, 0x44, 0x33, 0x22, 0x11] = .ok (.fstM64real (.a32 3#3 (.d32 0x11223344#32))) [] ∧
    decode c16a16 [0xDD, 0xD5] = .ok (.fstSti 5#3) [] ∧
    decode c16a32 [0xD9, 0x9B, 0x44, 0x33, 0x22, 0x11] =
      .ok (.fstpM32real (.a32 3#3 (.d32 0x11223344#32))) [] := by decide +kernel

theorem test_decode_FpuData_3 :
    decode c16a16 [0xDD, 0x1E, 0x34, 0x12] = .ok (.fstpM64real (.abs16 0x1234#16)) [] ∧
    decode c16a32 [0xDB, 0x7C, 0x71, 0xF2] = .ok (.fstpM80real (.sib 1#2 6#3 1#3 (.d8 0xF2#8))) [] ∧
    decode c16a16 [0xDD, 0xDD] = .ok (.fstpSti 5#3) [] ∧
    decode c16a32 [0xD9, 0xE4] = .ok .ftst [] ∧
    decode c16a16 [0xDD, 0xE5] = .ok (.fucomSti 5#3) [] ∧
    decode c16a32 [0xDD, 0xED] = .ok (.fucompSti 5#3) [] ∧
    decode c16a16 [0xDA, 0xE9] = .ok .fucompp [] ∧
    decode c16a32 [0xD9, 0xE5] = .ok .fxam [] ∧
    decode c16a16 [0xD9, 0xCD] = .ok (.fxchSti 5#3) [] := by decide +kernel

theorem test_decode_FpuArith_1 :
    decode c16a32 [0xD9, 0xE1] = .ok .fabs [] ∧
    decode c16a16 [0xD8, 0x45, 0xF2] = .ok (.faddM32real (.a16 5#3 (.d8 0xF2#8))) [] ∧
    decode c16a32 [0xDC, 0x83, 0x44, 0x33, 0x22, 0x11] = .ok (.faddM64real (.a32 3#3 (.d32 0x11223344#32))) [] ∧
    decode c16a16 [0xD8, 0xC5] = .ok (.faddSt0Sti 5#3) [] ∧
    decode c16a32 [0xDC, 0xC5] = .ok (.faddStiSt0 5#3) [] ∧
    decode c16a16 [0xDE, 0xC5] = .ok (.faddpStiSt0 5#3) [] ∧
    decode c16a32 [0xDA, 0x83, 0x44, 0x33, 0x22, 0x11] = .ok (.fiaddM32int (.a32 3#3 (.d32 0x11223344#32))) [] ∧
    decode c16a16 [0xDE, 0x45, 0xF2] = .ok (.fiaddM16int (.a16 5#3 (.d8 0xF2#8))) [] ∧
    decode c16a32 [0xD9, 0xE0] = .ok .fchs [] ∧
    decode c16a16 [0xD8, 0x36, 0x34, 0x12] = .ok (.fdivM32real (.abs16 0x1234#16)) [] ∧
    decode c16a32 [0xDC, 0x74, 0x71, 0xF2] = .ok (.fdivM64real (.sib 1#2 6#3 1#3 (.d8 0xF2#8))) [] ∧
    decode c16a16 [0xD8, 0xF5] = .ok (.fdivSt0Sti 5#3) [] ∧
    decode c16a32 [0xDC, 0xFD] = .ok (.fdivStiSt0 5#3) [] ∧
    decode c16a16 [0xDE, 0xFD] = .ok (.fdivpStiSt0 5#3) [] ∧
    decode c16a32 [0xDA, 0xB3, 0x44, 0x33, 0x22, 0x11] = .ok (.fidivM32int (.a32 3#3 (.d32 0x11223344#32))) [] ∧
    decode c16a16 [0xDE, 0x36, 0x34, 0x12] = .ok (.fidivM16int (.abs16 0x1234#16)) [] ∧
    decode c16a32 [0xD8, 0x7C, 0x71, 0xF2] = .ok (.fdivrM32real (.sib 1#2 6#3 1#3 (.d8 0xF2#8))) [] ∧
    decode c16a16 [0xDC, 0x3E, 0x34, 0x12] = .ok (.fdivrM64real (.abs16 0x1234#16)) [] ∧
    decode c16a32 [0xD8, 0xFD] = .ok (.fdivrSt0Sti 5#3) [] ∧
    decode c16a16 [0xDC, 0xF5] = .ok (.fdivrStiSt0 5#3) [] ∧
    decode c16a32 [0xDE, 0xF5] = .ok (.fdivrpStiSt0 5#3) [] ∧
    decode c16a16 [0xDA, 0x3E, 0x34, 0x12] = .ok (.fidivrM32int (.abs16 0x1234#16)) [] ∧
    decode c16a32 [0xDE, 0x7C, 0x71, 0xF2] = .ok (.fidivrM16int (.sib 1#2 6#3 1#3 (.d8 0xF2#8))) [] ∧
    decode c16a16 [0xD8, 0x0E, 0x34, 0x12] = .ok (.fmulM32real (.abs16 0x1234#16)) [] := by decide +kernel

theorem test_decode_FpuArith_2 :
    decode c16a32 [0xDC, 0x8B, 0x44, 0x33, 0x22, 0x11] = .ok (.fmulM64real (.a32 3#3 (.d32 0x11223344#32))) [] ∧
    decode c16a16 [0xD8, 0xCD] = .ok (.fmulSt0Sti 5#3) [] ∧
    decode c16a32 [0xDC, 0xCD] = .ok (.fmulStiSt0 5#3) [] ∧
    decode c16a16 [0xDE, 0xCD] = .ok (.fmulpStiSt0 5#3) [] ∧
    decode c16a32 [0xDA, 0x4C, 0x71, 0xF2] = .ok (.fimulM32int (.sib 1#2 6#3 1#3 (.d8 0xF2#8))) [] ∧
    decode c16a16 [0xDE, 0x0E, 0x34, 0x12] = .ok (.fimulM16int (.abs16 0x1234#16)) [] ∧
    decode c16a32 [0xD9, 0xF8] = .ok .fprem [] ∧
    decode c16a16 [0xD9, 0xF5] = .ok .fprem1 [] ∧
    decode c16a32 [0xD9, 0xFC] = .ok .frndint [] ∧
    decode c16a16 [0xD9, 0xFD] = .ok .fscale [] ∧
    decode c16a32 [0xD9, 0xFA] = .ok .fsqrt [] ∧
    decode c16a16 [0xD8, 0x26, 0x34, 0x12] = .ok (.fsubM32real (.abs16 0x1234#16)) [] ∧
    decode c16a32 [0xDC, 0xA3, 0x44, 0x33, 0x22, 0x11] = .ok (.fsubM64real (.a32 3#3 (.d32 0x11223344#32))) [] ∧
    decode c16a16 [0xD8, 0xE5] = .ok (.fsubSt0Sti 5#3) [] ∧
    decode c16a32 [0xDC, 0xED] = .ok (.fsubStiSt0 5#3) [] ∧
    decode c16a16 [0xDE, 0xED] = .ok (.fsubpStiSt0 5#3) [] ∧
    decode c16a32 [0xDA, 0x64, 0x71, 0xF2] = .ok (.fisubM32int (.sib 1#2 6#3 1#3 (.d8 0xF2#8))) [] ∧
    decode c16a16 [0xDE, 0x26, 0x34, 0x12] = .ok (.fisubM16int (.abs16 0x1234#16)) [] ∧
    decode c16a32 [0xD8, 0xAB, 0x44, 0x33, 0x22, 0x11] = .ok (.fsubrM32real (.a32 3#3 (.d32 0x11223344#32))) [] ∧
    decode c16a16 [0xDC, 0x6D, 0xF2] = .ok (.fsubrM64real (.a16 5#3 (.d8 0xF2#8))) [] ∧
    decode c16a32 [0xD8, 0xED] = .ok (.fsubrSt0Sti 5#3) [] ∧
    decode c16a16 [0xDC, 0xE5] = .ok (.fsubrStiSt0 5#3) [] ∧
    decode c16a32 [0xDE, 0xE5] = .ok (.fsubrpStiSt0 5#3) [] ∧
    decode c16a16 [0xDA, 0x2E, 0x34, 0x12] = .ok (.fisubrM32int (.abs16 0x1234#16)) [] := by decide +kernel

theorem test_decode_FpuArith_3 :
    decode c16a32 [0xDE, 0xAB, 0x44, 0x33, 0x22, 0x11] = .ok (.fisubrM16int (.a32 3#3 (.d32 0x11223344#32))) [] ∧
    decode c16a16 [0xD9, 0xF4] = .ok .fxtract [] := by decide +kernel

theorem test_decode_FpuTrans_1 :
    decode c16a32 [0xD9, 0xF0] = .ok .f2xm1 [] ∧
    decode c16a16 [0xD9, 0xFF] = .ok .fcos [] ∧
    decode c16a32 [0xD9, 0xF3] = .ok .fpatan [] ∧
    decode c16a16 [0xD9, 0xF2] = .ok .fptan [] ∧
    decode c16a32 [0xD9, 0xFE] = .ok .fsin [] ∧
    decode c16a16 [0xD9, 0xFB] = .ok .fsincos [] ∧
    decode c16a32 [0xD9, 0xF1] = .ok .fyl2x [] ∧
    decode c16a16 [0xD9, 0xF9] = .ok .fyl2xp1 [] := by decide +kernel

theorem test_decode_System_1 :
    decode c16a32 [0x63, 0xB3, 0x44, 0x33, 0x22, 0x11] =
      .ok (.arplRm16R16 (.mem (.a32 3#3 (.d32 0x11223344#32))) 6#3) [] ∧
    decode c16a16 [0x0F, 0x06] = .ok .clts [] ∧
    decode c16a32 [0xF4] = .ok .hlt [] ∧
    decode c16a16 [0x0F, 0x08] = .ok .invd [] ∧
    decode c16a32 [0x0F, 0x01, 0xBB, 0x44, 0x33, 0x22, 0x11] = .ok (.invlpgM (.a32 3#3 (.d32 0x11223344#32))) [] ∧
    decode c16a16 [0x0F, 0x02, 0x75, 0xF2] = .ok (.larR16Rm16 6#3 (.mem (.a16 5#3 (.d8 0xF2#8)))) [] ∧
    decode c32a32 [0x0F, 0x02, 0xB3, 0x44, 0x33, 0x22, 0x11] =
      .ok (.larR32Rm32 6#3 (.mem (.a32 3#3 (.d32 0x11223344#32)))) [] ∧
    decode c16a16 [0x0F, 0x01, 0x16, 0x34, 0x12] = .ok (.lgdtM16a32 (.abs16 0x1234#16)) [] ∧
    decode c16a32 [0x0F, 0x01, 0x5C, 0x71, 0xF2] = .ok (.lidtM16a32 (.sib 1#2 6#3 1#3 (.d8 0xF2#8))) [] ∧
    decode c16a16 [0x0F, 0x00, 0x16, 0x34, 0x12] = .ok (.lldtRm16 (.mem (.abs16 0x1234#16))) [] ∧
    decode c16a32 [0x0F, 0x01, 0xF3] = .ok (.lmswRm16 (.reg 3#3)) [] ∧
    decode c16a16 [0x0F, 0x03, 0x75, 0xF2] = .ok (.lslR16Rm16 6#3 (.mem (.a16 5#3 (.d8 0xF2#8)))) [] ∧
    decode c32a32 [0x0F, 0x03, 0xB3, 0x44, 0x33, 0x22, 0x11] =
      .ok (.lslR32Rm32 6#3 (.mem (.a32 3#3 (.d32 0x11223344#32)))) [] ∧
    decode c16a16 [0x0F, 0x00, 0xDE] = .ok (.ltrRm16 (.reg 6#3)) [] ∧
    decode c16a32 [0x0F, 0x22, 0xDE] = .ok (.movCRnR32 3#3 6#3) [] ∧
    decode c16a16 [0x0F, 0x20, 0xDE] = .ok (.movR32CRn 6#3 3#3) [] ∧
    decode c16a32 [0x0F, 0x21, 0xDE] = .ok (.movR32DRn 6#3 3#3) [] ∧
    decode c16a16 [0x0F, 0x23, 0xDE] = .ok (.movDRnR32 3#3 6#3) [] ∧
    decode c16a32 [0x0F, 0x32] = .ok .rdmsr [] ∧
    decode c16a16 [0x0F, 0x33] = .ok .rdpmc [] ∧
    decode c16a32 [0x0F, 0x31] = .ok .rdtsc [] ∧
    decode c16a16 [0x0F, 0xAA] = .ok .rsm [] ∧
    decode c16a32 [0x0F, 0x01, 0x83, 0x44, 0x33, 0x22, 0x11] = .ok (.sgdtM (.a32 3#3 (.d32 0x11223344#32))) [] ∧
    decode c16a16 [0x0F, 0x01, 0x4D, 0xF2] = .ok (.sidtM (.a16 5#3 (.d8 0xF2#8))) [] := by decide +kernel

theorem test_decode_System_2 :
    decode c16a32 [0x0F, 0x00, 0x83, 0x44, 0x33, 0x22, 0x11] =
      .ok (.sldtRm16 (.mem (.a32 3#3 (.d32 0x11223344#32)))) [] ∧
    decode c32a16 [0x0F, 0x00, 0xC2] = .ok (.sldtRm32 (.reg 2#3)) [] ∧
    decode c16a32 [0x0F, 0x01, 0x64, 0x71, 0xF2] = .ok (.smswRm16 (.mem (.sib 1#2 6#3 1#3 (.d8 0xF2#8)))) [] ∧
    decode c32a16 [0x0F, 0x01, 0x26, 0x34, 0x12] = .ok (.smswR32M16 (.mem (.abs16 0x1234#16))) [] ∧
    decode c16a32 [0x0F, 0x00, 0xCD] = .ok (.strRm16 (.reg 5#3)) [] ∧
    decode c16a16 [0x0F, 0x00, 0x65, 0xF2] = .ok (.verrRm16 (.mem (.a16 5#3 (.d8 0xF2#8)))) [] ∧
    decode c16a32 [0x0F, 0x00, 0xAB, 0x44, 0x33, 0x22, 0x11] =
      .ok (.verwRm16 (.mem (.a32 3#3 (.d32 0x11223344#32)))) [] ∧
    decode c16a16 [0x0F, 0x09] = .ok .wbinvd [] ∧
    decode c16a32 [0x0F, 0x30] = .ok .wrmsr [] := by decide +kernel

/-! ## Single steps: vectors of 95_test_vectors.md (blocks B1 to B13) and 95_test_vectors_2.md (B14 to B16) -/

/-- The exception flags and SF of the FPU status word. -/
def exceptionBits (t : State) : Nat :=
  ([t.fpu.st.ie, t.fpu.st.de, t.fpu.st.ze, t.fpu.st.oe, t.fpu.st.ue, t.fpu.st.pe, t.fpu.st.sf].reverse).foldl
    (fun n b => 2 * n + b.toNat) 0

/-- The status word without its condition codes, which an instruction may leave free. -/
def statusBits (t : State) : Nat := exceptionBits t + 0x8080 * t.fpu.es.toNat + 0x800 * t.fpu.st.top.toNat

/-- C3, C2, C1 and C0 as a number. -/
def conditionBits (t : State) : Nat := t.fpu.statusWord.toNat / 256 % 8 + 8 * (t.fpu.statusWord.toNat / 16384 % 2)

-- Block B1.
theorem test_add : runs [0x00, 0xD8] { real with
      gpr.eax := 0xa5a5a5ff#32, gpr.ebx := 0xa5a5a501#32, flags.cf := false }
      (fun t => t.gpr.eax == 0xa5a5a500#32 && flagsAre t [some false, some false, some true, some true, some true,
      some true] && t.eip == 258#32) = true := by decide +kernel
theorem test_adc : runs [0x10, 0xD8] { real with
      gpr.eax := 0xa5a5a5ff#32, gpr.ebx := 0xa5a5a500#32, flags.cf := true }
      (fun t => t.gpr.eax == 0xa5a5a500#32 && flagsAre t [some false, some false, some true, some true, some true,
      some true] && t.eip == 258#32) = true := by decide +kernel
theorem test_sub : runs [0x28, 0xD8] { real with
      gpr.eax := 0xa5a5a500#32, gpr.ebx := 0xa5a5a501#32, flags.cf := false }
      (fun t => t.gpr.eax == 0xa5a5a5ff#32 && flagsAre t [some false, some true, some false, some true, some true,
      some true] && t.eip == 258#32) = true := by decide +kernel
theorem test_sbb : runs [0x18, 0xD8] { real with
      gpr.eax := 0xa5a5a500#32, gpr.ebx := 0xa5a5a500#32, flags.cf := true }
      (fun t => t.gpr.eax == 0xa5a5a5ff#32 && flagsAre t [some false, some true, some false, some true, some true,
      some true] && t.eip == 258#32) = true := by decide +kernel
theorem test_cmp : runs [0x80, 0xF8, 0x47] { real with
      gpr.eax := 0xa5a5a535#32, gpr.ebx := 0xa5a5a547#32, flags.cf := false }
      (fun t => t.gpr.eax == 0xa5a5a535#32 && flagsAre t [some false, some true, some false, some true, some true,
      some true] && t.eip == 259#32) = true := by decide +kernel
theorem test_inc : runs [0xFE, 0xC0] { real with
      gpr.eax := 0xFF#32, flags.cf := false }
      (fun t => t.gpr.eax == 0#32 && flagsAre t [some false, some false, some true, some true, some true, some
      false]) = true := by decide +kernel
theorem test_dec : runs [0xFE, 0xC8] { real with
      gpr.eax := 0x0#32, flags.cf := true }
      (fun t => t.gpr.eax == 255#32 && flagsAre t [some false, some true, some false, some true, some true, some
      true]) = true := by decide +kernel
theorem test_neg : runs [0xF6, 0xD8] { real with
      gpr.eax := 0x0#32, flags.cf := false }
      (fun t => t.gpr.eax == 0#32 && flagsAre t [some false, some false, some true, some false, some true, some
      false]) = true := by decide +kernel
-- Block B2.
theorem test_and : runs [0x20, 0xD8] { real with
      gpr.eax := 0xF0#32, gpr.ebx := 0x3C#32, flags.cf := true, flags.ofl := true }
      (fun t => t.gpr.eax == 48#32 && flagsAre t [some false, some false, some false, none, some true, some
      false]) = true := by decide +kernel
theorem test_or : runs [0x08, 0xD8] { real with
      gpr.eax := 0x80#32, gpr.ebx := 0x1#32, flags.cf := true, flags.ofl := true }
      (fun t => t.gpr.eax == 129#32 && flagsAre t [some false, some true, some false, none, some true, some
      false]) = true := by decide +kernel
theorem test_xor : runs [0x66, 0x31, 0xD8] { real with
      gpr.eax := 0x12345678#32, gpr.ebx := 0x12345678#32, flags.cf := true, flags.ofl := true }
      (fun t => t.gpr.eax == 0#32 && flagsAre t [some false, some false, some true, none, some true, some false])
      = true := by decide +kernel
theorem test_test : runs [0x85, 0xD8] { real with
      gpr.eax := 0x8000#32, gpr.ebx := 0x8000#32, flags.cf := true, flags.ofl := true }
      (fun t => t.gpr.eax == 0x8000#32 && flagsAre t [some false, some true, some false, none, some true, some
      false]) = true := by decide +kernel
theorem test_not : runs [0xF6, 0xD0] { real with
      gpr.eax := 0x55#32, flags.zf := true, flags.cf := true }
      (fun t => t.gpr.eax == 170#32 && flagsAre t [some false, some false, some true, some false, some false, some
      true]) = true := by decide +kernel
-- Block B3.
theorem test_rol : runs [0xC0, 0xC0, 0x01] { real with
      gpr.eax := 0x81#32, flags.cf := false, flags.af := true, flags.pf := true }
      (fun t => t.gpr.eax == 3#32 && flagsAre t [some true, some false, some false, some true, some true, some
      true]) = true := by decide +kernel
theorem test_ror : runs [0xC0, 0xC8, 0x01] { real with
      gpr.eax := 0x81#32, flags.cf := false, flags.af := true, flags.pf := true }
      (fun t => t.gpr.eax == 192#32 && flagsAre t [some false, some false, some false, some true, some true, some
      true]) = true := by decide +kernel
theorem test_rcl : runs [0xC0, 0xD0, 0x01] { real with
      gpr.eax := 0x80#32, flags.cf := false, flags.af := true, flags.pf := true }
      (fun t => t.gpr.eax == 0#32 && flagsAre t [some true, some false, some false, some true, some true, some
      true]) = true := by decide +kernel
theorem test_rcr : runs [0xC0, 0xD8, 0x01] { real with
      gpr.eax := 0x1#32, flags.cf := true, flags.af := true, flags.pf := true }
      (fun t => t.gpr.eax == 128#32 && flagsAre t [some true, some false, some false, some true, some true, some
      true]) = true := by decide +kernel
theorem test_shl : runs [0xC0, 0xE0, 0x01] { real with
      gpr.eax := 0x81#32, flags.cf := false, flags.af := true, flags.pf := true }
      (fun t => t.gpr.eax == 2#32 && flagsAre t [some true, some false, some false, none, some false, some true])
      = true := by decide +kernel
theorem test_shr : runs [0xC0, 0xE8, 0x01] { real with
      gpr.eax := 0x81#32, flags.cf := false, flags.af := true, flags.pf := true }
      (fun t => t.gpr.eax == 64#32 && flagsAre t [some true, some false, some false, none, some false, some true])
      = true := by decide +kernel
theorem test_sar : runs [0xC0, 0xF8, 0x02] { real with
      gpr.eax := 0xF7#32, flags.cf := false, flags.af := true, flags.pf := true }
      (fun t => t.gpr.eax == 253#32 && flagsAre t [none, some true, some false, none, some false, some true]) =
      true := by decide +kernel
theorem test_shld : runs [0x66, 0x0F, 0xA4, 0xD8, 0x04] { real with
      gpr.eax := 0x12345678#32, gpr.ebx := 0x9ABCDEF0#32 }
      (fun t => t.gpr.eax == 0x23456789#32 && flagsAre t [none, some false, some false, none, some false, some
      true] && t.gpr.ebx == 0x9ABCDEF0#32) = true := by decide +kernel
theorem test_shrd : runs [0x66, 0x0F, 0xAC, 0xD8, 0x04] { real with
      gpr.eax := 0x12345678#32, gpr.ebx := 0x9ABCDEF0#32 }
      (fun t => t.gpr.eax == 0x1234567#32 && flagsAre t [none, some false, some false, none, some false, some
      true] && t.gpr.ebx == 0x9ABCDEF0#32) = true := by decide +kernel
-- Block B4.
theorem test_mul : runs [0xF6, 0xE3] { real with
      gpr.eax := 0xFF#32, gpr.ebx := 0xFF#32 }
      (fun t => flagsAre t [some true, none, none, none, none, some true] && t.gpr.eax == 0xFE01#32) = true :=
      by decide +kernel
theorem test_imul : runs [0xF6, 0xEB] { real with
      gpr.eax := 0xFF#32, gpr.ebx := 0xFF#32 }
      (fun t => flagsAre t [some false, none, none, none, none, some false] && t.gpr.eax == 1#32) = true :=
      by decide +kernel
theorem test_div : runs [0xF6, 0xF3] { real with
      gpr.eax := 0x64#32, gpr.edx := 0x0#32, gpr.ebx := 0x7#32 }
      (fun t => t.gpr.eax == 526#32) = true := by decide +kernel
theorem test_idiv : runs [0xF6, 0xFB] { real with
      gpr.eax := 0xFFF7#32, gpr.edx := 0x0#32, gpr.ebx := 0x4#32 }
      (fun t => t.gpr.eax == 0xFFFE#32) = true := by decide +kernel
theorem test_div_error : runs [0xF6, 0xF3] { (load 0x0 [0x00, 0x70, 0, 0] real) with
      gpr.eax := 0x100#32, gpr.edx := 0x0#32, gpr.ebx := 0x1#32 }
      (fun t => t.eip == 0x7000#32 && t.gpr.eax == 256#32 && t.gpr.edx == 0#32 && mem2 t 0xffa == 0x100) = true :=
      by decide +kernel
-- Block B5.
theorem test_daa : runs [0x27] { real with
      gpr.eax := 0xabcd00ae#32, flags.cf := false, flags.af := false }
      (fun t => t.gpr.eax == 0xabcd0014#32 && flagsAre t [none, some false, some false, some true, some true, some
      true]) = true := by decide +kernel
theorem test_das : runs [0x2F] { real with
      gpr.eax := 0xabcd00ee#32, flags.cf := true, flags.af := true }
      (fun t => t.gpr.eax == 0xabcd0088#32 && flagsAre t [none, some true, some false, some true, some true, some
      true]) = true := by decide +kernel
theorem test_aaa : runs [0x37] { real with
      gpr.eax := 0xabcd0011#32, flags.cf := false, flags.af := true }
      (fun t => t.gpr.eax == 0xabcd0107#32 && flagsAre t [none, none, none, some true, none, some true]) = true :=
      by decide +kernel
theorem test_aas : runs [0x3F] { real with
      gpr.eax := 0xabcd01fe#32, flags.cf := false, flags.af := true }
      (fun t => t.gpr.eax == 0xabcd0008#32 && flagsAre t [none, none, none, some true, none, some true]) = true :=
      by decide +kernel
theorem test_aam : runs [0xD4, 0x0A] { real with
      gpr.eax := 0xabcd003f#32, flags.cf := false, flags.af := false }
      (fun t => t.gpr.eax == 0xabcd0603#32 && flagsAre t [none, some false, some false, none, some true, none]) =
      true := by decide +kernel
theorem test_aad : runs [0xD5, 0x0A] { real with
      gpr.eax := 0xabcd0205#32, flags.cf := false, flags.af := false }
      (fun t => t.gpr.eax == 0xabcd0019#32 && flagsAre t [none, some false, some false, none, some false, none]) =
      true := by decide +kernel
-- Block B6.
theorem test_bt : runs [0x0F, 0xBA, 0xE0, 0x15] { prot0 with
      gpr.eax := 0x200000#32 }
      (fun t => t.flags.cf == true && t.gpr.eax == 0x200000#32) = true := by decide +kernel
theorem test_bt_memory : runs [0x0F, 0xA3, 0x03] { (load 0x1FFF [0x80] prot0) with
      gpr.eax := 0xFFFFFFFF#32, gpr.ebx := 0x2000#32 }
      (fun t => t.flags.cf == true) = true := by decide +kernel
theorem test_bts : runs [0x0F, 0xBA, 0xE8, 0x1F] { prot0 with
      gpr.eax := 0x0#32 }
      (fun t => t.flags.cf == false && t.gpr.eax == 0x80000000#32) = true := by decide +kernel
theorem test_btr : runs [0x0F, 0xBA, 0xF0, 0x23] { prot0 with
      gpr.eax := 0xFFFFFFFF#32 }
      (fun t => t.flags.cf == true && t.gpr.eax == 0xFFFFFFF7#32) = true := by decide +kernel
theorem test_btc : runs [0x66, 0x0F, 0xBA, 0xF8, 0x00] { prot0 with
      gpr.eax := 0x1#32 }
      (fun t => t.flags.cf == true && t.gpr.eax == 0#32) = true := by decide +kernel
theorem test_bsf : runs [0x0F, 0xBC, 0xC3] { prot0 with
      gpr.ebx := 0x80000000#32 }
      (fun t => t.flags.zf == false && t.gpr.eax == 31#32) = true := by decide +kernel
theorem test_bsr : runs [0x0F, 0xBD, 0xC3] { prot0 with
      gpr.ebx := 0x80000000#32 }
      (fun t => t.flags.zf == false && t.gpr.eax == 31#32) = true := by decide +kernel
theorem test_bsf_zero : runs [0x0F, 0xBC, 0xC3] { prot0 with
      gpr.ebx := 0x0#32 }
      (fun t => t.flags.zf == true) = true := by decide +kernel
theorem test_sete : runs [0x0F, 0x94, 0xC0] { prot0 with
      flags.zf := true }
      (fun t => t.gpr.eax == 1#32) = true := by decide +kernel
theorem test_setl : runs [0x0F, 0x9C, 0xC0] { prot0 with
      flags.sf := false, flags.ofl := true }
      (fun t => t.gpr.eax == 1#32) = true := by decide +kernel
theorem test_jne : runs [0x75, 0xFE] prot0
      (fun t => t.eip == 0x1000#32) = true := by decide +kernel
theorem test_jcxz : runs [0xE3, 0x02] { real with
      gpr.ecx := 0x10000#32 }
      (fun t => t.eip == 260#32) = true := by decide +kernel
theorem test_jecxz : runs [0xE3, 0x02] { prot0 with
      gpr.ecx := 0x10000#32 }
      (fun t => t.eip == 0x1002#32) = true := by decide +kernel
-- Block B7.
theorem test_mov_ah : runs [0xB4, 0x56] { prot0 with
      gpr.eax := 0xFFFF1234#32 }
      (fun t => t.gpr.eax == 0xFFFF5634#32) = true := by decide +kernel
theorem test_mov_moffs : runs [0xA1, 0x00, 0x20, 0x00, 0x00] (load 0x2000 [0x78, 0x56, 0x34, 0x12] prot0)
      (fun t => t.gpr.eax == 0x12345678#32) = true := by decide +kernel
theorem test_movsx : runs [0x0F, 0xBF, 0xC3] { prot0 with
      gpr.ebx := 0x8000#32 }
      (fun t => t.gpr.eax == 0xFFFF8000#32) = true := by decide +kernel
theorem test_movzx : runs [0x0F, 0xB7, 0xC3] { prot0 with
      gpr.ebx := 0xFFFF#32 }
      (fun t => t.gpr.eax == 0xFFFF#32) = true := by decide +kernel
theorem test_cbw : runs [0x66, 0x98] { prot0 with
      gpr.eax := 0x12340080#32 }
      (fun t => t.gpr.eax == 0x1234FF80#32) = true := by decide +kernel
theorem test_cwde : runs [0x98] { prot0 with
      gpr.eax := 0x7FFF#32 }
      (fun t => t.gpr.eax == 0x7FFF#32) = true := by decide +kernel
theorem test_cwd : runs [0x66, 0x99] { prot0 with
      gpr.eax := 0x8000#32, gpr.edx := 0x12345678#32 }
      (fun t => t.gpr.edx == 0x1234FFFF#32) = true := by decide +kernel
theorem test_cdq : runs [0x99] { prot0 with
      gpr.eax := 0x7FFFFFFF#32, gpr.edx := 0x5#32 }
      (fun t => t.gpr.edx == 0#32) = true := by decide +kernel
theorem test_bswap : runs [0x0F, 0xC8] { prot0 with
      gpr.eax := 0x12345678#32 }
      (fun t => t.gpr.eax == 0x78563412#32) = true := by decide +kernel
theorem test_xchg_memory : runs [0x87, 0x03] { (load 0x2000 [0x02, 0x00, 0x00, 0x00] prot0) with
      gpr.eax := 0x1#32, gpr.ebx := 0x2000#32 }
      (fun t => t.gpr.eax == 2#32 && mem4 t 0x2000 == 1) = true := by decide +kernel
theorem test_xadd : runs [0x0F, 0xC1, 0xD8] { prot0 with
      gpr.eax := 0x5#32, gpr.ebx := 0x3#32 }
      (fun t => t.gpr.eax == 8#32 && t.gpr.ebx == 5#32 && flagsAre t [some false, some false, some false, some
      false, some false, some false]) = true := by decide +kernel
theorem test_cmpxchg : runs [0x0F, 0xB1, 0x1E] { (load 0x2000 [0x05, 0x00, 0x00, 0x00] prot0) with
      gpr.eax := 0x5#32, gpr.esi := 0x2000#32, gpr.ebx := 0x9#32 }
      (fun t => t.gpr.eax == 5#32 && mem4 t 0x2000==9 && flagsAre t [some false, some false, some true, some
      false, some true, some false]) = true := by decide +kernel
theorem test_cmpxchg_not_equal : runs [0x0F, 0xB1, 0x1E] { (load 0x2000 [0x07, 0x00, 0x00, 0x00] prot0) with
      gpr.eax := 0x5#32, gpr.esi := 0x2000#32, gpr.ebx := 0x9#32 }
      (fun t => t.gpr.eax == 7#32 && mem4 t 0x2000==7 && flagsAre t [some false, some true, some false, some true,
      some false, some true]) = true := by decide +kernel
theorem test_cmpxchg8b :
    runs [0x0F, 0xC7, 0x0B]
    { (load 0x2000 [0x06, 0x00, 0x00, 0x00, 0x05, 0x00, 0x00, 0x00] prot0) with
      gpr.eax := 0x1#32, gpr.ebx := 0x2000#32, flags.cf := true }
      (fun t => t.gpr.edx == 5#32 && t.gpr.eax == 6#32 && mem4 t 0x2000 + 4294967296 * mem4 t 0x2004 ==
      0x500000006 && flagsAre t [some false, some false, some false, some false, some false, some true]) = true :=
      by decide +kernel
theorem test_cmove : runs [0x0F, 0x44, 0xC3] { prot0 with
      flags.zf := true, gpr.eax := 0x1#32, gpr.ebx := 0x2#32 }
      (fun t => t.gpr.eax == 2#32) = true := by decide +kernel
theorem test_xlat : runs [0xD7] { (load 0x2005 [0x7A] prot0) with
      gpr.ebx := 0x2000#32, gpr.eax := 0x5#32 }
      (fun t => t.gpr.eax == 122#32) = true := by decide +kernel
theorem test_push_esp : runs [0x54] { prot0 with
      gpr.esp := 0x1000#32 }
      (fun t => t.gpr.esp == 0xFFC#32 && mem4 t 0xffc==0x1000) = true := by decide +kernel
theorem test_push_imm8 : runs [0x6A, 0xFF] { prot0 with
      gpr.esp := 0x1000#32 }
      (fun t => t.gpr.esp == 0xFFC#32 && mem4 t 0xffc==0xffffffff) = true := by decide +kernel
theorem test_pushad : runs [0x60] { prot0 with
      gpr.eax := 0x1#32, gpr.ecx := 0x2#32, gpr.edx := 0x3#32, gpr.ebx := 0x4#32, gpr.esp := 0x1000#32, gpr.ebp :=
      0x6#32, gpr.esi := 0x7#32, gpr.edi := 0x8#32 }
      (fun t => t.gpr.esp == 0xFE0#32 && mem4 t 4092==1 && mem4 t 4088==2 && mem4 t 4084==3 && mem4 t 4080==4 &&
      mem4 t 4076==4096 && mem4 t 4072==6 && mem4 t 4068==7 && mem4 t 4064==8) = true := by decide +kernel
theorem test_popad :
    runs [0x61]
    { (load 0xFE0 [0x08, 0x00, 0x00, 0x00, 0x07, 0x00, 0x00, 0x00, 0x06, 0x00, 0x00, 0x00, 0x99, 0x99, 0x99, 0x99,
        0x04, 0x00, 0x00, 0x00, 0x03, 0x00, 0x00, 0x00, 0x02, 0x00, 0x00, 0x00, 0x01, 0x00, 0x00, 0x00] prot0) with
      gpr.esp := 0xFE0#32 }
      (fun t => t.gpr.esp == 0x1000#32 && t.gpr.eax == 1#32 && t.gpr.ecx == 2#32 && t.gpr.edx == 3#32 && t.gpr.ebx
      == 4#32 && t.gpr.ebp == 6#32 && t.gpr.esi == 7#32 && t.gpr.edi == 8#32) = true := by decide +kernel
theorem test_pusha : runs [0x66, 0x60] { prot0 with
      gpr.eax := 0x1#32, gpr.ecx := 0x2#32, gpr.edx := 0x3#32, gpr.ebx := 0x4#32, gpr.esp := 0x1000#32, gpr.ebp :=
      0x6#32, gpr.esi := 0x7#32, gpr.edi := 0x8#32 }
      (fun t => t.gpr.esp == 0xFF0#32 && mem2 t 4094==1 && mem2 t 4092==2 && mem2 t 4090==3 && mem2 t 4088==4 &&
      mem2 t 4086==4096 && mem2 t 4084==6 && mem2 t 4082==7 && mem2 t 4080==8) = true := by decide +kernel
theorem test_enter1 : runs [0xC8, 0x08, 0x00, 0x01] { prot0 with
      gpr.esp := 0x1000#32, gpr.ebp := 0x2000#32 }
      (fun t => mem4 t 0xffc==0x2000 && mem4 t 0xff8==0xffc && t.gpr.ebp == 0xFFC#32 && t.gpr.esp == 0xFF0#32) =
      true := by decide +kernel
theorem test_leave : runs [0xC9] { (load 0xFF0 [0x00, 0x10, 0x00, 0x00] prot0) with
      gpr.ebp := 0xFF0#32 }
      (fun t => t.gpr.esp == 0xFF4#32 && t.gpr.ebp == 0x1000#32) = true := by decide +kernel
theorem test_pop_esp : runs [0x5C] { (load 0x1000 [0x00, 0x30, 0x00, 0x00] prot0) with
      gpr.esp := 0x1000#32, eip := 0x5000#32 }
      (fun t => t.gpr.esp == 0x3000#32) = true := by decide +kernel
theorem test_pop_memory_by_esp : runs [0x8F, 0x44, 0x24, 0x04] { (load 0x1000 [0x22, 0x22, 0x22, 0x22] prot0) with
      gpr.esp := 0x1000#32, eip := 0x5000#32 }
      (fun t => t.gpr.esp == 0x1004#32 && mem4 t 0x1008==0x22222222) = true := by decide +kernel
theorem test_pop_ds : runs [0x1F] { (load 0x1000 [0x23, 0x00, 0xFF, 0xFF] prot0) with
      gpr.esp := 0x1000#32, eip := 0x5000#32 }
      (fun t => t.gpr.esp == 0x1004#32 && t.seg.ds.sel==0x23#16) = true := by decide +kernel
-- Block B8.
theorem test_ea_sib : runs [0x8B, 0x44, 0x0D, 0x10] { (load 0x102020 [0xEF, 0xBE, 0xAD, 0xDE] prot0) with
      gpr.eax := 0x100#32, gpr.ecx := 0x10#32, gpr.ebx := 0x1000#32, gpr.esp := 0x3000#32, gpr.ebp := 0x2000#32,
      gpr.esi := 0x20#32, gpr.edi := 0x30#32, seg.ss.base := 0x100000#32, seg.ds.base := 0x200000#32, seg.es.base
      := 0x300000#32, eip := 0x5000#32 }
      (fun t => t.gpr.eax == 0xDEADBEEF#32 && t.eip == 0x5004#32) = true := by decide +kernel
theorem test_ea_bp_si : runs [0x8B, 0x46, 0x02] { (load 0x102002 [0xEF, 0xBE, 0xAD, 0xDE] real) with
      gpr.eax := 0x100#32, gpr.ecx := 0x10#32, gpr.ebx := 0x1000#32, gpr.esp := 0x3000#32, gpr.ebp := 0x2000#32,
      gpr.esi := 0x20#32, gpr.edi := 0x30#32, seg.ss.base := 0x100000#32, seg.ds.base := 0x200000#32 }
      (fun t => t.gpr.eax == 0xBEEF#32 && t.eip == 259#32) = true := by decide +kernel
theorem test_ea16_wraps : runs [0x8B, 0x00] { (load 0x1 [0xEF, 0xBE] real) with
      gpr.ebx := 0xFFFF#32, gpr.esi := 0x2#32 }
      (fun t => t.gpr.eax == 0xBEEF#32) = true := by decide +kernel
theorem test_lea : runs [0x8D, 0x44, 0x88, 0x04] { prot0 with
      gpr.eax := 0x100#32, gpr.ecx := 0x10#32, gpr.ebx := 0x1000#32, gpr.esp := 0x3000#32, gpr.ebp := 0x2000#32,
      gpr.esi := 0x20#32, gpr.edi := 0x30#32 }
      (fun t => t.gpr.eax == 324#32) = true := by decide +kernel
theorem test_prefixes_66_67 : runs [0x66, 0x67, 0x8B, 0x00] { (load 0x4001 [0xEF, 0xBE, 0xAD, 0xDE] prot0) with
      gpr.ebx := 0x4000#32, gpr.esi := 0x1#32 }
      (fun t => t.gpr.eax == 0xBEEF#32 && t.eip == 0x1004#32) = true := by decide +kernel
theorem test_instruction_of_15_bytes :
    runs [0xF0, 0x2E, 0x66, 0x67, 0x81, 0x84, 0x88, 0x00, 0x01, 0x00, 0x00, 0x78, 0x56, 0x34, 0x12]
    { (load 0x240 [0x01, 0x00, 0x00, 0x00] real) with
      gpr.eax := 0x100#32, gpr.ecx := 0x10#32 }
      (fun t => mem4 t 0x240==0x12345679 && t.eip == 271#32) = true := by decide +kernel
theorem test_lock_not_allowed : runs [0xF0, 0x8B, 0x03] { (gate 0x6 0xEE 8 0x3006 prot0) with
      gpr.ebx := 0x4000#32 }
      (fun t => t.eip == 0x3006#32) = true := by decide +kernel
-- Block B9.
theorem test_call_rel32 : runs [0xE8, 0xFB, 0xFF, 0xFF, 0xFF] { prot0 with
      gpr.esp := 0x2000#32 }
      (fun t => mem4 t 0x1ffc==0x1005 && t.gpr.esp == 0x1FFC#32 && t.eip == 0x1000#32) = true := by decide +kernel
theorem test_call_far :
    runs [0x9A, 0x00, 0x02, 0x00, 0x30]
    { (load 0x10010 [0x9A, 0x00, 0x02, 0x00, 0x30] real) with
      gpr.esp := 0x100#32, seg.cs := resetSeg 0x1000#16 0x10000#32, eip := 0x10#32 }
      (fun t => mem2 t 0xfe==0x1000 && mem2 t 0xfc==0x15 && t.gpr.esp == 252#32 && t.seg.cs.sel==0x3000#16 &&
      t.seg.cs.base==0x30000#32 && t.eip == 512#32) = true := by decide +kernel
theorem test_jmp_far : runs [0xEA, 0x00, 0x00, 0xFF, 0xFF] real
      (fun t => t.seg.cs.sel==0xffff#16 && t.seg.cs.base==0xffff0#32 && t.eip == 0#32) = true := by decide +kernel
theorem test_ret_imm16 : runs [0xC2, 0x08, 0x00] { (load 0xFFC [0x05, 0x10, 0x40, 0x00] prot0) with
      gpr.esp := 0xFFC#32 }
      (fun t => t.eip == 0x401005#32 && t.gpr.esp == 0x1008#32) = true := by decide +kernel
theorem test_retf_imm16 : runs [0xCA, 0x04, 0x00] { (load 0xF0 [0x15, 0x00, 0x00, 0x10] real) with
      gpr.esp := 0xF0#32 }
      (fun t => t.eip == 21#32 && t.seg.cs.sel==0x1000#16 && t.gpr.esp == 248#32) = true := by decide +kernel
theorem test_iret : runs [0xCF] { (load 0xFA [0x05, 0x00, 0x00, 0x10, 0x02, 0x02] real) with
      gpr.esp := 0xFA#32 }
      (fun t => t.eip == 5#32 && t.seg.cs.sel==0x1000#16 && t.gpr.esp == 256#32 && t.flags.toWord.toNat == 0x202)
      = true := by decide +kernel
theorem test_loop : runs [0xE2, 0xFE] { prot0 with
      gpr.ecx := 0x2#32 }
      (fun t => t.gpr.ecx == 1#32 && t.eip == 0x1000#32) = true := by decide +kernel
theorem test_loope : runs [0xE1, 0xFE] { prot0 with
      gpr.ecx := 0x5#32 }
      (fun t => t.gpr.ecx == 4#32 && t.eip == 0x1002#32) = true := by decide +kernel
theorem test_loopne : runs [0xE0, 0xFE] { prot0 with
      gpr.ecx := 0x5#32 }
      (fun t => t.gpr.ecx == 4#32 && t.eip == 0x1000#32) = true := by decide +kernel
theorem test_bound_above :
    runs [0x62, 0x03]
    { (gate 0x5 0xEE 8 0x3005 (load 0x4000 [0x00, 0x00, 0x00, 0x00, 0x09, 0x00, 0x00, 0x00] prot0)) with
      gpr.eax := 0xE#32, gpr.ebx := 0x4000#32 }
      (fun t => t.eip == 0x3005#32 && mem4 t t.gpr.esp.toNat==0x1000) = true := by decide +kernel
theorem test_bound_inside :
    runs [0x62, 0x03]
    { (load 0x4000 [0x00, 0x00, 0x00, 0x00, 0x09, 0x00, 0x00, 0x00] prot0) with
      gpr.eax := 0xD#32, gpr.ebx := 0x4000#32 }
      (fun t => t.eip == 0x1002#32) = true := by decide +kernel
theorem test_ud2 : runs [0x0F, 0x0B] (gate 0x6 0xEE 8 0x3006 prot0)
      (fun t => t.eip == 0x3006#32 && mem4 t t.gpr.esp.toNat==0x1000) = true := by decide +kernel
theorem test_int3 : runs [0xCC] (gate 0x3 0xEE 8 0x3003 prot0)
      (fun t => t.eip == 0x3003#32 && mem4 t t.gpr.esp.toNat==0x1001) = true := by decide +kernel
theorem test_into : runs [0xCE] { (gate 0x4 0xEE 8 0x3004 prot0) with
      flags.ofl := true }
      (fun t => t.eip == 0x3004#32 && mem4 t t.gpr.esp.toNat==0x1001) = true := by decide +kernel
-- Block B10.
theorem test_movsb : runs [0xA4] { (load 0x2000 [0x41] prot0) with
      gpr.esi := 0x2000#32, gpr.edi := 0x3000#32 }
      (fun t => mem1 t 0x3000==0x41 && t.gpr.esi == 0x2001#32 && t.gpr.edi == 0x3001#32) = true :=
      by decide +kernel
theorem test_movsd_down : runs [0xA5] { (load 0x2000 [0x41, 0x42, 0x43, 0x44] prot0) with
      gpr.esi := 0x2000#32, gpr.edi := 0x3000#32, flags.df := true }
      (fun t => mem4 t 0x3000==0x44434241 && t.gpr.esi == 0x1FFC#32 && t.gpr.edi == 0x2FFC#32) = true :=
      by decide +kernel
theorem test_rep_count_zero : runs [0xF3, 0xA4] { (load 0x2000 [0x41, 0x42, 0x43, 0x44] prot0) with
      gpr.esi := 0x2000#32, gpr.edi := 0x3000#32, gpr.ecx := 0x0#32 }
      (fun t => mem4 t 0x3000==0 && t.gpr.esi == 0x2000#32 && t.eip == 0x1002#32) = true := by decide +kernel
theorem test_stosd : runs [0xAB] { prot0 with
      gpr.eax := 0x12345678#32, gpr.edi := 0x3000#32 }
      (fun t => mem4 t 0x3000==0x12345678 && t.gpr.edi == 0x3004#32) = true := by decide +kernel
theorem test_lodsb : runs [0xAC] { (load 0x2000 [0x41, 0x42] prot0) with
      gpr.esi := 0x2000#32 }
      (fun t => t.gpr.eax == 65#32 && t.gpr.esi == 0x2001#32) = true := by decide +kernel
theorem test_cmpsb : runs [0xA6] { (load 0x3000 [0x42] (load 0x2000 [0x41] prot0)) with
      gpr.esi := 0x2000#32, gpr.edi := 0x3000#32 }
      (fun t => flagsAre t [some false, some true, some false, some true, some true, some true] && t.gpr.esi ==
      0x2001#32 && t.gpr.edi == 0x3001#32) = true := by decide +kernel
theorem test_scasb : runs [0xAE] { (load 0x3000 [0x41] prot0) with
      gpr.edi := 0x3000#32, gpr.eax := 0x41#32 }
      (fun t => flagsAre t [some false, some false, some true, some false, some true, some false] && t.gpr.edi ==
      0x3001#32) = true := by decide +kernel
theorem test_repne_scasb_ends : runs [0xF2, 0xAE] { (load 0x3000 [0x41, 0x42, 0x43] prot0) with
      gpr.edi := 0x3000#32, gpr.eax := 0x41#32, gpr.ecx := 0x3#32 }
      (fun t => t.flags.zf == true && t.gpr.ecx == 2#32 && t.gpr.edi == 0x3001#32 && t.eip == 0x1002#32) = true :=
      by decide +kernel
theorem test_in_al_imm8 : runs [0xE4, 0x60] real
      (fun t => t.gpr.eax == 255#32) = true := by decide +kernel
theorem test_out_imm8_al : runs [0xE6, 0x80] { prot0 with
      gpr.eax := 0x55#32 }
      (fun t => t.ioTrace == [{ space := .port, write := true, addr := 0x80#32, width := 1, value := 0x55 }]) =
      true := by decide +kernel
theorem test_outs : runs [0x6E] { (load 0x2000 [0x5A] prot0) with
      gpr.esi := 0x2000#32, gpr.edx := 0x3F8#32 }
      (fun t => t.ioTrace == [{ space := .port, write := true, addr := 0x3f8#32, width := 1, value := 0x5a }] &&
      t.gpr.esi == 0x2001#32) = true := by decide +kernel
theorem test_io_map_denies :
    runs [0xEC]
    { (gate 0xD 0xEE 8 0x300D (load 0x806D [0x02] (load 0x8066 [0x68, 0x00] prot3))) with
      tr.limit := 0x2fff#32, gpr.edx := 0x29#32 }
      (fun t => t.eip == 0x300D#32) = true := by decide +kernel
theorem test_io_map_last_port : runs [0xED] { (load 0x806E [0x08] (load 0x8066 [0x68, 0x00] prot3)) with
      tr.limit := 0x2fff#32, gpr.edx := 0x2F#32 }
      (fun t => t.gpr.eax == 0xFFFFFFFF#32) = true := by decide +kernel
-- Block B11.
theorem test_clc : runs [0xF8] { prot0 with
      flags.cf := true, flags.zf := true }
      (fun t => flagsAre t [some false, some false, some true, some false, some false, some false]) = true :=
      by decide +kernel
theorem test_cmc : runs [0xF5] { prot0 with
      flags.cf := true }
      (fun t => flagsAre t [some false, some false, some false, some false, some false, some false]) = true :=
      by decide +kernel
theorem test_std : runs [0xFD] prot0
      (fun t => t.flags.df==true) = true := by decide +kernel
theorem test_lahf : runs [0x9F] { prot0 with
      flags.sf := true, flags.af := true, flags.cf := true }
      (fun t => t.gpr.eax == 0x9300#32) = true := by decide +kernel
theorem test_sahf : runs [0x9E] { prot0 with
      gpr.eax := 0xFF00#32 }
      (fun t => t.flags.toWord.toNat==0xd7) = true := by decide +kernel
theorem test_pushfd : runs [0x9C] { prot0 with
      gpr.esp := 0x1000#32, flags := Flags.ofWord 0x10246#32 }
      (fun t => mem4 t 0xffc==0x246 && (t.flags.toWord.toNat==0x246 || t.flags.toWord.toNat==0x10246)) = true :=
      by decide +kernel
theorem test_popfd_user : runs [0x9D] { (load 0x2000 [0x00, 0x30, 0x00, 0x00] prot3) with
      flags := Flags.ofWord 0x202#32, gpr.esp := 0x2000#32 }
      (fun t => t.flags.toWord.toNat==0x202) = true := by decide +kernel
theorem test_cli : runs [0xFA] { real with
      flags.ifl := true }
      (fun t => t.flags.ifl==false) = true := by decide +kernel
theorem test_cli3 : runs [0xFA] { (gate 0xD 0xEE 8 0x300D prot3) with
      flags.ifl := true }
      (fun t => t.eip == 0x300D#32) = true := by decide +kernel
theorem test_lds : runs [0x66, 0x67, 0xC5, 0x03] { (load 0x500 [0x78, 0x56, 0x34, 0x12, 0x00, 0x20] real) with
      gpr.ebx := 0x500#32 }
      (fun t => t.gpr.eax == 0x12345678#32 && t.seg.ds.sel==0x2000#16 && t.seg.ds.base==0x20000#32) = true :=
      by decide +kernel
theorem test_les : runs [0xC4, 0x1E, 0x00, 0x05] (load 0x500 [0x34, 0x12, 0x00, 0xB8] real)
      (fun t => t.gpr.ebx == 0x1234#32 && t.seg.es.sel==0xb800#16 && t.seg.es.base==0xb8000#32) = true :=
      by decide +kernel
theorem test_lss : runs [0x0F, 0xB2, 0x23] { (load 0x4000 [0x00, 0x90, 0x00, 0x00, 0x10, 0x00] prot0) with
      gpr.ebx := 0x4000#32 }
      (fun t => t.gpr.esp == 0x9000#32 && t.seg.ss.sel==0x10#16) = true := by decide +kernel
-- Block B12.
theorem test_mov_ds_real : runs [0x8E, 0xD8] { real with
      gpr.eax := 0x1234#32 }
      (fun t => t.seg.ds.sel==0x1234#16 && t.seg.ds.base==0x12340#32 && t.seg.ds.limit==0xffff#32) = true :=
      by decide +kernel
theorem test_mov_ds_protected : runs [0x8E, 0xD8] { prot0 with
      gpr.eax := 0x10#32 }
      (fun t => t.seg.ds.sel==0x10#16 && t.seg.ds.limit==0xffffffff#32 && mem1 t 0x10015==0x93) = true :=
      by decide +kernel
theorem test_mov_ds_privilege : runs [0x8E, 0xD8] { (gate 0xD 0xEE 8 0x300D prot3) with
      gpr.eax := 0x10#32 }
      (fun t => t.eip == 0x300D#32 && mem4 t t.gpr.esp.toNat==16) = true := by decide +kernel
theorem test_mov_ss_null : runs [0x8E, 0xD0] { (gate 0xD 0xEE 8 0x300D prot0) with
      gpr.eax := 0x0#32 }
      (fun t => t.eip == 0x300D#32 && mem4 t t.gpr.esp.toNat==0) = true := by decide +kernel
theorem test_call_gate_inner :
    runs [0x9A, 0x00, 0x00, 0x00, 0x00, 0x33, 0x00]
    { (load 0x7FFC [0xAA, 0xAA, 0xAA, 0xAA] prot3) with
      eip := 0x401000#32 }
      (fun t => t.seg.ss.sel==0x10#16 && t.seg.cs.sel==8#16 && t.cpl==0#2 && t.eip == 0x2000#32 && t.gpr.esp ==
      0x8FEC#32 && mem4 t 0x8ffc==0x23 && mem4 t 0x8ff8==0x7ffc && mem4 t 0x8ff4==0xaaaaaaaa && mem4 t
      0x8ff0==0x1b && mem4 t 0x8fec==0x401007 && t.seg.ds.sel==0x23#16) = true := by decide +kernel
theorem test_int_real :
    runs [0xCD, 0x21]
    { (load 0x10003 [0xCD, 0x21] (load 0x84 [0x34, 0x12, 0x70, 0x00] real)) with
      flags := Flags.ofWord 0x202#32, gpr.esp := 0x100#32, seg.cs := resetSeg 0x1000#16 0x10000#32, eip := 0x3#32
      }
      (fun t => mem2 t 0xfe==0x202 && mem2 t 0xfc==0x1000 && mem2 t 0xfa==5 && t.gpr.esp == 250#32 &&
      t.flags.toWord.toNat==2 && t.seg.cs.base==0x700#32 && t.eip == 0x1234#32) = true := by decide +kernel
theorem test_int_inner :
    runs [0xCD, 0x40]
    { (load 0x20200 [0x00, 0x30, 0x08, 0x00, 0x00, 0xEE, 0x00, 0x00] prot3) with
      flags := Flags.ofWord 0x202#32, eip := 0x401000#32 }
      (fun t => t.seg.ss.sel==0x10#16 && mem4 t 0x8ffc==0x23 && mem4 t 0x8ff8==0x7ffc && mem4 t 0x8ff4==0x202 &&
      mem4 t 0x8ff0==0x1b && mem4 t 0x8fec==0x401002 && t.gpr.esp == 0x8FEC#32 && t.cpl==0#2 &&
      t.flags.toWord.toNat==2) = true := by decide +kernel
theorem test_int_gate_not_present :
    runs [0xCD, 0x40] (gate 0xB 0xEE 8 0x300B (load 0x20200 [0x00, 0x30, 0x08, 0x00, 0x00, 0x0E, 0x00, 0x00] prot0))
      (fun t => t.eip == 0x300B#32 && mem4 t t.gpr.esp.toNat==514) = true := by decide +kernel
theorem test_alignment_check : runs [0x66, 0xA1, 0x01, 0x10, 0x00, 0x00] { (gate 0x11 0xEE 8 0x3011 prot3) with
      cr0 := 0x60040011#32, flags.ac := true, eip := 0x5000#32 }
      (fun t => t.eip == 0x3011#32 && mem4 t t.gpr.esp.toNat==0) = true := by decide +kernel
-- Block B13.
theorem test_arpl : runs [0x63, 0xC8] { prot0 with
      gpr.eax := 0x8#32, gpr.ecx := 0x23#32 }
      (fun t => t.gpr.eax == 11#32 && t.flags.zf == true) = true := by decide +kernel
theorem test_clts : runs [0x0F, 0x06] { prot0 with
      cr0 := 0x6000003B#32 }
      (fun t => t.cr0==0x60000033#32) = true := by decide +kernel
theorem test_hlt : runs [0xF4] prot0
      (fun t => t.halted && t.eip == 0x1001#32) = true := by decide +kernel
theorem test_hlt3 : runs [0xF4] (gate 0xD 0xEE 8 0x300D prot3)
      (fun t => t.eip == 0x300D#32) = true := by decide +kernel
theorem test_lar : runs [0x0F, 0x02, 0xC3] { prot0 with
      gpr.ebx := 0x8#32 }
      (fun t => t.gpr.eax == 0xC09A00#32 && t.flags.zf == true) = true := by decide +kernel
theorem test_lsl : runs [0x0F, 0x03, 0xC3] { prot0 with
      gpr.ebx := 0x8#32 }
      (fun t => t.gpr.eax == 0xFFFFFFFF#32 && t.flags.zf == true) = true := by decide +kernel
theorem test_lgdt : runs [0x0F, 0x01, 0x10] { (load 0x4000 [0xFF, 0x03, 0x00, 0x10, 0x00, 0x12] prot0) with
      gpr.eax := 0x4000#32 }
      (fun t => t.gdtr.limit==0x3ff#16 && t.gdtr.base==0x12001000#32) = true := by decide +kernel
theorem test_sgdt_os16 :
    runs [0x66, 0x0F, 0x01, 0x00]
    { (load 0x4000 [0xCC, 0xCC, 0xCC, 0xCC, 0xCC, 0xCC, 0xCC, 0xCC] prot0) with
      gdtr.base := 0x12001000#32, gdtr.limit := 0x3ff#16, gpr.eax := 0x4000#32 }
      (fun t => mem4 t 0x4000==0x100003ff && mem4 t 0x4004==0xcccc0000) = true := by decide +kernel
theorem test_lmswe : runs [0x0F, 0x01, 0xF0] { prot0 with
      gpr.eax := 0xE#32 }
      (fun t => t.cr0==0x6000001f#32) = true := by decide +kernel
theorem test_mov_from_cr0 : runs [0x0F, 0x20, 0xC0] prot0
      (fun t => t.gpr.eax == 0x60000011#32) = true := by decide +kernel
theorem test_ltr : runs [0x0F, 0x00, 0xD8] { prot0 with
      gpr.eax := 0x28#32, tr.sel := 0#16 }
      (fun t => t.tr.sel==0x28#16 && t.tr.base==0x8000#32 && t.tr.limit==0x67#32 && mem1 t 0x1002d==0x8b) = true
      := by decide +kernel
theorem test_str : runs [0x0F, 0x00, 0xC8] prot0
      (fun t => t.gpr.eax == 40#32) = true := by decide +kernel
theorem test_lldt_null : runs [0x0F, 0x00, 0xD0] { prot0 with
      gpr.eax := 0x0#32 }
      (fun t => t.ldtr.valid==false && t.eip == 0x1003#32) = true := by decide +kernel
theorem test_verr23 : runs [0x0F, 0x00, 0xE0] { prot3 with
      gpr.eax := 0x23#32 }
      (fun t => t.flags.zf == true) = true := by decide +kernel
theorem test_verw8 : runs [0x0F, 0x00, 0xE8] { prot0 with
      gpr.eax := 0x8#32, flags.zf := true }
      (fun t => t.flags.zf == false) = true := by decide +kernel
theorem test_rdpmc2 : runs [0x0F, 0x33] { (gate 0xD 0xEE 8 0x300D prot0) with
      gpr.ecx := 0x2#32 }
      (fun t => t.eip == 0x300D#32) = true := by decide +kernel
theorem test_rsm : runs [0x0F, 0xAA] (gate 0x6 0xEE 8 0x3006 prot0)
      (fun t => t.eip == 0x3006#32) = true := by decide +kernel
theorem test_cpuid0 : runs [0x0F, 0xA2] { prot0 with
      gpr.eax := 0x0#32 }
      (fun t => t.gpr.eax == 2#32 && t.gpr.ebx == 0x756E6547#32 && t.gpr.edx == 0x49656E69#32 && t.gpr.ecx ==
      0x6C65746E#32) = true := by decide +kernel
-- Block B15.
theorem test_reset_far_jmp : runs [0xEA, 0x00, 0x01, 0x00, 0xF0] State.reset
      (fun t => t.seg.cs.sel==0xf000#16 && t.seg.cs.base==0xf0000#32 && t.eip == 256#32) = true :=
      by decide +kernel
theorem test_reset_pushf : runs [0x9C] State.reset
      (fun t => t.gpr.esp == 0xFFFE#32 && mem2 t 0xfffe==2) = true := by decide +kernel
theorem test_push_sp1_shutdown : runs [0x50] { State.reset with
      gpr.esp := 0x1#32 }
      (fun t => t.shutdown) = true := by decide +kernel
theorem test_reset_fld1 : runs [0xD9, 0xE8] State.reset
      (fun t => statusBits t==0x80c1 && t.fpu.st.c1 && t.fpu.st.top==0#3) = true := by decide +kernel
-- Block B16.
theorem test_device_not_available : runs [0xD9, 0xE8] { (load 0x1C [0x07, 0x70, 0, 0] real) with
      cr0 := 0x60000018#32, eip := 0x105#32 }
      (fun t => t.eip == 0x7007#32 && mem2 t 0xffa==261) = true := by decide +kernel
theorem test_math_fault : runs [0xD9, 0xEE] { (load 0x40 [0x10, 0x70, 0, 0] real) with
      cr0 := 0x60000030#32, fpu.st.ie := true, eip := 0x105#32 }
      (fun t => t.eip == 0x7010#32 && mem2 t 0xffa==261) = true := by decide +kernel
theorem test_stack_fault : runs [0x8B, 0x46, 0x00] { (load 0x30 [0x0C, 0x70, 0, 0] real) with
      gpr.ebp := 0xFFFF#32, eip := 0x105#32 }
      (fun t => t.eip == 0x700C#32 && mem2 t 0xffa==261) = true := by decide +kernel
theorem test_halt_wakes : runs [0x90] { (load 0x80 [0x20, 0x70, 0, 0] real) with
      flags.ifl := true, halted := true, host.intr := some 0x20#8, eip := 0x106#32 }
      (fun t => t.eip == 0x7020#32 && mem2 t 0xffa==262 && t.halted==false) = true := by decide +kernel
theorem test_window_and_divide_error : runs [0xF6, 0xF3] { (load 0x0 [0x00, 0x70, 0, 0] real) with
      inhibit := .ss }
      (fun t => t.eip == 0x7000#32 && mem2 t 0xffa==256) = true := by decide +kernel
theorem test_shutdown_idt_limit_0 : runs [0xCD, 0x21] { real with
      idtr.limit := 0#16 }
      (fun t => t.shutdown) = true := by decide +kernel
theorem test_double_fault :
    runs [0xF6, 0xF3] (gate 0x8 0xEE 8 0x3008 (load 0x20000 [0x00, 0x30, 0x08, 0x00, 0x00, 0x0E, 0x00, 0x00] prot0))
      (fun t => t.eip == 0x3008#32 && mem4 t t.gpr.esp.toNat==0) = true := by decide +kernel
theorem test_int_gate_dpl : runs [0xCD, 0x0D] (load 0x20068 [0x0D, 0x30, 0x08, 0x00, 0x00, 0x8E, 0x00, 0x00] prot3)
      (fun t => t.eip == 0x300D#32 && mem4 t t.gpr.esp.toNat==106) = true := by decide +kernel
theorem test_nmi_wakes : runs [0xF4] { (load 0x8 [0x02, 0x70, 0, 0] real) with
      halted := true, host.nmi := true }
      (fun t => t.eip == 0x7002#32 && mem2 t 0xffa==256 && t.halted==false) = true := by decide +kernel
-- Block B14.
theorem test_fld1 : runs [0xD9, 0xE8] { (withStack [] 0x37F#16 real) with
      eip := 0x1000#32 }
      (fun t => t.fpu.st.top == 7#3 && t.fpu.tagWord == 16383#16 && statusBits t == 14336) = true :=
      by decide +kernel
theorem test_stack_overflow :
    runs [0xD9, 0xE8]
    { (withStack [0x3FFF8000000000000000#80, 0x3FFF8000000000000000#80, 0x3FFF8000000000000000#80,
        0x3FFF8000000000000000#80, 0x3FFF8000000000000000#80, 0x3FFF8000000000000000#80, 0x3FFF8000000000000000#80,
        0x3FFF8000000000000000#80] 0x37F#16 real) with
      eip := 0x1000#32 }
      (fun t => t.fpu.st.top == 7#3 && st t 0 == 0xFFFFC000000000000000#80 && exceptionBits t == 65 && t.fpu.st.c1
      == true && t.fpu.tagWord == 32768#16) = true := by decide +kernel
theorem test_fadd_underflow : runs [0xD8, 0xC1] { (withStack [0x3FFF8000000000000000#80] 0x37F#16 real) with
      eip := 0x1000#32 }
      (fun t => st t 0 == 0xFFFFC000000000000000#80 && t.fpu.st.top == 7#3 && exceptionBits t == 65 && t.fpu.st.c1
      == false) = true := by decide +kernel
theorem test_fxch_empty : runs [0xD9, 0xC9] { (withStack [0x3FFF8000000000000000#80] 0x37F#16 real) with
      eip := 0x1000#32 }
      (fun t => st t 0 == 0xFFFFC000000000000000#80 && st t 1 == 0x3FFF8000000000000000#80 && exceptionBits t ==
      65 && t.fpu.st.c1 == false && t.fpu.tagWord == 49148#16) = true := by decide +kernel
theorem test_fld_m32_denormal :
    runs [0xD9, 0x06, 0x00, 0x02]
    { (load 0x200 [0x00, 0xC0, 0x15, 0x00] (withStack [] 0x37F#16 real)) with
      eip := 0x1000#32 }
      (fun t => st t 0 == 0x3F7EAE00000000000000#80 && exceptionBits t == 2 && t.fpu.st.top == 7#3) = true :=
      by decide +kernel
theorem test_fbld :
    runs [0xDF, 0x26, 0x00, 0x02]
    { (load 0x200 [0x25, 0x01, 0x00, 0x00, 0x00, 0x00, 0x00, 0x00, 0x00, 0x80] (withStack [] 0x37F#16 real)) with
      eip := 0x1000#32 }
      (fun t => st t 0 == 0xC005FA00000000000000#80 && exceptionBits t == 0 && t.fpu.st.top == 7#3 && t.fpu.st.c1
      == false) = true := by decide +kernel
theorem test_fld_m64 :
    runs [0xDD, 0x06, 0x00, 0x02]
    { (load 0x200 [0x66, 0x66, 0x66, 0x66, 0x66, 0x66, 0x16, 0x40] (withStack [] 0x37F#16 real)) with
      eip := 0x1000#32 }
      (fun t => st t 0 == 0x4001B333333333333000#80 && exceptionBits t == 0 && t.fpu.st.top == 7#3 && t.fpu.st.c1
      == false) = true := by decide +kernel
theorem test_fldpi : runs [0xD9, 0xEB] { (withStack [] 0x37F#16 real) with
      eip := 0x1000#32 }
      (fun t => st t 0 == 0x4000C90FDAA22168C235#80 && exceptionBits t == 0) = true := by decide +kernel
theorem test_fdiv_nearest :
    runs [0xD8, 0xF1]
    { (withStack [0x3FFF8000000000000000#80,0x4000C000000000000000#80] 0x37F#16 real) with
      eip := 0x1000#32 }
      (fun t => st t 0 == 0x3FFDAAAAAAAAAAAAAAAB#80 && exceptionBits t == 32 && t.fpu.st.c1 == true) = true :=
      by decide +kernel
theorem test_fdiv_up :
    runs [0xD8, 0xF1]
    { (withStack [0x3FFF8000000000000000#80,0x4000C000000000000000#80] 0xB7F#16 real) with
      eip := 0x1000#32 }
      (fun t => st t 0 == 0x3FFDAAAAAAAAAAAAAAAB#80 && exceptionBits t == 32 && t.fpu.st.c1 == true) = true :=
      by decide +kernel
theorem test_fdiv_53_bits :
    runs [0xD8, 0xF1]
    { (withStack [0x3FFF8000000000000000#80,0x4000C000000000000000#80] 0x27F#16 real) with
      eip := 0x1000#32 }
      (fun t => st t 0 == 0x3FFDAAAAAAAAAAAAA800#80 && exceptionBits t == 32 && t.fpu.st.c1 == false) = true :=
      by decide +kernel
theorem test_fsqrt : runs [0xD9, 0xFA] { (withStack [0x40008000000000000000#80] 0x37F#16 real) with
      eip := 0x1000#32 }
      (fun t => st t 0 == 0x3FFFB504F333F9DE6484#80 && exceptionBits t == 32 && t.fpu.st.c1 == false) = true :=
      by decide +kernel
theorem test_fadd_exact :
    runs [0xD8, 0xC1]
    { (withStack [0x3FFF8000000000000000#80,0x3FC08000000000000000#80] 0x37F#16 real) with
      eip := 0x1000#32 }
      (fun t => st t 0 == 0x3FFF8000000000000001#80 && exceptionBits t == 0 && t.fpu.st.c1 == false) = true :=
      by decide +kernel
theorem test_fmul :
    runs [0xD8, 0xC9]
    { (withStack [0x4001B333333333333000#80,0x40009999999999999800#80] 0x37F#16 real) with
      eip := 0x1000#32 }
      (fun t => st t 0 == 0x4002D70A3D70A3D70429#80 && exceptionBits t == 32 && t.fpu.st.c1 == true) = true :=
      by decide +kernel
theorem test_fdiv_by_zero :
    runs [0xD8, 0xF1]
    { (withStack [0x3FFF8000000000000000#80,0x00000000000000000000#80] 0x37F#16 real) with
      eip := 0x1000#32 }
      (fun t => st t 0 == 0x7FFF8000000000000000#80 && exceptionBits t == 4 && st t 1 ==
      0x00000000000000000000#80) = true := by decide +kernel
theorem test_fdiv_by_zero_unmasked :
    runs [0xD8, 0xF1]
    { (withStack [0x3FFF8000000000000000#80,0x00000000000000000000#80] 0x37B#16 real) with
      eip := 0x1000#32 }
      (fun t => st t 0 == 0x3FFF8000000000000000#80 && st t 1 == 0x00000000000000000000#80 && statusBits
      t==0xb084) = true := by decide +kernel
theorem test_fsubp :
    runs [0xDE, 0xE9]
    { (withStack [0x40018000000000000000#80,0x4000C000000000000000#80] 0x37F#16 real) with
      eip := 0x1000#32 }
      (fun t => st t 0 == 0xBFFF8000000000000000#80 && t.fpu.st.top == 7#3) = true := by decide +kernel
theorem test_fst_m32 :
    runs [0xD9, 0x16, 0x00, 0x03]
    { (load 0x2FE [0xEE, 0xEE] (withStack [0x4006B220000000000000#80,0x4001E000000000000000#80] 0x37F#16 real)) with
      eip := 0x1000#32 }
      (fun t => mem4 t 0x300 == 1127358464 && exceptionBits t == 0 && t.fpu.st.c1 == false && t.fpu.st.top == 6#3)
      = true := by decide +kernel
theorem test_fstp_overflow_unmasked :
    runs [0xD9, 0x1E, 0x00, 0x03]
    { (withStack [0x407F8000000000000000#80] 0x377#16 real) with
      eip := 0x1000#32 }
      (fun t => mem4 t 0x300==0 && statusBits t == 0xb888 && t.fpu.st.top == 7#3) = true := by decide +kernel
theorem test_fist_even :
    runs [0xDB, 0x16, 0x00, 0x03]
    { (load 0x2FE [0xEE, 0xEE] (withStack [0x4000A000000000000000#80,0x4001E000000000000000#80] 0x37F#16 real)) with
      eip := 0x1000#32 }
      (fun t => mem4 t 0x300 == 2 && exceptionBits t == 32 && t.fpu.st.c1 == false && t.fpu.st.top == 6#3) = true
      := by decide +kernel
theorem test_fbstp :
    runs [0xDF, 0x36, 0x00, 0x03]
    { (load 0x2FE [0xEE, 0xEE] (withStack [0xC005FA00000000000000#80,0x4001E000000000000000#80] 0x37F#16 real)) with
      eip := 0x1000#32 }
      (fun t => mem4 t 0x300 + 4294967296 * mem4 t 0x304 + 18446744073709551616 * mem2 t 0x308 ==
      604462909807314587353381 && exceptionBits t == 0 && t.fpu.st.c1 == false && t.fpu.st.top == 7#3) = true :=
      by decide +kernel
theorem test_fcom :
    runs [0xD8, 0xD1]
    { (withStack [0x3FFF8000000000000000#80,0x40008000000000000000#80] 0x37F#16 real) with
      eip := 0x1000#32 }
      (fun t => conditionBits t == 1 && exceptionBits t == 0 && t.fpu.st.top == 6#3) = true := by decide +kernel
theorem test_fucom_nan :
    runs [0xDD, 0xE1]
    { (withStack [0x7FFFC000000000000001#80,0x3FFF8000000000000000#80] 0x37F#16 real) with
      eip := 0x1000#32 }
      (fun t => conditionBits t == 13 && exceptionBits t == 0 && t.fpu.st.top == 6#3) = true := by decide +kernel
theorem test_ficom :
    runs [0xDE, 0x16, 0x00, 0x02]
    { (load 0x200 [0x02, 0x00] (withStack [0x40008000000000000000#80] 0x37F#16 real)) with
      eip := 0x1000#32 }
      (fun t => conditionBits t == 8) = true := by decide +kernel
theorem test_fcomi :
    runs [0xDB, 0xF1]
    { (withStack [0x4000C000000000000000#80,0x4000C000000000000000#80] 0x37F#16 real) with
      flags.af := true, flags.sf := true, flags.ofl := true, eip := 0x1000#32 }
      (fun t => flagsAre t [some true, some true, some true, some true, some false, some false] && exceptionBits t
      == 0 && t.fpu.st.top == 6#3) = true := by decide +kernel
theorem test_fcmovb :
    runs [0xDA, 0xC2]
    { (withStack [0x3FFF8000000000000000#80,0x40008000000000000000#80,0x4001A000000000000000#80] 0x37F#16 real) with
      flags.cf := true, eip := 0x1000#32 }
      (fun t => st t 0 == 0x4001A000000000000000#80) = true := by decide +kernel
theorem test_fxam : runs [0xD9, 0xE5] { (withStack [0xFFFF8000000000000000#80] 0x37F#16 real) with
      eip := 0x1000#32 }
      (fun t => conditionBits t == 7) = true := by decide +kernel
theorem test_fprem :
    runs [0xD9, 0xF8]
    { (withStack [0x4001E000000000000000#80,0x40008000000000000000#80] 0x37F#16 real) with
      eip := 0x1000#32 }
      (fun t => st t 0 == 0x3FFF8000000000000000#80 && conditionBits t == 10 && exceptionBits t == 0 && st t 1 ==
      0x40008000000000000000#80) = true := by decide +kernel
theorem test_fprem1 :
    runs [0xD9, 0xF5]
    { (withStack [0x4001E000000000000000#80,0x40008000000000000000#80] 0x37F#16 real) with
      eip := 0x1000#32 }
      (fun t => st t 0 == 0xBFFF8000000000000000#80 && conditionBits t == 1 && exceptionBits t == 0 && st t 1 ==
      0x40008000000000000000#80) = true := by decide +kernel
theorem test_frndint_down : runs [0xD9, 0xFC] { (withStack [0xC000A000000000000000#80] 0x77F#16 real) with
      eip := 0x1000#32 }
      (fun t => st t 0 == 0xC000C000000000000000#80 && exceptionBits t == 32 && t.fpu.st.c1 == true) = true :=
      by decide +kernel
theorem test_fscale :
    runs [0xD9, 0xFD]
    { (withStack [0x4000C000000000000000#80,0x4000B99999999999999A#80] 0x37F#16 real) with
      eip := 0x1000#32 }
      (fun t => st t 0 == 0x4002C000000000000000#80 && st t 1 == 0x4000B99999999999999A#80 && exceptionBits t ==
      0) = true := by decide +kernel
theorem test_fxtract : runs [0xD9, 0xF4] { (withStack [0xC002C000000000000000#80] 0x37F#16 real) with
      eip := 0x1000#32 }
      (fun t => st t 0 == 0xBFFFC000000000000000#80 && st t 1 == 0x4000C000000000000000#80 && exceptionBits t ==
      0) = true := by decide +kernel
theorem test_fabs : runs [0xD9, 0xE1] { (withStack [0xC000C000000000000000#80] 0x37F#16 real) with
      eip := 0x1000#32 }
      (fun t => st t 0 == 0x4000C000000000000000#80 && t.fpu.st.c1 == false) = true := by decide +kernel
theorem test_fchs : runs [0xD9, 0xE0] { (withStack [0x4000C000000000000000#80] 0x37F#16 real) with
      eip := 0x1000#32 }
      (fun t => st t 0 == 0xC000C000000000000000#80) = true := by decide +kernel
theorem test_fidiv :
    runs [0xDE, 0x36, 0x00, 0x02]
    { (load 0x200 [0x03, 0x00] (withStack [0x3FFF8000000000000000#80] 0x37F#16 real)) with
      eip := 0x1000#32 }
      (fun t => st t 0 == 0x3FFDAAAAAAAAAAAAAAAB#80 && exceptionBits t == 32 && t.fpu.st.c1 == true) = true :=
      by decide +kernel
theorem test_fsin_too_large : runs [0xD9, 0xFE] { (withStack [0x403E8000000000000000#80] 0x37F#16 real) with
      eip := 0x1000#32 }
      (fun t => st t 0 == 0x403E8000000000000000#80 && exceptionBits t == 0 && t.fpu.st.c2 && t.fpu.st.top == 7#3)
      = true := by decide +kernel
theorem test_fptan_zero : runs [0xD9, 0xF2] { (withStack [0x00000000000000000000#80] 0x37F#16 real) with
      eip := 0x1000#32 }
      (fun t => st t 0 == 0x3FFF8000000000000000#80 && st t 1 == 0x00000000000000000000#80 && !t.fpu.st.c2) = true
      := by decide +kernel
theorem test_fpatan :
    runs [0xD9, 0xF3]
    { (withStack [0xBFFF8000000000000000#80,0x00000000000000000000#80] 0x37F#16 real) with
      eip := 0x1000#32 }
      (fun t => st t 0 == 0x4000C90FDAA22168C235#80 && t.fpu.st.top == 7#3) = true := by decide +kernel
theorem test_fyl2x_negative :
    runs [0xD9, 0xF1]
    { (withStack [0xBFFF8000000000000000#80,0x40008000000000000000#80] 0x37F#16 real) with
      eip := 0x1000#32 }
      (fun t => st t 0 == 0xFFFFC000000000000000#80 && t.fpu.st.top == 7#3 && exceptionBits t == 1) = true :=
      by decide +kernel
theorem test_fnstenv : runs [0xD9, 0x36, 0x00, 0x03] { (withStack [0x3FFF8000000000000000#80] 0x27F#16 real) with
      fpu.st.pe := true, eip := 0x1000#32 }
      (fun t => mem2 t 0x300==0x27f && mem2 t 0x302==0x3820 && mem2 t 0x304==0x3fff && t.fpu.cw==0x27f#16) = true
      := by decide +kernel
theorem test_fnsave : runs [0xDD, 0x36, 0x00, 0x03] { (withStack [0x3FFF8000000000000000#80] 0x27F#16 real) with
      fpu.st.pe := true, eip := 0x1000#32 }
      (fun t => mem2 t 0x300==0x27f && mem4 t 0x30e + 4294967296 * mem4 t 0x312 + 18446744073709551616 * mem2 t
      0x316==0x3FFF8000000000000000 && t.fpu.cw==0x37f#16 && statusBits t==0 && t.fpu.tagWord == 65535#16) = true
      := by decide +kernel
theorem test_fldcw_unmasks :
    runs [0xD9, 0x2E, 0x00, 0x02]
    { (load 0x200 [0x7E, 0x03] (withStack [] 0x37F#16 real)) with
      fpu.st.ie := true, eip := 0x1000#32 }
      (fun t => t.fpu.cw==0x37e#16 && statusBits t ==0x8081) = true := by decide +kernel
theorem test_fnclex : runs [0xDB, 0xE2] { (withStack [0x3FFF8000000000000000#80] 0x37E#16 real) with
      fpu.st.pe := true, fpu.st.ie := true, eip := 0x1000#32 }
      (fun t => statusBits t==0x3800) = true := by decide +kernel

/-! ## For every statement with hypotheses, a state and operands that meet them -/

/-- The r/m operand of `w` bits that ends at the last byte of a 64K segment. -/
def last (w : Nat) : RM := .mem (.abs16 (BitVec.ofNat 16 (0x10000 - w / 8)))

/-- Operands at the end of the segment can be read and written. -/
theorem last_writable : (real.canWrite 8 (last 8) ∧ real.canWrite 16 (last 16) ∧ real.canWrite 32 (last 32)) ∧
    real.canRead 8 (last 8) ∧ real.canRead 16 (last 16) ∧ real.canRead 32 (last 32) := by
  simp only [State.canRead, State.canWrite, last, State.reads, State.updates]; decide +kernel

theorem witness_AddSubResult : (real.canWrite 8 (last 8) ∧ real.canWrite 16 (last 16) ∧ real.canWrite 32 (last 32)) ∧
    real.canRead 8 (last 8) ∧ real.canRead 16 (last 16) ∧ real.canRead 32 (last 32) := last_writable

theorem witness_CompareAndTest : (real.canRead 8 (last 8) ∧ real.canRead 16 (last 16) ∧ real.canRead 32 (last 32)) ∧
    ∀ w ∈ [8, 16, 32], w = 8 ∨ w = 16 ∨ w = 32 := ⟨last_writable.2, by decide +kernel⟩

theorem witness_LogicAndUnary : real.canWrite 8 (last 8) ∧ real.canWrite 16 (last 16) ∧ real.canWrite 32 (last 32) :=
  last_writable.1

/-- Accumulator, its upper half and ECX set. -/
def withMul (d a c : DWord) : State := { real with gpr := { real.gpr with edx := d, eax := a, ecx := c } }

-- The greatest quotient that DIV allows, the least one of IDIV, and the values next to them.
theorem witness_MulDivResult :
    (real.canRead 8 (last 8) ∧ real.canRead 16 (last 16) ∧ real.canRead 32 (last 32)) ∧
    (((withMul 0#32 65279#32 255#32).gpr.pairVal 8 = 255 * ((withMul 0#32 65279#32 255#32).rmVal 8 (.reg 1#3)).toNat + 254 ∧
      254 < ((withMul 0#32 65279#32 255#32).rmVal 8 (.reg 1#3)).toNat ∧ 255 < 2 ^ 8) ∧
    (let s := withMul 0xFFFFFFFE#32 0xFFFFFFFF#32 0xFFFFFFFF#32
     s.gpr.pairVal 32 = 4294967295 * (s.rmVal 32 (.reg 1#3)).toNat + 4294967294 ∧
      4294967294 < (s.rmVal 32 (.reg 1#3)).toNat ∧ 4294967295 < 2 ^ 32) ∧
    (let s := withMul 0xFFFF#32 0x8000#32 1#32
     (BitVec.ofNat 32 (s.gpr.pairVal 16)).toInt = -32768 * (s.rmVal 16 (.reg 1#3)).toInt + 0 ∧
      (0 : Int).natAbs < (s.rmVal 16 (.reg 1#3)).toInt.natAbs ∧
      0 ≤ 0 * (BitVec.ofNat 32 (s.gpr.pairVal 16)).toInt ∧ fitsSigned 16 (-32768) = true) ∧
    (let s := withMul 0#32 0xFF81#32 2#32
     (BitVec.ofNat 16 (s.gpr.pairVal 8)).toInt = -63 * (s.rmVal 8 (.reg 1#3)).toInt + -1 ∧
      (-1 : Int).natAbs < (s.rmVal 8 (.reg 1#3)).toInt.natAbs ∧
      0 ≤ -1 * (BitVec.ofNat 16 (s.gpr.pairVal 8)).toInt ∧ fitsSigned 8 (-63) = true)) ∧
    ((withMul 0#32 0#32 0#32).rmVal 8 (.reg 1#3)).toNat = 0 ∧
    (let s := withMul 1#32 0#32 1#32
     2 ^ 32 * (s.rmVal 32 (.reg 1#3)).toNat ≤ s.gpr.pairVal 32) ∧
    ((withMul 0#32 0#32 0#32).rmVal 16 (.reg 1#3)).toInt = 0 ∧
    (let s := withMul 0#32 128#32 1#32
     fitsSigned 8 ((BitVec.ofNat 16 (s.gpr.pairVal 8)).toInt.tdiv (s.rmVal 8 (.reg 1#3)).toInt) = false) :=
  ⟨last_writable.2, by decide +kernel⟩

theorem witness_DecimalResult : (1#8 ≠ 0#8) ∧ (0xFF#8 ≠ 0#8) := by decide +kernel

theorem witness_ShiftResult : real.canWrite 8 (last 8) ∧ real.canWrite 16 (last 16) ∧ real.canWrite 32 (last 32) :=
  last_writable.1

theorem witness_RotateResult : (real.canWrite 8 (last 8) ∧ real.canWrite 16 (last 16) ∧ real.canWrite 32 (last 32)) ∧
    ∀ w ∈ [8, 16, 32], ∀ c ∈ [1, 31], (w = 8 ∨ w = 16 ∨ w = 32) ∧ 0 < c ∧ c < 32 :=
  ⟨last_writable.1, by decide +kernel⟩

-- A bit string in a register, the last one of the segment, and one that reaches back to its first byte.
theorem witness_BitResult :
    (real.canReadBit 16 (-1) (.reg 0#3) ∧ real.canReadBit 16 15 (last 16) ∧
      real.canReadBit 32 (-32) (.mem (.abs16 4#16)) ∧ real.canReadBit 32 31 (last 32)) ∧
    (real.canWriteBit 32 63 (.reg 0#3) ∧ real.canWriteBit 32 31 (last 32) ∧
      real.canWriteBit 16 (-16) (.mem (.abs16 2#16)) ∧ real.canWriteBit 16 0 (last 16)) ∧
    (real.canRead 16 (last 16) ∧ real.canRead 32 (last 32) ∧ real.rmVal 16 (.reg 0#3) = 0#16 ∧
      real.rmVal 32 (.reg 4#3) ≠ 0#32) := by
  simp only [State.canReadBit, State.canWriteBit, State.canRead, last, State.reads, State.updates]; decide +kernel

theorem witness_SetAndMoveOnCondition :
    real.canWrite 8 (last 8) ∧ real.canRead 16 (last 16) ∧ real.canRead 32 (last 32) :=
  ⟨last_writable.1.1, last_writable.2.2⟩

theorem witness_MoveAndConvert :
    ((real.canWrite 8 (last 8) ∧ real.canWrite 16 (last 16) ∧ real.canWrite 32 (last 32)) ∧
      real.canRead 8 (last 8) ∧ real.canRead 16 (last 16) ∧ real.canRead 32 (last 32)) ∧
    State.reads real (real.moffsLoc (.o16 0xFFFC#16)) 4 4 ∧
    writeFault real (real.moffsLoc (.o16 0xFFFC#16)) 4 4 = none ∧
    (let s := { real with gpr := { real.gpr with ebx := 0xFF00#32, eax := 0xFF#32 } }
     State.reads s (s.asLoc (s.segFor .ds) (s.gpr.ebx + (s.gpr.read 8 rA).setWidth 32)) 1 1) :=
  ⟨last_writable, by simp only [State.reads]; decide +kernel⟩

theorem witness_ExchangeResult :
    (real.canWrite 8 (last 8) ∧ real.canWrite 16 (last 16) ∧ real.canWrite 32 (last 32)) ∧
    real.canWrite 64 (last 64) ∧ real.gpr.read 32 rA = real.rmVal 32 (last 32) ∧
    real.gpr.read 32 rA ≠ real.rmVal 32 (.reg 4#3) ∧ real.gpr.edx ++ real.gpr.eax = real.rmVal 64 (last 64) :=
  ⟨last_writable.1, by simp only [State.canWrite, last, State.updates]; decide +kernel⟩

/-- The stack pointer set. -/
def withSp (v : DWord) (s : State) : State := { s with gpr := { s.gpr with esp := v } }

-- A push that ends at the bottom of the segment, and the odd stack pointer of the shutdown.
theorem witness_PushResult :
    (real.canRead 16 (last 16) ∧ real.canRead 32 (last 32)) ∧
    (writeFault (withSp 2#32 real) ((withSp 2#32 real).pushLoc 2) 2 2 = none ∧
      writeFault (withSp 4#32 real) ((withSp 4#32 real).pushLoc 4) 4 4 = none) ∧
    ((withSp 16#32 real).canPushAll 2 1 ((withSp 16#32 real).gpr.inOrder 16) ∧
      (withSp 16#32 real).stackTop.toNat % 2 = 0) ∧
    ((withSp 32#32 real).canPushAll 4 1 ((withSp 32#32 real).gpr.inOrder 32) ∧
      15 < (withSp 32#32 real).stackTop.toNat) ∧
    ((withSp 1#32 real).isReal = true ∧ (withSp 1#32 real).stackTop = 1#32) ∧
    (∀ v ∈ [1, 3, 5], (withSp (BitVec.ofNat 32 v) real).isReal = true ∧
      (withSp (BitVec.ofNat 32 v) real).stackTop.toNat ∈ [1, 3, 5]) ∧
    ∀ v ∈ [7, 15], (withSp (BitVec.ofNat 32 v) virt).isProt = false ∧
      (withSp (BitVec.ofNat 32 v) virt).stackTop.toNat ∈ [7, 9, 11, 13, 15] := by
  refine ⟨last_writable.2.2, ?_⟩
  simp only [Gprs.inOrder, List.map, State.canPushAll]; decide +kernel

/-- A block of POPAD whose slot of the saved ESP is a device's range. -/
def spOnDevice : State :=
  withSp 0xFFE0#32 { real with host := { real.host with map := [{ base := 0xFFEC, size := 4, kind := .device }] } }

-- Both blocks end at the last byte of the segment.
theorem witness_PopResult :
    (State.reads (withSp 0xFFFE#32 real) ((withSp 0xFFFE#32 real).stackLoc 0#32) 2 2 ∧
      ((withSp 0xFFFE#32 real).popped 2).canWrite 16 (last 16)) ∧
    (State.reads (withSp 0xFFFC#32 real) ((withSp 0xFFFC#32 real).stackLoc 0#32) 4 4 ∧
      ((withSp 0xFFFC#32 real).popped 4).canWrite 32 (last 32)) ∧
    (∀ k < 8, readFault (withSp 0xFFF0#32 real) ((withSp 0xFFF0#32 real).stackLoc (BitVec.ofNat 32 (k * 2))) 2 1 = none ∧
      (withSp 0xFFF0#32 real).quiet ((withSp 0xFFF0#32 real).linear ((withSp 0xFFF0#32 real).stackLoc
        (BitVec.ofNat 32 (k * 2)))) 2 = true) ∧
    (∀ k < 8, readFault (withSp 0xFFE0#32 real) ((withSp 0xFFE0#32 real).stackLoc (BitVec.ofNat 32 (k * 4))) 4 1 = none ∧
      (k ≠ 3 → spOnDevice.quiet (spOnDevice.linear (spOnDevice.stackLoc (BitVec.ofNat 32 (k * 4)))) 4 = true)) ∧
    spOnDevice.quiet (spOnDevice.linear (spOnDevice.stackLoc 12#32)) 4 = false := by
  simp only [State.canWrite, last, State.reads, State.updates]; decide +kernel

-- Real-address mode; a null, a good and a bad selector in protected mode.
theorem witness_SegmentLoadResult :
    (real.canRead 16 (last 16) ∧ real.canWrite 16 (last 16)) ∧ SegReg.ds ≠ .cs ∧
    (real.canLoadSeg .ds 0x1234#16 ∧ prot0.canLoadSeg .ds 3#16 ∧ prot0.canLoadSeg .es 0x10#16 ∧
      prot0.canLoadSeg .ss 0x10#16) ∧
    (prot0.segFault .ss 0#16 = some (excGP 0#16) ∧ prot0.segFault .ds 0x68#16 = some (excGP 0x68#16) ∧
      prot0.segFault .fs 0x50#16 = some (excNP 0x50#16)) ∧
    (State.reads (withSp 0xFFFE#32 real) ((withSp 0xFFFE#32 real).stackLoc 0#32) real.osBytes real.osBytes ∧
      ((withSp 0xFFFE#32 real).popped real.osBytes).canLoadSeg .ss 0#16) ∧
    (let s := load 0x9000 [0x68, 0, 0, 0] prot0
     State.reads s (s.stackLoc 0#32) s.osBytes s.osBytes ∧
      (s.popped s.osBytes).segFault .gs (BitVec.ofNat 16 (s.stackItem 0 s.osBytes)) = some (excGP 0x68#16)) ∧
    (readFault real (real.eaLoc (.abs16 0xFFFC#16)) (bytesOf 16 + 2) (bytesOf 16) = none ∧
      readFault real (real.eaLoc (.abs16 0xFFFA#16)) (bytesOf 32 + 2) (bytesOf 32) = none) ∧
    let a := prot0.linear (prot0.eaLoc (.abs32 0x9000#32))
    let s := load 0x9000 [0, 0, 0, 0, 0x68, 0] prot0
    let t := s.sawRead a 4
    (t.sawRead (a + 4#32) 2).segFault .gs (BitVec.ofNat 16 (t.readLin (a + 4#32) 2)) = some (excGP 0x68#16) := by
  simp only [State.canRead, State.canWrite, State.canLoadSeg, last, State.reads, State.updates]; decide +kernel

theorem witness_SegmentLoadChecks : prot0.isProt = true ∧ SegReg.ss ≠ .cs ∧ selNull 3#16 = true ∧
    (selNull 4#16 = false ∧ prot0.descAddr 4#16 = none ∧ prot0.descAddr 0x68#16 = none) ∧
    (selNull 0x60#16 = false ∧ prot0.descAddr 0x60#16 = some 0x10060#32) ∧ virt.isV86 = true ∧ real.isV86 = false := by
  decide +kernel

theorem witness_PrefixResult : group1 real.pfx = false ∧ group1 { real.pfx with lock := true } = true ∧
    (Instr.segGs, SegReg.gs) ∈
      [(Instr.segCs, SegReg.cs), (.segSs, .ss), (.segDs, .ds), (.segEs, .es), (.segFs, .fs), (.segGs, .gs)] :=
  ⟨by decide +kernel, by decide +kernel, by simp⟩

/-- Protected mode with the limit 1FFFH in CS, and in the descriptor 8; the next instruction at 1FC0H. -/
def narrow : State :=
  load 0x10008 [0xFF, 0x1F, 0, 0, 0, 0x9A, 0x40, 0] { prot0 with
    nextEip := 0x1FC0#32, seg := { prot0.seg with cs := { prot0.seg.cs with limit := 0x1FFF#32 } },
    gpr := { prot0.gpr with eax := 0x1FFF#32, ebx := 0x2000#32, ecx := 2#32 } }

-- The last offset of the code segment, and the first one beyond it.
theorem witness_NearTransferResult_jumps :
    (narrow.inCs (narrow.relTarget true ((0x3F#8).signExtend 32)) ∧
      ¬ narrow.inCs (narrow.relTarget true ((0x40#8).signExtend 32))) ∧
    (narrow.inCs (narrow.relTarget false ((0x3F#16).signExtend 32)) ∧
      ¬ narrow.inCs (narrow.relTarget false ((0x40#16).signExtend 32))) ∧
    (narrow.inCs ((narrow.rmVal 16 (.reg 0#3)).setWidth 32) ∧ ¬ narrow.inCs ((narrow.rmVal 16 (.reg 3#3)).setWidth 32)) ∧
    narrow.inCs (narrow.rmVal 32 (.reg 0#3)) ∧ ¬ narrow.inCs (narrow.rmVal 32 (.reg 3#3)) ∧
    narrow.gpr.read 32 rC - 1#32 ≠ 0#32 ∧ real.gpr.read 16 rC = 0#16 ∧
    real.canRead 16 (last 16) ∧ real.canRead 32 (last 32) := by
  simp only [State.inCs, State.canRead, last, State.reads]; decide +kernel

theorem witness_NearTransferResult_calls :
    (narrow.inCs (narrow.relTarget true 0x3F#32) ∧
      writeFault (withSp 4#32 narrow) ((withSp 4#32 narrow).pushLoc 4) 4 4 = none) ∧
    ¬ narrow.inCs (narrow.relTarget true 0x40#32) ∧
    (real.canRead 16 (last 16) ∧ real.canRead 32 (last 32)) ∧
    (let s := load 0x9000 [0xFF, 0x1F, 0, 0] narrow
     State.reads s (s.stackLoc 0#32) s.osBytes s.osBytes ∧ s.inCs (BitVec.ofNat 32 (s.stackItem 0 s.osBytes))) ∧
    (let s := load 0x9000 [0, 0x20, 0, 0] narrow
     State.reads s (s.stackLoc 0#32) s.osBytes s.osBytes ∧ ¬ s.inCs (BitVec.ofNat 32 (s.stackItem 0 s.osBytes))) := by
  simp only [State.inCs, State.canRead, last, State.reads]; decide +kernel

theorem witness_FarJumpAndCall :
    (real.isProt = false ∧ real.inCs 0xFFFF#32 ∧ ¬ real.inCs 0x10000#32) ∧
    (prot0.isProt = true ∧ selNull 3#16 = true) ∧
    (narrow.mayEnter 8#16 0x10008#32 ∧ narrow.inSeg 0x10008#32 0x1FFF#32 ∧ ¬ narrow.inSeg 0x10008#32 0x2000#32) ∧
    prot3.mayEnter 0x3B#16 0x10038#32 ∧
    (State.reads real (real.eaLoc (.abs16 0xFFFC#16)) (bytesOf 16 + 2) (bytesOf 16) ∧
      State.reads real (real.eaLoc (.abs16 0xFFFA#16)) (bytesOf 32 + 2) (bytesOf 32)) ∧
    ((withSp 4#32 real).stackRoom 2 2 = true ∧ (withSp 4#32 real).canPushAll 2 2 (withSp 4#32 real).returnItems) ∧
    ((withSp 8#32 narrow).stackRoom 4 2 = true ∧ (withSp 8#32 narrow).canPushAll 4 4 (withSp 8#32 narrow).returnItems) := by
  simp only [State.inCs, State.mayEnter, State.levelFits, State.codeAt, State.inSeg, State.returnItems, State.canPushAll,
    State.reads]
  decide +kernel

/-- The access byte of a descriptor of the GDT set. -/
def access (sel acc : Nat) (s : State) : State := load (0x10005 + sel) [acc] s

/-- The gate at 30H made a task gate to a selector. -/
def taskGate (sel : Nat) (s : State) : State := load 0x10030 [0, 0, sel, 0, 0, 0xE5, 0, 0] s

-- The selectors about the end of the table; a wrong type, level and absence; no room for two items.
theorem witness_FarFaults_segments :
    (prot0.isProt = true ∧ selNull 0x68#16 = false ∧ prot0.descAddr 0x68#16 = none ∧
      prot0.descAddr 0x60#16 = some 0x10060#32) ∧
    (¬ codeSegment (prot0.descAt 0x10010#32) ∧
      ¬ systemOf [1#4, 3#4, 4#4, 5#4, 9#4, 0xB#4, 0xC#4] (prot0.descAt 0x10010#32)) ∧
    (¬ codeSegment (prot0.descAt 0x10040#32) ∧
      ¬ systemOf [1#4, 3#4, 4#4, 5#4, 9#4, 0xB#4, 0xC#4] (prot0.descAt 0x10040#32)) ∧
    (codeSegment (prot3.descAt 0x10008#32) ∧ ¬ prot3.levelFits 8#16 (prot3.descAt 0x10008#32) ∧
      ¬ prot0.levelFits 0xB#16 (prot0.descAt 0x10008#32)) ∧
    (let s := access 8 0x1A prot0
     codeSegment (s.descAt 0x10008#32) ∧ s.levelFits 8#16 (s.descAt 0x10008#32) ∧
      (s.descAt 0x10008#32).getLsbD 47 = false) ∧
    ((withSp 3#32 real).stackRoom 2 2 = false ∧ (withSp 3#32 narrow).stackRoom 4 2 = false ∧
      (withSp 3#32 narrow).mayEnter 8#16 0x10008#32) := by
  simp only [codeSegment, systemOf, State.levelFits, State.mayEnter, State.codeAt]
  refine ⟨?_, ?_, ?_, ?_, ?_, ?_⟩ <;> decide +kernel

-- A TSS that is closed, busy, open; a gate not present; a task gate to each kind of TSS, and to what is none.
theorem witness_FarFaults_gates :
    (systemOf [1#4, 4#4, 5#4, 9#4, 0xC#4] (prot3.descAt 0x10028#32) ∧
      ¬ prot3.gateLevel 0x28#16 (prot3.descAt 0x10028#32) ∧
      systemOf [3#4, 0xB#4] ((access 0x28 0x8B prot0).descAt 0x10028#32)) ∧
    (let s := access 0x30 0x6C prot3
     systemOf [1#4, 4#4, 5#4, 9#4, 0xC#4] (s.descAt 0x10030#32) ∧ s.gateLevel 0x33#16 (s.descAt 0x10030#32) ∧
      (s.descAt 0x10030#32).getLsbD 47 = false) ∧
    (systemOf [1#4, 9#4] (prot0.descAt 0x10028#32) ∧ prot0.gateLevel 0x28#16 (prot0.descAt 0x10028#32) ∧
      (prot0.descAt 0x10028#32).getLsbD 47 = true ∧ selTi 0x28#16 = false) ∧
    (let s := taskGate 0x28 prot3
     let d := s.descAt 0x10030#32
     systemOf [5#4] d ∧ s.gateLevel 0x33#16 d ∧ d.getLsbD 47 = true ∧ s.quiet 0x10030#32 8 = true ∧
      gateSel d = 0x28#16 ∧ s.descAddr 0x28#16 = some 0x10028#32 ∧ systemOf [1#4, 9#4] (s.descAt 0x10028#32) ∧
      (s.descAt 0x10028#32).getLsbD 47 = true ∧ ((access 0x28 9 s).descAt 0x10028#32).getLsbD 47 = false) ∧
    (selTi (gateSel ((taskGate 0x2C prot3).descAt 0x10030#32)) = true ∧
      prot3.descAddr (gateSel ((taskGate 0x68 prot3).descAt 0x10030#32)) = none ∧
      ¬ systemOf [1#4, 9#4] ((access 0x28 0x8B prot3).descAt 0x10028#32)) := by
  simp only [systemOf, State.gateLevel]
  refine ⟨?_, ?_, ?_, ?_, ?_⟩ <;> decide +kernel

-- The same level, a conforming segment, and an inner level.
theorem witness_CallGateResult :
    (prot0.isProt = true ∧ selNull 0x30#16 = false ∧ prot0.descAddr 0x30#16 = some 0x10030#32 ∧
      prot0.quiet 0x10030#32 8 = true ∧ prot3.quiet 0x10030#32 8 = true ∧ prot3.quiet 0x10048#32 8 = true) ∧
    (let gate := prot0.descAt 0x10030#32
     gate.getLsbD 44 = false ∧ descType gate = 0xC#4 ∧ prot0.gateLevel 0x30#16 gate ∧ descP gate = true ∧
      prot0.codeAt (gateSel gate) 0x10008#32 ∧ prot0.inSeg 0x10008#32 (gateOff gate) ∧
      descDpl (prot0.descAt 0x10008#32) = prot0.cpl) ∧
    (prot0.stackRoom 4 2 = true ∧ prot0.canPushAll 4 4 prot0.returnItems) ∧
    (let gate := prot3.descAt 0x10048#32
     prot3.descAddr 0x4B#16 = some 0x10048#32 ∧ gate.getLsbD 44 = false ∧ descType gate = 4#4 ∧
      prot3.gateLevel 0x4B#16 gate ∧ descP gate = true ∧
      prot3.codeAt (gateSel gate) 0x10038#32 ∧ prot3.inSeg 0x10038#32 (gateOff gate) ∧
      (prot3.descAt 0x10038#32).getLsbD 42 = true ∧ descDpl (prot3.descAt 0x10038#32) ≤ prot3.cpl) ∧
    (let gate := prot3.descAt 0x10030#32
     prot3.gateLevel 0x33#16 gate ∧ prot3.codeAt (gateSel gate) 0x10008#32 ∧
      (prot3.descAt 0x10008#32).getLsbD 42 = false ∧ descDpl (prot3.descAt 0x10008#32) < prot3.cpl ∧
      prot3.innerRoom 0#2 0x10#16 0x9000#32 0x10010#32 4 (gateCount gate + 4) ∧
      ∀ k < gateCount gate, State.reads prot3 (prot3.stackLoc (BitVec.ofNat 32 (k * 4))) 4 1) ∧
    (let s := load 0x2000 [0, 0, 0, 0, 0x30, 0] prot0
     State.reads s (s.eaLoc (.abs32 0x2000#32)) 6 4 ∧ State.reads s (s.eaLoc (.abs32 0x2002#32)) 4 2 ∧
      BitVec.ofNat 16 (s.readLin (s.linear (s.eaLoc (.abs32 0x2000#32)) + 4#32) 2) = 0x30#16) := by
  simp only [State.gateLevel, State.codeAt, State.inSeg, State.returnItems, State.canPushAll, State.innerRoom,
    State.innerStack, State.stackAt, State.reads]
  refine ⟨?_, ?_, ?_, ?_, ?_⟩ <;> decide +kernel

/-- The selector in the gate at 30H. -/
def gateTo (sel : Nat) (s : State) : State := load 0x10032 [sel, 0] s

/-- The code selector of that gate. -/
def gateCode (s : State) : Word := gateSel (s.descAt 0x10030#32)

-- The code selector of a gate: null, outside, no code, at a wrong level for JMP and for CALL, not present; no room, and the
-- first offset beyond the limit.
theorem witness_GateFaults_code :
    (selNull (gateCode (gateTo 3 prot0)) = true ∧ selNull (gateCode (gateTo 0x68 prot0)) = false ∧
      prot0.descAddr (gateCode (gateTo 0x68 prot0)) = none) ∧
    (prot0.descAddr (gateCode (gateTo 0x10 prot0)) = some 0x10010#32 ∧ ¬ codeSegment (prot0.descAt 0x10010#32)) ∧
    (prot3.descAddr (gateCode prot3) = some 0x10008#32 ∧ (prot3.descAt 0x10008#32).getLsbD 42 = false ∧
      descDpl (prot3.descAt 0x10008#32) ≠ prot3.cpl) ∧
    (prot0.descAddr (gateCode (gateTo 0x18 prot0)) = some 0x10018#32 ∧ prot0.cpl < descDpl (prot0.descAt 0x10018#32)) ∧
    (let s := access 8 0x1A prot0
     codeSegment (s.descAt 0x10008#32) ∧ descDpl (s.descAt 0x10008#32) = s.cpl ∧
      (s.descAt 0x10008#32).getLsbD 47 = false) ∧
    ((withSp 3#32 prot0).codeAt (gateCode prot0) 0x10008#32 ∧ (withSp 3#32 prot0).stackRoom 4 2 = false) ∧
    (narrow.codeAt (gateCode narrow) 0x10008#32 ∧ ¬ narrow.inSeg 0x10008#32 (gateOff (narrow.descAt 0x10030#32)) ∧
      narrow.stackRoom 4 2 = true) := by
  simp only [codeSegment, State.codeAt, State.inSeg]
  refine ⟨?_, ?_, ?_, ?_, ?_, ?_⟩ <;> decide +kernel

/-- The stack selector and the stack pointer of level 0 in the TSS. -/
def tssGives (sel esp : Nat) (s : State) : State := load 0x8004 [esp, 0x90, 0, 0, sel, 0] s

-- The stack of an inner level: a TSS one byte short, of both sizes; a null selector, one outside, a wrong and an absent
-- segment, no room, and the first offset beyond the limit.
theorem witness_GateFaults_stack :
    (prot3.codeAt (gateCode prot3) 0x10008#32 ∧ (prot3.descAt 0x10008#32).getLsbD 42 = false ∧
      descDpl (prot3.descAt 0x10008#32) = 0#2 ∧ 0#2 < prot3.cpl) ∧
    (prot3.tr.ty.getLsbD 3 = true ∧ { prot3.tr with limit := 10#32 }.limit.toNat < 8 * (0#2).toNat + 11 ∧
      { prot3.tr with ty := 3#4 }.ty.getLsbD 3 = false ∧ { prot3.tr with limit := 5#32 }.limit.toNat < 4 * (0#2).toNat + 6) ∧
    ((tssGives 3 0 prot3).innerStack 0#2 3#16 0x9000#32 ∧ selNull 3#16 = true) ∧
    ((tssGives 0x68 0 prot3).innerStack 0#2 0x68#16 0x9000#32 ∧ selNull 0x68#16 = false ∧
      prot3.descAddr 0x68#16 = none) ∧
    ((tssGives 0x58 0 prot3).innerStack 0#2 0x58#16 0x9000#32 ∧ prot3.descAddr 0x58#16 = some 0x10058#32 ∧
      wrongStack 0x58#16 0#2 (prot3.descAt 0x10058#32)) ∧
    (let s := access 0x10 0x12 prot3
     s.innerStack 0#2 0x10#16 0x9000#32 ∧ s.descAddr 0x10#16 = some 0x10010#32 ∧
      ¬ wrongStack 0x10#16 0#2 (s.descAt 0x10010#32) ∧ (s.descAt 0x10010#32).getLsbD 47 = false) ∧
    (let s := load 0x8004 [3, 0] prot3
     s.innerStack 0#2 0x10#16 3#32 ∧ s.stackAt 0x10#16 0#2 0x10010#32 ∧
      roomBelow (segOfDesc 0x10#16 (s.descAt 0x10010#32)) (descDb (s.descAt 0x10010#32))
        (wrapOff (descDb (s.descAt 0x10010#32)) 3#32) 4 (gateCount (s.descAt 0x10030#32) + 4) = false) ∧
    (let s := load 0x10008 [0xFF, 0x1F, 0, 0, 0, 0x9A, 0x40, 0] prot3
     s.innerStack 0#2 0x10#16 0x9000#32 ∧ s.stackAt 0x10#16 0#2 0x10010#32 ∧
      roomBelow (segOfDesc 0x10#16 (s.descAt 0x10010#32)) (descDb (s.descAt 0x10010#32))
        (wrapOff (descDb (s.descAt 0x10010#32)) 0x9000#32) 4 (gateCount (s.descAt 0x10030#32) + 4) = true ∧
      ¬ s.inSeg 0x10008#32 (gateOff (s.descAt 0x10030#32))) := by
  simp only [wrongStack, mayWrite, State.codeAt, State.inSeg, State.innerStack, State.stackAt]
  refine ⟨?_, ?_, ?_, ?_, ?_, ?_, ?_⟩ <;> decide +kernel

/-- The descriptors and the stack of `prot0` with a frame of doublewords at 9000H. -/
def framed (l : List Nat) (s : State) : State :=
  load 0x9000 ((l.map fun v => [v % 256, v / 256 % 256, v / 65536 % 256, v / 16777216]).flatten) s

/-- A stack segment whose limit lets in one word above SP, and the first byte of the next. -/
def shortStack : State := { real with seg := { real.seg with ss := { real.seg.ss with limit := 0x1002#32 } } }

-- The last item of the segment in real-address mode; the same level, an offset beyond the limit, and an outer level.
theorem witness_FarReturnResult :
    (let s := withSp 0xFFFC#32 (load 0xFFFC [0xFF, 0xFF, 0x34, 0x12] real)
     s.canPeekAll s.osBytes 2 ∧ s.isProt = false ∧ s.inCs (s.frameItem s.osBytes 0)) ∧
    (let s := framed [0x2000, 8] { narrow with flags := { narrow.flags with vm := true } }
     s.canPeekAll 2 2 ∧ s.isProt = false ∧ s.inCs (s.frameItem 2 1)) ∧
    (let s := framed [0x1FFF, 3] narrow
     s.canPeekAll s.osBytes 2 ∧ s.isProt = true ∧ selNull ((s.frameItem s.osBytes 1).setWidth 16) = true) ∧
    (let s := framed [0x1FFF, 8] narrow
     s.canPeekAll s.osBytes 2 ∧ s.mayReturn ((s.frameItem s.osBytes 1).setWidth 16) 0x10008#32 ∧ rpl 8#16 = s.cpl ∧
      s.inSeg 0x10008#32 (s.frameItem s.osBytes 0)) ∧
    (let s := framed [0x2000, 8] narrow
     s.mayReturn ((s.frameItem s.osBytes 1).setWidth 16) 0x10008#32 ∧ ¬ s.inSeg 0x10008#32 (s.frameItem s.osBytes 0)) ∧
    (let s := framed [0x1234, 0x1B, 0x7000, 0x23] prot0
     s.canPeekAll s.osBytes 2 ∧ s.mayReturn ((s.frameItem s.osBytes 1).setWidth 16) 0x10018#32 ∧ s.cpl < rpl 0x1B#16 ∧
      s.topIn 0 (4 * s.osBytes + 0) = true ∧
      s.canPeek (2 * s.osBytes + 0) s.osBytes ∧ s.canPeek (3 * s.osBytes + 0) s.osBytes ∧
      s.stackAt (BitVec.ofNat 16 (s.stackItem (3 * s.osBytes + 0) s.osBytes)) (rpl 0x1B#16) 0x10020#32 ∧
      s.inSeg 0x10018#32 (s.frameItem s.osBytes 0)) ∧
    (shortStack.isProt = false ∧ shortStack.topIn 0 (2 * shortStack.osBytes) = false) ∧
    (let s := framed [0x1234,
        0x1B] { prot0 with seg := { prot0.seg with ss := { prot0.seg.ss with limit := 0x900E#32 } } }
     s.isProt = true ∧ s.canPeek s.osBytes s.osBytes ∧ s.mayReturn ((s.frameItem s.osBytes 1).setWidth 16) 0x10018#32 ∧
      s.cpl < rpl ((s.frameItem s.osBytes 1).setWidth 16) ∧ s.topIn 0 (4 * s.osBytes + 0) = false) ∧
    -- The selector one byte beyond the limit; the offset wrapping, where the selector can be read.
    (let s := { prot0 with seg := { prot0.seg with ss := { prot0.seg.ss with limit := 0x9006#32 } } }
     s.isProt = true ∧ s.itemOut s.osBytes s.osBytes) ∧
    (let s := withSp 0xFFFFFFFD#32 (load 1 [8, 0, 0, 0] prot0)
     s.isProt = true ∧ s.canPeek s.osBytes s.osBytes ∧
      s.mayReturn ((s.frameItem s.osBytes 1).setWidth 16) 0x10008#32 ∧
      rpl ((s.frameItem s.osBytes 1).setWidth 16) = s.cpl ∧ s.itemOut 0 s.osBytes) := by
  refine ⟨?_, ?_, ?_, ?_, ?_, ?_, by decide +kernel, ?_, ?_, ?_⟩
  all_goals
    simp only [State.canPeekAll, State.canPeek, State.inCs, State.mayReturn, State.codeAt, State.inSeg, State.stackAt,
      State.reads, State.itemOut]
    decide +kernel

theorem witness_IretResult :
    (let s := withSp 0xFFFA#32 (load 0xFFFA [0xFF, 0xFF, 0x34, 0x12, 2, 0] real)
     s.isReal = true ∧ s.canPeekAll 2 3 ∧ s.inCs (s.frameItem 2 0)) ∧
    (let s := load 0x1000 [0, 0, 1, 0, 0, 0, 0, 0, 2, 0, 0, 0] real
     s.isReal = true ∧ s.canPeekAll 4 3 ∧ ¬ s.inCs (s.frameItem 4 0)) ∧
    (virt.isV86 = true ∧ { virt.flags with iopl := 2#2 }.iopl ≠ 3#2 ∧ virt.flags.iopl = 3#2 ∧ virt.canPeekAll 2 3 ∧
      virt.inCs (virt.frameItem 2 0)) ∧
    (let s := load 0x1000 [0, 0, 1, 0] virt
     s.isV86 = true ∧ s.flags.iopl = 3#2 ∧ s.canPeekAll 4 3 ∧ ¬ s.inCs (s.frameItem 4 0)) ∧
    (let s := framed [0x1FFF, 8, 2] narrow
     s.isProt = true ∧ s.flags.nt = false ∧ s.canPeekAll 4 3 ∧ (s.frameItem 4 2).getLsbD 17 = false ∧
      s.mayReturn ((s.frameItem 4 1).setWidth 16) 0x10008#32 ∧ rpl ((s.frameItem 4 1).setWidth 16) = s.cpl ∧
      s.inSeg 0x10008#32 (s.frameItem 4 0)) ∧
    (let s := withSp 0x9000#32 (framed [0x1234, 0x1B, 0x20002] prot3)
     s.isProt = true ∧ s.flags.nt = false ∧ s.canPeekAll 4 3 ∧ s.cpl ≠ 0#2 ∧
      s.mayReturn ((s.frameItem 4 1).setWidth 16) 0x10018#32 ∧ rpl ((s.frameItem 4 1).setWidth 16) = s.cpl ∧
      s.inSeg 0x10018#32 (s.frameItem 4 0)) ∧
    (let s := framed [0x1234, 0x1B, 2, 0x7000, 0x23] prot0
     s.isProt = true ∧ s.flags.nt = false ∧ s.canPeekAll 4 3 ∧ (s.frameItem 4 2).getLsbD 17 = false ∧
      s.topIn 12 8 = true ∧ s.canPeek 12 4 ∧ s.canPeek 16 4 ∧ s.mayReturn ((s.frameItem 4 1).setWidth 16) 0x10018#32 ∧ s.cpl < rpl ((s.frameItem 4 1).setWidth 16) ∧
      s.stackAt ((s.frameItem 4 4).setWidth 16) 3#2 0x10020#32 ∧ s.inSeg 0x10018#32 (s.frameItem 4 0)) ∧
    (let s := framed [0xFFFF, 0x1000, 0x20002, 0xFFFE, 0x2000, 1, 2, 3, 4] prot0
     s.isProt = true ∧ s.cpl = 0#2 ∧ s.flags.nt = false ∧ (s.frameItem 4 2).getLsbD 17 = true ∧ s.canPeekAll 4 3 ∧
      s.topIn 12 24 = true ∧ (∀ j < 9, s.canPeek (j * 4) 4) ∧ (s.frameItem 4 0).toNat ≤ 0xFFFF) ∧
    (shortStack.isReal = true ∧ shortStack.topIn 0 6 = false) ∧
    (let s := framed [0x1234, 0x1B,
        2] { prot0 with seg := { prot0.seg with ss := { prot0.seg.ss with limit := 0x9012#32 } } }
     s.isProt = true ∧ s.flags.nt = false ∧ s.canPeekAll 4 3 ∧ (s.frameItem 4 2).getLsbD 17 = false ∧
      s.mayReturn ((s.frameItem 4 1).setWidth 16) 0x10018#32 ∧ s.cpl < rpl ((s.frameItem 4 1).setWidth 16) ∧
      s.topIn 12 8 = false) ∧
    (let s := framed [0, 0,
        0x20002] { prot0 with seg := { prot0.seg with ss := { prot0.seg.ss with limit := 0x9022#32 } } }
     s.isProt = true ∧ s.cpl = 0#2 ∧ s.flags.nt = false ∧ s.canPeekAll 4 3 ∧ (s.frameItem 4 2).getLsbD 17 = true ∧
      s.topIn 12 24 = false) := by
  refine ⟨?_, ?_, ?_, ?_, ?_, ?_, ?_, ?_, by decide +kernel, ?_, ?_⟩
  all_goals
    simp only [State.canPeekAll, State.canPeek, State.inCs, State.mayReturn, State.codeAt, State.inSeg, State.stackAt,
      State.reads]
    decide +kernel

/-- A frame that RET and IRET may read: offset, code selector, flags, stack pointer, stack selector. -/
def canReturn (s : State) : Prop :=
  s.isProt = true ∧ s.osBytes = 4 ∧ s.flags.nt = false ∧ s.canPeek 4 4 ∧ s.canPeekAll 4 3 ∧
  (s.frameItem 4 2).getLsbD 17 = false

/-- The selector in a frame, the `j`-th item. -/
def frameSel (s : State) (j : Nat) : Word := (s.frameItem 4 j).setWidth 16

-- The code selector of a return: null, outside, no code, RPL below CPL, another DPL, not present.
theorem witness_ReturnFaults :
    canReturn (framed [0x1234, 3, 2] prot0) ∧ canReturn (framed [0x1234, 0x68, 2] prot0) ∧
    canReturn (framed [0x1234, 0x10, 2] prot0) ∧ canReturn (framed [0x1234, 0xB, 2] prot0) ∧
    canReturn (framed [0x1234, 8, 2] (access 8 0x1A prot0)) ∧
    canReturn (withSp 0x9000#32 (framed [0x1234, 8, 2] prot3)) ∧
    (selNull (frameSel (framed [0x1234, 3, 2] prot0) 1) = true ∧
      selNull (frameSel (framed [0x1234, 0x68, 2] prot0) 1) = false ∧
      prot0.descAddr (frameSel (framed [0x1234, 0x68, 2] prot0) 1) = none) ∧
    (prot0.descAddr 0x10#16 = some 0x10010#32 ∧ ¬ codeSegment (prot0.descAt 0x10010#32)) ∧
    (prot0.descAddr 0xB#16 = some 0x10008#32 ∧ descDpl (prot0.descAt 0x10008#32) ≠ rpl 0xB#16 ∧
      (prot0.descAt 0x10008#32).getLsbD 42 = false ∧ ¬ prot3.cpl ≤ rpl 8#16) ∧
    (let d := (access 8 0x1A prot0).descAt 0x10008#32
     codeSegment d ∧ prot0.cpl ≤ rpl 8#16 ∧ descDpl d = rpl 8#16 ∧ d.getLsbD 47 = false) := by
  simp only [canReturn, codeSegment, State.canPeek, State.canPeekAll, State.reads]
  refine ⟨?_, ?_, ?_, ?_, ?_, ?_, ?_, ?_, ?_⟩ <;> decide +kernel

/-- A frame whose code selector names an outer level that RET and IRET may return to. -/
def canReturnOut (s : State) : Prop :=
  canReturn s ∧ s.canPeek 8 4 ∧ s.canPeek 12 4 ∧ s.canPeek 16 4 ∧ s.topIn 0 16 = true ∧ s.topIn 12 8 = true ∧
  s.mayReturn 0x1B#16 0x10018#32 ∧ frameSel s 1 = 0x1B#16 ∧ s.cpl < 3#2

-- The stack selector, as far RET (with the flags' place holding ESP) and as IRET finds it: null, outside, of a wrong
-- segment, of one not present; and the first offset beyond the limit.
theorem witness_OuterFaults :
    canReturnOut (framed [0x1234, 0x1B, 2, 3, 3] prot0) ∧ canReturnOut (framed [0x1234, 0x1B, 2, 0x6B, 0x6B] prot0) ∧
    canReturnOut (framed [0x1234, 0x1B, 2, 0x13, 0x13] prot0) ∧
    (selNull (frameSel (framed [0x1234, 0x1B, 2, 3, 3] prot0) 3) = true ∧
      selNull (frameSel (framed [0x1234, 0x1B, 2, 3, 3] prot0) 4) = true) ∧
    (selNull 0x6B#16 = false ∧ prot0.descAddr 0x6B#16 = none ∧ prot0.descAddr 0x13#16 = some 0x10010#32 ∧
      wrongStack 0x13#16 3#2 (prot0.descAt 0x10010#32)) ∧
    (let s := framed [0x1234, 0x1B, 2, 0x23, 0x23] (access 0x20 0x72 prot0)
     canReturnOut s ∧ s.descAddr 0x23#16 = some 0x10020#32 ∧ ¬ wrongStack 0x23#16 3#2 (s.descAt 0x10020#32) ∧
      (s.descAt 0x10020#32).getLsbD 47 = false) ∧
    (let s := framed [0x2000, 0x1B, 2, 0x23, 0x23] (load 0x10018 [0xFF, 0x1F, 0, 0, 0, 0xFA, 0x40, 0] prot0)
     canReturnOut s ∧ frameSel s 3 = 0x23#16 ∧ frameSel s 4 = 0x23#16 ∧ s.stackAt 0x23#16 3#2 0x10020#32 ∧
      ¬ s.inSeg 0x10018#32 (s.frameItem 4 0)) ∧
    (let s := framed [0x2000, 8, 2] narrow
     canReturn s ∧ s.mayReturn (frameSel s 1) 0x10008#32 ∧ ¬ s.inSeg 0x10008#32 (s.frameItem 4 0)) ∧
    (let s := framed [0x10000, 0x1000, 0x20002, 0xFFFE, 0x2000, 1, 2, 3, 4] prot0
     s.topIn 12 24 = true ∧ (∀ j < 9, s.canPeek (j * 4) 4) ∧ 0xFFFF < (s.frameItem 4 0).toNat) := by
  simp only [canReturnOut, canReturn, wrongStack, mayWrite, State.canPeek, State.canPeekAll, State.reads, State.mayReturn,
    State.codeAt, State.stackAt, State.inSeg]
  refine ⟨?_, ?_, ?_, ?_, ?_, ?_, ?_, ?_, ?_⟩ <;> decide +kernel

/-- The last entry of a table: an interrupt gate to 8:1234H that every level may call. -/
def gated (s : State) : State := gate 0xFF 0xEE 8 0x1234 s

-- The last vector of the table in every mode; a table one byte short.
theorem witness_SoftwareInterruptResult :
    ((withSp 6#32 real).canDeliverReal 0xFF#8 ∧ real.isReal = true ∧
      { real with idtr := { base := 0#32, limit := 0x3FE#16 } }.idtr.limit.toNat < 4 * (0xFF#8).toNat + 3) ∧
    ((gated prot0).sameLevel 0xFF#8 0x10008#32 none ∧ (gated prot0).cpl ≤ descDpl ((gated prot0).gate 0xFF#8)) ∧
    ((gated prot3).isProt = true ∧ (gated prot3).innerLevel 0xFF#8 0x10008#32 ∧
      (gated prot3).cpl ≤ descDpl ((gated prot3).gate 0xFF#8) ∧
      (gated prot3).innerRoom (descDpl ((gated prot3).descAt 0x10008#32)) 0x10#16 0x9000#32 0x10010#32
        (gateBytes ((gated prot3).gate 0xFF#8)) 5) ∧
    ((gated virt).isV86 = true ∧ (gated virt).flags.iopl = 3#2 ∧ (gated virt).innerLevel 0xFF#8 0x10008#32 ∧
      (gated virt).cpl ≤ descDpl ((gated virt).gate 0xFF#8) ∧ descDpl ((gated virt).descAt 0x10008#32) = 0#2 ∧
      (gated virt).innerRoom 0#2 0x10#16 0x9000#32 0x10010#32 (gateBytes ((gated virt).gate 0xFF#8)) 9) ∧
    (let s := { virt with flags := { virt.flags with iopl := 2#2 } }
     s.isV86 = true ∧ s.flags.iopl ≠ 3#2) ∧
    { real.flags with ofl := true }.ofl = true ∧ real.flags.ofl = false ∧ real.isV86 = false := by
  refine ⟨?_, ?_, ?_, ?_, ?_, ?_⟩
  all_goals
    simp only [State.canDeliverReal, State.sameLevel, State.innerLevel, State.innerRoom, State.innerStack,
      State.gateOpens, State.codeAt, State.inSeg, State.stackAt]
    decide +kernel

/-- The exception a delivery ends in, if it does. -/
def deliveryFault (x : Except Stop (Unit × State)) : Option (Byte × Option Word) :=
  match x with
  | .error (.exc v e) => some (v, e)
  | _ => none

/-- A delivery completes. -/
def delivers (x : Except Stop (Unit × State)) : Bool :=
  match x with
  | .ok _ => true
  | _ => false

theorem eq_of_deliveryFault {x : Except Stop (Unit × State)} {v : Byte} {e : Option Word}
    (h : deliveryFault x = some (v, e)) : x = .error (.exc v e) := by
  unfold deliveryFault at h
  split at h
  · cases h; rfl
  · cases h

theorem exists_of_delivers {x : Except Stop (Unit × State)} (h : delivers x = true) : ∃ t, x = .ok ((), t) := by
  unfold delivers at h
  split at h
  · exact ⟨_, rfl⟩
  · cases h

-- In every mode; and #GP through a gate that is not present, with and without a gate for #DF.
theorem witness_ExceptionDelivery :
    ((withSp 6#32 real).faulted.canDeliverReal 0xFF#8 ∧
      (gated prot0).faulted.sameLevel 0xFF#8 0x10008#32 (some 0#16) ∧
      ((gated prot3).isProt = true ∧ (gated prot3).faulted.innerLevel 0xFF#8 0x10008#32 ∧
        (gated prot3).faulted.innerRoom (descDpl ((gated prot3).descAt 0x10008#32)) 0x10#16 0x9000#32 0x10010#32
          (gateBytes ((gated prot3).gate 0xFF#8)) 6) ∧
      ((gated virt).isV86 = true ∧ (gated virt).faulted.innerLevel 0xFF#8 0x10008#32 ∧
        descDpl ((gated virt).descAt 0x10008#32) = 0#2 ∧
        (gated virt).faulted.innerRoom 0#2 0x10#16 0x9000#32 0x10010#32 (gateBytes ((gated virt).gate 0xFF#8)) 9)) ∧
    (13#8 ∈ contributoryVectors ∧ 11#8 ∈ contributoryVectors ∧ 6#8 ∉ contributoryVectors) ∧
    (let s := gate 13 0x0E 8 0x1234 (gate 8 0x8E 8 0x1234 prot0)
     deliverOnce 13#8 .exception (some 0#16) s.eip s.faulted = .error (.exc 11#8 (some 0x6B#16)) ∧
      ∃ t, deliverOnce 8#8 .exception (some 0#16) s.eip s.faulted = .ok ((), t)) ∧
    (let s := gate 13 0x0E 8 0x1234 prot0
     deliverOnce 13#8 .exception (some 0#16) s.eip s.faulted = .error (.exc 11#8 (some 0x6B#16)) ∧
      deliverOnce 8#8 .exception (some 0#16) s.eip s.faulted = .error (.exc 13#8 (some 0x43#16))) ∧
    (let s := gate 13 0x8E 8 0x1234 prot0
     deliverOnce 6#8 .exception none s.eip s.faulted = .error (.exc 13#8 (some 0x33#16)) ∧
      ∃ t, deliverOnce 13#8 .exception (some 0x33#16) s.eip s.faulted = .ok ((), t)) ∧
    (let s := { real with idtr := { base := 0#32, limit := 2#16 } }
     s.isReal = true ∧ s.idtr.limit.toNat < 3) := by
  refine ⟨⟨?_, ?_, ?_, ?_⟩, by decide +kernel,
    ⟨eq_of_deliveryFault (by decide +kernel), exists_of_delivers (by decide +kernel)⟩,
    ⟨eq_of_deliveryFault (by decide +kernel), eq_of_deliveryFault (by decide +kernel)⟩,
    ⟨eq_of_deliveryFault (by decide +kernel), exists_of_delivers (by decide +kernel)⟩, by decide +kernel⟩
  all_goals
    simp only [State.canDeliverReal, State.sameLevel, State.innerLevel, State.innerRoom, State.innerStack,
      State.gateOpens, State.codeAt, State.inSeg, State.stackAt]
    decide +kernel

theorem witness_BoundaryEvents :
    ({ real.host with reset := true }.reset = true ∧ real.host.reset = false ∧ { real.host with init := true }.init = true ∧
      real.host.init = false ∧ real.shutdown = false ∧ real.trapOwed = false ∧ real.host.nmi = false) ∧
    ({ real with shutdown := true }.shutdown = true ∧ { real with trapOwed := true }.trapOwed = true ∧
      (withSp 6#32 real).canDeliverReal 1#8 ∧ (withSp 6#32 real).canDeliverReal 2#8) ∧
    ({ real.host with nmi := true }.nmi = true ∧ real.inhibit ≠ .ss) ∧
    ({ real.host with intr := some 0xFF#8 }.intr = some 0xFF#8 ∧ { real.flags with ifl := true }.ifl = true ∧
      real.inhibit = .none ∧ (withSp 6#32 real).canDeliverReal 0xFF#8) ∧
    ({ real with halted := true }.halted = true ∧ real.host.intr = none ∧ real.flags.ifl = false) := by
  simp only [State.canDeliverReal]; decide +kernel

/-- The frame pointer set. -/
def withBp (v : DWord) (s : State) : State := { s with gpr := { s.gpr with ebp := v } }

-- A frame without and with a display, and one whose locals do not fit.
theorem witness_BoundEnterLeave :
    (readFault real (real.eaLoc (.abs16 0xFFFC#16)) (2 * bytesOf 16) (bytesOf 16) = none ∧
      readFault real (real.eaLoc (.abs16 0xFFF8#16)) (2 * bytesOf 32) (bytesOf 32) = none) ∧
    (writeFault (withSp 2#32 real) ((withSp 2#32 real).pushLoc 2) 2 1 = none ∧
      ((withSp 2#32 real).pushed 2 0).canLevel 2 0) ∧
    (let s := withBp 0x2000#32 real
     writeFault s (s.pushLoc 2) 2 1 = none ∧ (s.pushed 2 s.gpr.ebp.toNat).canLevel 2 3 ∧
      (let u := (((s.pushed 2 s.gpr.ebp.toNat).leveled 2 3).withFrame (s.pushed 2 s.gpr.ebp.toNat).stackTop).moved
        (0#32 - 8#32)
       u.seg.ss.inLimit u.stackTop u.sas32 1 = true)) ∧
    (let s := { prot0 with seg := { prot0.seg with ss := { prot0.seg.ss with limit := 0x8FFF#32 } } }
     writeFault s (s.pushLoc 4) 4 1 = none ∧ (s.pushed 4 s.gpr.ebp.toNat).canLevel 4 0 ∧
      (let u := (((s.pushed 4 s.gpr.ebp.toNat).leveled 4 0).withFrame (s.pushed 4 s.gpr.ebp.toNat).stackTop).moved
        (0#32 - 0xFFFF#32)
       u.seg.ss.inLimit u.stackTop u.sas32 1 = false)) ∧
    (let t := (withBp 0xFFFE#32 real).setStackTop 0xFFFE#32
     State.reads t (t.stackLoc 0#32) real.osBytes real.osBytes) := by
  refine ⟨by decide +kernel, ⟨by decide +kernel, .inl rfl⟩,
    ⟨by decide +kernel, .inr ?_, by decide +kernel⟩, ⟨by decide +kernel, .inl rfl, by decide +kernel⟩,
    by simp only [State.reads]; decide +kernel⟩
  show State.canDisplay _ 2 2 ∧ _
  simp only [State.canDisplay, State.reads]; decide +kernel

theorem witness_PrivilegeAndOpcodeFaults :
    (prot3.privileged = false ∧ virt.privileged = false ∧ prot3.isProt = true ∧ prot3.cpl ≠ 0#2 ∧ real.isProt = false ∧
      virt.isProt = false) ∧
    ((withSp 6#32 real).faulted.canDeliverReal 6#8 ∧
      (gate 6 0x8E 8 0x1234 prot0).faulted.sameLevel 6#8 0x10008#32 none) := by
  simp only [State.canDeliverReal, State.sameLevel, State.gateOpens, State.codeAt, State.inSeg]
  decide +kernel

/-- A repeat prefix, a count, and both index registers at an element of `w` bits. -/
def stringState (p : Rep) (c : DWord) (at_ : DWord) : State :=
  { real with pfx := { noPrefixes with rep := p }, gpr := { real.gpr with ecx := c, esi := at_, edi := at_ } }

-- The last element of the segment; unprefixed, the last iteration and one that another follows.
theorem witness_StringResult :
    ((stringState .none 0#32 0xFFFC#32).canReadAt (stringState .none 0#32 0xFFFC#32).siLoc 32 ∧
      (stringState .none 0#32 0xFFFC#32).canReadAt (stringState .none 0#32 0xFFFC#32).diLoc 32 ∧
      (stringState .none 0#32 0xFFFC#32).canWriteAt (stringState .none 0#32 0xFFFC#32).diLoc 32 ∧
      (stringState .none 0#32 0xFFFC#32).pfx.rep = .none) ∧
    ((stringState .rep 1#32 0xFFFF#32).canReadAt (stringState .rep 1#32 0xFFFF#32).siLoc 8 ∧
      (stringState .rep 1#32 0xFFFF#32).canWriteAt (stringState .rep 1#32 0xFFFF#32).diLoc 8 ∧
      (stringState .rep 1#32 0xFFFF#32).pfx.rep ≠ .none ∧ (stringState .rep 1#32 0xFFFF#32).repCount ≠ 0 ∧
      (stringState .rep 1#32 0xFFFF#32).counted.repEnds false) ∧
    ((stringState .rep 2#32 0#32).repCount ≠ 0 ∧ ¬ (stringState .rep 2#32 0#32).counted.repEnds false ∧
      (stringState .rep 2#32 0#32).counted.repEnds true) ∧
    ((stringState .repne 0xFFFF#32 0xFFFE#32).canReadAt (stringState .repne 0xFFFF#32 0xFFFE#32).diLoc 16 ∧
      ¬ (stringState .repne 0xFFFF#32 0xFFFE#32).counted.repEnds true) ∧
    (stringState .rep 0#32 0#32).pfx.rep ≠ .none ∧ (stringState .rep 0#32 0#32).repCount = 0 := by
  simp only [State.canReadAt, State.canWriteAt, State.repEnds, State.reads]; decide +kernel

/-- The I/O map of the TSS directly after it, with the bit of port 7 set. -/
def mapped (limit : DWord) : State :=
  load 0x8066 [0x68, 0, 0x80, 0] { prot3 with tr := { prot3.tr with limit := limit } }

-- By mode, by level, and by the map: the last port within the limit, a set bit, and a map outside the limit.
theorem witness_PortResult :
    (real.ioAllowed 0xFFFF#16 4 ∧ prot0.ioAllowed 0#16 1 ∧ (mapped 0x69#32).ioAllowed 6#16 1 ∧
      ¬ (mapped 0x69#32).ioAllowed 7#16 1 ∧ ¬ (mapped 0x69#32).ioAllowed 6#16 2 ∧ ¬ (mapped 0x68#32).ioAllowed 6#16 1) ∧
    (real.ioQuiet 0xFFFF#16 ∧ prot0.ioQuiet 0#16 ∧ (mapped 0x69#32).ioQuiet 6#16) ∧
    (let s := { mapped 0x69#32 with gpr := { real.gpr with edx := 7#32 } }
     ¬ s.ioAllowed (dxPort s) 1 ∧ s.pfx.rep = .none) ∧
    (let s := { mapped 0x69#32 with gpr := { real.gpr with edx := 7#32, ecx := 1#32 }, pfx := { noPrefixes with rep := .rep } }
     ¬ s.ioAllowed (dxPort s) 1 ∧ s.repCount ≠ 0) ∧
    (real.canWriteAt { seg := .es, off := 0xFFFE#32, wide := false } 16 ∧
      real.canReadAt { seg := .ds, off := 0xFFFE#32, wide := false } 16) ∧
    ({ real with gpr := { real.gpr with edi := 0xFFFC#32, esi := 0xFFFC#32 } }.canWriteAt
        { real with gpr := { real.gpr with edi := 0xFFFC#32 } }.diLoc 32 ∧
      { real with gpr := { real.gpr with esi := 0xFFFC#32 } }.canReadAt
        { real with gpr := { real.gpr with esi := 0xFFFC#32 } }.siLoc 32) := by
  simp only [State.ioAllowed, State.ioQuiet, State.canReadAt, State.canWriteAt, State.reads]
  refine ⟨?_, ?_, ?_, ?_, ?_, ?_⟩ <;> decide +kernel

theorem witness_FlagResult :
    (real.mayChangeIf ∧ prot0.mayChangeIf ∧ virt.mayChangeIf ∧ ¬ prot3.mayChangeIf ∧
      ¬ { virt with flags := { virt.flags with iopl := 2#2 } }.mayChangeIf) ∧
    (virt.flags.vm = true ∧ { virt.flags with iopl := 2#2 }.iopl ≠ 3#2 ∧ virt.flags.iopl = 3#2 ∧ real.flags.vm = false) ∧
    (State.reads (withSp 0xFFFE#32 real) ((withSp 0xFFFE#32 real).stackLoc 0#32) (bytesOf 16) (bytesOf 16) ∧
      State.reads (withSp 0xFFFC#32 real) ((withSp 0xFFFC#32 real).stackLoc 0#32) (bytesOf 32) (bytesOf 32)) ∧
    writeFault (withSp 2#32 real) ((withSp 2#32 real).pushLoc 2) 2 2 = none ∧
    writeFault (withSp 4#32 real) ((withSp 4#32 real).pushLoc 4) 4 4 = none := by
  simp only [State.mayChangeIf, State.reads]; decide +kernel

theorem witness_MiscellaneousResult : real.gpr.eax = 0#32 ∧ { real.gpr with eax := 1#32 }.eax = 1#32 ∧
    { real.gpr with eax := 2#32 }.eax = 2#32 := by decide +kernel

/-- A selector in AX and the descriptor tables of `prot0`, the LDT included. -/
def selecting (sel : DWord) (s : State) : State := { s with gpr := { s.gpr with eax := sel } }

theorem witness_TableRegisterResult :
    (prot0.privileged = true ∧ readFault real (real.eaLoc (.abs16 0xFFFA#16)) 6 1 = none ∧
      writeFault real (real.eaLoc (.abs16 0xFFFA#16)) 6 1 = none ∧ real.alignChecked = false) ∧
    (prot0.isProt = true ∧ prot0.cpl = 0#2 ∧ prot0.canReadSel (.mem (.abs32 0xFFFFFFFE#32)) ∧
      prot0.canWrite 16 (.mem (.abs32 0xFFFFFFFE#32))) ∧
    selNull ((selecting 3#32 prot0).rmVal 16 (.reg 0#3)) = true ∧
    (let s := selecting 0x40#32 prot0
     let sel := s.rmVal 16 (.reg 0#3)
     selNull sel = false ∧ selTi sel = false ∧ s.descAddr sel = some 0x10040#32 ∧ s.quiet 0x10040#32 8 = true ∧
      (s.descAt 0x10040#32).getLsbD 44 = false ∧ (s.descAt 0x10040#32).getLsbD 47 = true ∧
      descType (s.descAt 0x10040#32) = 2#4) ∧
    (let s := selecting 0x28#32 prot0
     let sel := s.rmVal 16 (.reg 0#3)
     selNull sel = false ∧ selTi sel = false ∧ s.descAddr sel = some 0x10028#32 ∧ s.quiet 0x10028#32 8 = true ∧
      (s.descAt 0x10028#32).getLsbD 44 = false ∧ (s.descAt 0x10028#32).getLsbD 47 = true ∧
      descType (s.descAt 0x10028#32) = 9#4) ∧
    (let sel := (selecting 4#32 prot0).rmVal 16 (.reg 0#3)
     selTi sel = true ∧ selNull sel = false) ∧
    -- The first selector outside the GDT; another type, for LTR a busy TSS too; and not present.
    (prot0.descAddr 0x68#16 = none ∧ selTi 0x68#16 = false ∧ selNull 0x68#16 = false) ∧
    (¬ systemOf [2#4] (prot0.descAt 0x10010#32) ∧ ¬ systemOf [2#4] (prot0.descAt 0x10028#32)) ∧
    ¬ systemOf [1#4, 9#4] ((access 0x28 0x8B prot0).descAt 0x10028#32) ∧
    (systemOf [2#4] ((access 0x40 2 prot0).descAt 0x10040#32) ∧
      ((access 0x40 2 prot0).descAt 0x10040#32).getLsbD 47 = false) ∧
    (systemOf [1#4, 9#4] ((access 0x28 9 prot0).descAt 0x10028#32) ∧
      ((access 0x28 9 prot0).descAt 0x10028#32).getLsbD 47 = false) := by
  simp only [State.canReadSel, State.canWrite, State.reads, State.updates, systemOf]; decide +kernel

/-- LTR of a selector one past the GDT: #GP with it (49_system_1.md R760). -/
theorem test_ltr_outside : runs [0x0F, 0x00, 0xD8] (gate 13 0x8E 8 0x1234 (selecting 0x6B#32 prot0))
    (fun t => t.eip == 0x1234#32 && mem4 t 0x8FF0 == 0x68) = true := by decide +kernel

theorem quietDesc_of {s : State} {sel : Word} {a : DWord} (h : s.descAddr sel = some a ∧ s.quiet a 8 = true) :
    s.quietDesc sel := fun _ ha => Option.some.inj (h.1.symm.trans ha) ▸ h.2

-- A visible segment and a visible system descriptor, one that is not of a kind in the list, and a null selector.
theorem witness_DescriptorQueryResult :
    (prot3.isProt = true ∧ prot3.canRead 16 (.mem (.abs32 0xFFFFFFFE#32)) ∧ prot3.canRead 32 (.mem (.abs32 0xFFFFFFFC#32)) ∧
      prot3.canWrite 16 (.mem (.abs32 0xFFFFFFFE#32))) ∧
    (prot3.visible 0x5B#16 (prot3.descAt 0x10058#32) ∧
      segmentOr [1#4, 2#4, 3#4, 9#4, 0xB#4] (prot3.descAt 0x10058#32) ∧ mayRead (prot3.descAt 0x10058#32) ∧
      ¬ mayWrite (prot3.descAt 0x10058#32)) ∧
    (prot3.visible 0x23#16 (prot3.descAt 0x10020#32) ∧ mayWrite (prot3.descAt 0x10020#32)) ∧
    (prot3.visible 0x63#16 (prot3.descAt 0x10060#32) ∧ ¬ mayRead (prot3.descAt 0x10060#32)) ∧
    (prot3.visible 0x38#16 (prot3.descAt 0x10038#32) ∧ mayRead (prot3.descAt 0x10038#32)) ∧
    (prot3.visible 0x33#16 (prot3.descAt 0x10030#32) ∧
      segmentOr [1#4, 2#4, 3#4, 4#4, 5#4, 9#4, 0xB#4, 0xC#4] (prot3.descAt 0x10030#32) ∧
      ¬ segmentOr [1#4, 2#4, 3#4, 9#4, 0xB#4] (prot3.descAt 0x10030#32)) ∧
    (prot3.quietDesc 0x5B#16 ∧ prot3.quietDesc 3#16) ∧ (∀ d, ¬ prot3.visible 3#16 d) := by
  refine ⟨?_, ⟨⟨by decide +kernel, ⟨0x10058#32, by decide +kernel, rfl⟩, by decide +kernel⟩, ?_⟩,
    ⟨⟨by decide +kernel, ⟨0x10020#32, by decide +kernel, rfl⟩, by decide +kernel⟩, ?_⟩,
    ⟨⟨by decide +kernel, ⟨0x10060#32, by decide +kernel, rfl⟩, by decide +kernel⟩, ?_⟩,
    ⟨⟨by decide +kernel, ⟨0x10038#32, by decide +kernel, rfl⟩, by decide +kernel⟩, ?_⟩,
    ⟨⟨by decide +kernel, ⟨0x10030#32, by decide +kernel, rfl⟩, by decide +kernel⟩, ?_⟩,
    ⟨quietDesc_of (a := 0x10058#32) (by decide +kernel), quietDesc_of (a := 0x10000#32) (by decide +kernel)⟩,
    fun d h => absurd h.1 (by decide +kernel)⟩
  all_goals simp only [State.canRead, State.canWrite, segmentOr, mayRead, mayWrite, State.reads,
        State.updates]; decide +kernel

/-- CR0 and CR4 for the loads that pass and those that do not; the register EBX holds the value. -/
def loading (v : DWord) : State := { prot0 with gpr := { prot0.gpr with ebx := v } }

theorem witness_ControlAndDebugRegisters :
    (prot0.privileged = true ∧ (0x1FC#32 &&& 0xFFFFFE03#32 = 0#32) ∧ (0x200#32 &&& 0xFFFFFE00#32 ≠ 0#32) ∧
      (1#32 &&& 0xFFFFFE00#32 = 0#32 ∧ 1#32 &&& 3#32 ≠ 0#32)) ∧
    ((let v := (loading 0x80000000#32).gpr.get 3#3
      v.getLsbD 31 = true ∧ v.getLsbD 0 = false) ∧
     (let v := (loading 0x20000001#32).gpr.get 3#3
      v.getLsbD 29 = true ∧ v.getLsbD 30 = false) ∧
     (let v := (loading 0x6005003F#32).gpr.get 3#3
      v.getLsbD 31 = false ∧ (v.getLsbD 29 = true → v.getLsbD 30 = true) ∧
        (v ^^^ (loading 0x6005003F#32).cr0) &&& 0x1FFAFFC0#32 = 0#32)) ∧
    (prot0.canReadSel (.mem (.abs32 0xFFFFFFFE#32)) ∧ prot0.canWrite 16 (.mem (.abs32 0xFFFFFFFE#32))) ∧
    (8#32).getLsbD 3 = true ∧ prot0.cr4.getLsbD 3 = false ∧ (0x2000#32).getLsbD 13 = true ∧
    prot0.dr.dr7.getLsbD 13 = false ∧ (7#3 ≠ 4#3 ∧ 7#3 ≠ 5#3) := by
  simp only [State.canReadSel, State.canWrite, State.reads, State.updates]; decide +kernel

theorem witness_CounterAndCacheResult :
    (let s := { real with halted := true }
     s.host.reset = false ∧ boundary s ≠ none ∧ ∃ t, step s = .next t) ∧
    (prot3.cr4.getLsbD 2 = false ∧ prot0.privileged = true ∧ { prot3 with cr4 := 4#32 }.cr4.getLsbD 2 = true ∧
      prot3.privileged = false) ∧
    ({ prot0.gpr with ecx := 0x10#32 }.ecx = 0x10#32 ∧ (Config.msrSet.all fun r => r.1 != { prot0.gpr with ecx := 0x11#32 }.ecx) = true) ∧
    ({ prot3 with cr4 := 0x100#32 }.cr4.getLsbD 8 = true ∧ prot0.gpr.ecx = 0#32 ∧
      { prot0.gpr with ecx := 1#32 }.ecx = 1#32 ∧ { prot0.gpr with ecx := 2#32 }.ecx ≠ 0#32 ∧
      { prot0.gpr with ecx := 2#32 }.ecx ≠ 1#32 ∧ prot3.cr4.getLsbD 8 = false) ∧
    (let s := real.store 0x500#32 2 0x1234
     s.mem.wf = true ∧ cellsRise 0 s.dirty = true ∧ ∀ c ∈ s.dirty, c.1 < 2 ^ 32) :=
  ⟨⟨rfl, nofun, _, rfl⟩, by decide +kernel⟩

/-- 1, 3 and 5 as register values. -/
def one : Ext := 0x3FFF8000000000000000#80
def three : Ext := 0x4000C000000000000000#80
def five : Ext := 0x4001A000000000000000#80

/-- An empty stack, two registers, and a full stack, with every exception masked. -/
def empty : State := withStack [] 0x37F#16 real
def two : State := withStack [one, three] 0x37F#16 real
def full : State := withStack [one, one, one, one, one, one, one, one] 0x37F#16 real

/-- The memory operand of `n` bytes that ends at the last byte of a 64K segment. -/
def lastEa (n : Nat) : Ea := .abs16 (BitVec.ofNat 16 (0x10000 - n))

-- Ready, and ready because IGNNE# lets a pending exception pass.
theorem fpu_ready : (empty.fpuRuns ∧ two.fpuRuns ∧ full.fpuRuns) ∧
    (let s := { withStack [one] 0x37E#16 real with host := { real.host with ignne := true } }
     { s with fpu := { s.fpu with st := { s.fpu.st with ie := true } } }.fpuRuns) := by
  simp only [State.fpuRuns]; decide +kernel

/-- Memory operands at the end of the segment. -/
theorem fpu_operands : (two.fpuReads (lastEa 2) 2 2 ∧ two.fpuReads (lastEa 4) 4 4 ∧ two.fpuReads (lastEa 8) 8 8 ∧
      two.fpuReads (lastEa 10) 10 8) ∧
    (writeFault two (two.eaLoc (lastEa 2)) 2 2 = none ∧ writeFault two (two.eaLoc (lastEa 4)) 4 4 = none ∧
      writeFault two (two.eaLoc (lastEa 8)) 8 8 = none ∧ writeFault two (two.eaLoc (lastEa 10)) 10 8 = none) := by
  simp only [State.fpuReads, State.fpuRuns, State.reads]; decide +kernel

-- Precision control that counts, that is reserved and counts, and that is reserved and does not count.
theorem witness_FpuArithmeticResult :
    two.fpuRuns ∧ (two.fpuReads (lastEa 4) 4 4 ∧ two.fpuReads (lastEa 8) 8 8 ∧ two.fpuReads (lastEa 2) 2 2) ∧
    PcOk [0#3, 1#3] (fun f => binAnswer opAdd f (regOperand (f.reg 0#3)) (regOperand (f.reg 1#3))) two.fpu ∧
    ¬ PcOk [0#3, 1#3] (fun f => binAnswer opAdd f (regOperand (f.reg 0#3)) (regOperand (f.reg 1#3)))
      (withStack [one, three] 0x17F#16 real).fpu ∧
    PcOk [0#3, 1#3] (fun f => binAnswer opAdd f (regOperand (f.reg 0#3)) (regOperand (f.reg 1#3)))
      (withStack [one] 0x17F#16 real).fpu ∧
    PcOk [0#3, 1#3] (fun f => binAnswer opMul f (regOperand (f.reg 0#3)) (regOperand (f.reg 1#3)))
      (withStack [0#80, three] 0x17F#16 real).fpu := by
  refine ⟨fpu_ready.1.2.1, ⟨fpu_operands.1.2.1, fpu_operands.1.2.2.1, fpu_operands.1.1⟩, ?_⟩
  simp only [PcOk]; decide +kernel

/-- The number of an operation that has one. -/
def numOf (x : RawResult) : Option Machine.Dyadic :=
  match x with
  | .num d => some d
  | _ => none

theorem eq_of_numOf {x : RawResult} {d : Machine.Dyadic} (h : numOf x = some d) : x = .num d := by
  unfold numOf at h
  split at h
  · cases h; rfl
  · cases h

-- 1 and 3, and the least denormal number; rounding at the two least precisions, a tie among them.
theorem witness_FpuOperationsAndRounding :
    (isFinite one = true ∧ isFinite three = true ∧ isFinite 1#80 = true) ∧
    (rawAdd 0x37F#16 one three = .num { sign := false, mant := 36893488147419103232, exp := -63 } ∧
      (-63 : Int) ≤ (valueOf one).exp ∧ (-63 : Int) ≤ (valueOf three).exp) ∧
    (rawAdd 0x37F#16 1#80 1#80 = .num { sign := false, mant := 2, exp := -16445 } ∧ (-16445 : Int) ≤ (valueOf 1#80).exp) ∧
    (rawSub 0x37F#16 one three = .num { sign := true, mant := 18446744073709551616, exp := -63 } ∧
      (-63 : Int) ≤ (valueOf one).exp) ∧
    rawMul one three = .num { sign := false, mant := 127605887595351923798765477786913079296, exp := -125 } ∧
    rawDiv one three = .num { sign := false, mant := 1814839290245005138471331239636097127765, exp := -132 } ∧
    (rawSqrt three = .num { sign := false, mant := 274454405730059595204971223777, exp := -97 } ∧ xSign three = false) ∧
    (let d : Machine.Dyadic := { sign := true, mant := 5, exp := 0 }
     d.mant ≠ 0 ∧ 2 ≤ 2 ∧ d.exp ≤ 0 ∧ 0 ≤ (d.roundTo 0#2 2).exp ∧ 2 * (4 : Nat) ≠ 2 * 5 ∧ (d.roundTo 0#2 2).inexact = true) ∧
    (let d : Machine.Dyadic := { sign := false, mant := 1, exp := -3 }
     d.mant ≠ 0 ∧ 2 ≤ 64 ∧ (-66 : Int) ≤ d.exp ∧ -66 ≤ (d.roundTo 1#2 64).exp) := by
  refine ⟨by decide +kernel, ⟨eq_of_numOf (by decide +kernel), by decide +kernel⟩,
    ⟨eq_of_numOf (by decide +kernel), by decide +kernel⟩, ⟨eq_of_numOf (by decide +kernel), by decide +kernel⟩,
    eq_of_numOf (by decide +kernel), eq_of_numOf (by decide +kernel),
    ⟨eq_of_numOf (by decide +kernel), by decide +kernel⟩, by decide +kernel⟩

-- A quotient of two numbers, the operands exchanged.
theorem witness_FpuArithmeticResult_result :
    (isNan one = false ∧ classOf one ≠ .unsupported ∧ isNan three = false ∧ classOf three ≠ .unsupported) ∧
    opDivR 0x37F#16 three one = .num { sign := false, mant := 1814839290245005138471331239636097127765, exp := -132 } ∧
    ((0x37F#16).extractLsb' 8 2 = 3#2 ∧ (0x27F#16).extractLsb' 8 2 = 2#2 ∧ (0x7F#16).extractLsb' 8 2 = 0#2) :=
  ⟨by decide +kernel, eq_of_numOf (by decide +kernel), by decide +kernel⟩

/-- An SNaN, QNaNs of two significands, the infinities, the least denormal, and an unnormal, which is not supported. -/
def signalling : Ext := 0x7FFF8000000000000001#80
def quietNan : Ext := 0x7FFFC000000000000001#80
def largerQuiet : Ext := 0x7FFFC000000000000002#80
def infinite (sign : Bool) : Ext := BitVec.ofBool sign ++ 0x7FFF8000000000000000#79
def leastDenormal : Ext := 1#80
def unnormal : Ext := 0x3FFF4000000000000000#80
/-- Minus zero, and the greatest and the least normal number. -/
def minusZero : Ext := 0x80000000000000000000#80
def greatest : Ext := 0x7FFEFFFFFFFFFFFFFFFF#80
def least : Ext := 0x00018000000000000000#80

-- Every class of operands, by precedence; two NaNs; infinities, zeros and numbers; results beyond both ends of the range.
theorem witness_FpuSpecialOperands :
    (classOf unnormal = .unsupported ∧ classOf signalling = .snan ∧ classOf quietNan = .qnan ∧
      (¬ ∃ x ∈ [regOperand one, regOperand leastDenormal],
        classOf x.val = .unsupported ∨ classOf x.val = .snan ∨ classOf x.val = .qnan) ∧
      [regOperand one, regOperand leastDenormal].any (·.den) = true) ∧
    (∀ d ∈ [{ sign := false, mant := 1, exp := 0 }, { sign := false, mant := 1, exp := 16384 },
        { sign := true, mant := 3, exp := -16390 }, { sign := false, mant := 1, exp := -50000 }],
      (d : Machine.Dyadic).mant ≠ 0) ∧
    (isNan quietNan = true ∧ classOf largerQuiet = classOf quietNan ∧ xSig quietNan < xSig largerQuiet ∧
      isNan one = false) ∧
    (isInf (infinite true) = true ∧ isInf (infinite false) = true ∧ isFinite one = true ∧ isZero one = false ∧
      isZero minusZero = true ∧ isZero 0#80 = true ∧ isFinite minusZero = true) ∧
    (isFinite (one ||| minusZero) = true ∧ isZero (one ||| minusZero) = false ∧ xSign (one ||| minusZero) = true) := by
  decide +kernel

theorem witness_FpuLoadResult : (empty.fpuRuns ∧ full.fpuRuns) ∧ two.fpuReads (lastEa 2) 2 2 ∧
    (two.fpuReads (lastEa 4) 4 4 ∧ two.fpuReads (lastEa 8) 8 8 ∧ two.fpuReads (lastEa 10) 10 8) ∧
    (0x7F800000 / 2 ^ 23 % 2 ^ 8 = 2 ^ 8 - 1 ∧ 0x7F800000 % 2 ^ 23 = 0 ∧ 0xFF800001 / 2 ^ 23 % 2 ^ 8 = 2 ^ 8 - 1 ∧
      0xFF800001 % 2 ^ 23 ≠ 0 ∧ 1 / 2 ^ 52 % 2 ^ 11 ≠ 2 ^ 11 - 1) ∧
    ((-0x8000000000000000 : Int).natAbs < 2 ^ 64 ∧ ∀ k < 18, 0x999999999999999999 / 16 ^ k % 16 < 10) ∧
    classOf signalling = .snan ∧ classOf quietNan ≠ .snan := by
  refine ⟨⟨fpu_ready.1.1, fpu_ready.1.2.2⟩, fpu_operands.1.1, fpu_operands.1.2, ?_⟩
  decide +kernel

theorem witness_FpuStoreResult : (empty.fpuRuns ∧ two.fpuRuns) ∧ writeFault two (two.eaLoc (lastEa 2)) 2 2 = none ∧
    writeFault two (two.eaLoc (lastEa 4)) 4 4 = none ∧ writeFault two (two.eaLoc (lastEa 8)) 8 8 = none ∧
    writeFault two (two.eaLoc (lastEa 10)) 10 8 = none ∧
    (isFinite greatest = true ∧ isZero greatest = false ∧ isFinite leastDenormal = true ∧ isZero minusZero = true ∧
      isInf (infinite true) = true ∧ isNan signalling = true ∧ isNan quietNan = true ∧ classOf unnormal = .unsupported) ∧
    (fitsSigned 16 1 = true ∧ isFinite (infinite false) = false ∧
      fitsSigned 64 (((valueOf greatest).roundAt 0#2 0).mant : Int) = false) ∧
    ((valueOf one).roundAt 0#2 0).mant < 10 ^ 18 ∧ 10 ^ 18 ≤ ((valueOf greatest).roundAt 0#2 0).mant := by
  refine ⟨⟨fpu_ready.1.1, fpu_ready.1.2.1⟩, fpu_operands.2.1, fpu_operands.2.2.1, fpu_operands.2.2.2.1,
    fpu_operands.2.2.2.2, ?_⟩
  decide +kernel

-- Results in the range of a single, and beyond it at both ends.
theorem witness_StoredReal :
    let k := fun x : Ext => ((valueOf x).roundTo 0#2 24).exp + 23
    (-126 ≤ k one ∧ k one ≤ 127) ∧ 127 < k greatest ∧ k least < -126 := by decide +kernel

theorem witness_FpuCompareResult : (empty.fpuRuns ∧ two.fpuRuns) ∧ two.fpuReads (lastEa 2) 2 2 ∧
    (two.fpuReads (lastEa 4) 4 4 ∧ two.fpuReads (lastEa 8) 8 8) ∧
    ((classOf unnormal = .unsupported ∧ classOf signalling = .snan ∧ classOf quietNan = .qnan) ∧
      isNan quietNan = true ∧ isNan one = false ∧ isFinite one = true ∧ isFinite three = true ∧
      isInf (infinite true) = true ∧ isInf (infinite false) = true) :=
  ⟨⟨fpu_ready.1.1, fpu_ready.1.2.1⟩, fpu_operands.1.1, ⟨fpu_operands.1.2.1, fpu_operands.1.2.2.1⟩, by decide +kernel⟩

-- 1 below 3, and the two zeros equal.
theorem witness_CompareOrder : (valueOf one).less (valueOf three) ∧ (valueOf minusZero).same (valueOf 0#80) := by
  have h (x : Ext) (e : Int) (hx : (valueOf x).mant = 0) : (valueOf x).scaled e = 0 := by
    simp [Dyadic.scaled, hx]
  refine ⟨fun e he _ => ?_, fun e _ _ => by rw [h _ _ (by decide +kernel), h _ _ (by decide +kernel)]⟩
  have h1 : valueOf one = { sign := false, mant := 2 ^ 63, exp := -63 } := by decide +kernel
  have h3 : valueOf three = { sign := false, mant := 3 * 2 ^ 62, exp := -62 } := by decide +kernel
  rw [h1] at he ⊢
  rw [h3]
  have hk : (-62 - e : Int).toNat = (-63 - e : Int).toNat + 1 := by simp only at he; omega
  simp only [Dyadic.scaled, hk, Nat.pow_succ]
  have : 0 < 2 ^ (-63 - e : Int).toNat := Nat.two_pow_pos _
  simp only [Bool.false_eq_true, if_false]
  omega

theorem witness_FpuRegisterResult : empty.fpuRuns ∧ two.fpuRuns ∧ full.fpuRuns ∧
    PcOk [0#3] (fun f => arith f.cw (pcBits f.cw) [regOperand (f.reg 0#3)] (rawSqrt (f.reg 0#3))) two.fpu ∧
    ¬ PcOk [0#3] (fun f => arith f.cw (pcBits f.cw) [regOperand (f.reg 0#3)] (rawSqrt (f.reg 0#3)))
      (withStack [three] 0x17F#16 real).fpu ∧
    (isInf (infinite false) = true ∧ isZero minusZero = true ∧ isFinite five = true ∧ isZero five = false ∧
      xSign (infinite true) = true ∧ xSign (infinite false) = false) ∧
    (((valueOf five).roundAt 3#2 0).mant ≤ 2 ^ 17 ∧ 2 ^ 17 < ((valueOf greatest).roundAt 3#2 0).mant) ∧
    classOf unnormal = .unsupported ∧ classOf signalling = .snan ∧ classOf quietNan = .qnan := by
  refine ⟨fpu_ready.1.1, fpu_ready.1.2.1, fpu_ready.1.2.2, ?_⟩
  simp only [PcOk]; decide +kernel

-- 5 by 3 with the least and the greatest step; both quotients; a denormal by an infinity.
theorem witness_FpuRegisterResult_remainder :
    (32 ≤ 63 ∧ isFinite five = true ∧ isZero five = false ∧ isFinite three = true ∧ isZero three = false) ∧
    ((-62 : Int) ≤ (valueOf five).exp ∧ (-62 : Int) ≤ (valueOf three).exp) ∧
    (isFinite 1#80 = true ∧ isZero 1#80 = false ∧ isInf (infinite true) = true ∧ isZero minusZero = true) ∧
    -- The last complete and the first incomplete reduction by 3.
    (let x := fun e : BitVec 16 => (e ++ 0x8000000000000000#64 : Ext)
     isFinite (x 0x403F#16) = true ∧ (valueOf (x 0x403F#16)).top - (valueOf three).top = 63 ∧
      (valueOf (x 0x4040#16)).top - (valueOf three).top = 64 ∧ (-63 : Int) ≤ (valueOf (x 0x4040#16)).exp ∧
      (remainder false 32 (x 0x403F#16) three).incomplete = false ∧
      (remainder true 63 (x 0x4040#16) three).incomplete = true) ∧
    (isNan quietNan = true ∧ isNan five = false ∧ classOf five ≠ .unsupported) ∧
    (valueOf leastDenormal).mant ≠ 0 := by decide +kernel

/-- FPREM of 7 by 2: the quotient 3 in C0, C3 and C1, the remainder 1 (48_fpu_arithmetic_1.md R656, its example). -/
theorem test_fprem_seven_by_two : runs [0xD9, 0xF8]
    (withStack [0x4001E000000000000000#80, 0x40008000000000000000#80] 0x37F#16 real)
    (fun t => t.fpu.reg 0#3 == one && !t.fpu.st.c2 && !t.fpu.st.c0 && t.fpu.st.c3 && t.fpu.st.c1) = true := by
  decide +kernel

/-- FPREM of the least denormal by infinity with UM clear: the exact remainder is tiny, so UE is set and the result is
multiplied by 2^24576 (46_fpu_numerics.md R546; 48_fpu_arithmetic_1.md, FPREM: an infinite modulus leaves ST(0)). -/
theorem test_fprem_tiny_by_infinity : runs [0xD9, 0xF8] (withStack [1#80, infinite false] 0x36F#16 real)
    (fun t => t.fpu.reg 0#3 == 0x5FC28000000000000000#80 && t.fpu.st.ue && t.fpu.st.de && !t.fpu.st.pe && !t.fpu.st.c2) =
      true := by decide +kernel

-- Every function is asked at operands of 1/4 and 1 and at their neighbours, where the value rises (2^x - 1 and y log2 x
-- in x, arctan (y/x) in y) and where it falls (arctan (y/x) in x, y log2 x in y for x below 1); the bounds of a result.
theorem witness_FpuTranscendentalResult : (empty.fpuRuns ∧ two.fpuRuns ∧ full.fpuRuns) ∧
    (let x : Ext := 0x3FFD8000000000000000#80
     (∀ op ∈ [Config.Transcend.f2xm1, .fpatan, .fyl2x, .fyl2xp1, .fsin, .fcos, .fptan, .sincosSin, .sincosCos],
        asked op one x = true ∧ asked op one (nextExt x) = true ∧ asked op (nextExt one) x = true) ∧
      canonical x = x ∧ canonical (nextExt x) = nextExt x ∧ canonical one = one ∧ canonical (nextExt one) = nextExt one ∧
      isZero x = false ∧ isInf x = false ∧ (valueOf x).top < 0 ∧ isNumber one = true ∧ xSign x = false ∧ x ≠ oneExt) ∧
    (2 ^ 63 ≤ 2 ^ 63 ∧ 2 ^ 64 - 1 < 2 ^ 64) ∧
    (let x : Ext := 0x3FFD8000000000000000#80
     (valueLe .f2xm1 0#80 x 0#80 (nextExt x) = true ∧
        (approx .f2xm1 0#80 x).mant ≠ 0 ∧ (approx .f2xm1 0#80 (nextExt x)).mant ≠ 0) ∧
      (valueLe .fyl2x one x one (nextExt x) = true ∧ valueLe .fyl2x (nextExt one) x one x = true ∧
        (approx .fyl2x one x).mant ≠ 0 ∧ (approx .fyl2x one (nextExt x)).mant ≠ 0 ∧
        (approx .fyl2x (nextExt one) x).mant ≠ 0) ∧
      valueLe .fpatan one x (nextExt one) x = true ∧ valueLe .fpatan one (nextExt x) one x = true ∧
      (approx .fpatan one x).mant ≠ 0 ∧ (approx .fpatan one (nextExt x)).mant ≠ 0 ∧
      (approx .fpatan (nextExt one) x).mant ≠ 0) ∧
    -- Next to pi the approximations are one number, and the angle falls as y grows.
    (let y : Ext := 0x3D008000000000000000#80
     let x : Ext := 0xBFFF8000000000000000#80
     asked .fpatan y x = true ∧ asked .fpatan (nextExt y) x = true ∧ canonical y = y ∧ canonical (nextExt y) = nextExt y ∧
      approx .fpatan (nextExt y) x = approx .fpatan y x ∧ valueLe .fpatan (nextExt y) x y x = true ∧
      valueLe .fpatan y x (nextExt y) x = false) :=
  ⟨fpu_ready.1, by decide +kernel⟩

-- The classes of the special rows; signs and both sides of 1; the ends of the ranges are the numbers of the statement.
theorem witness_FpuTranscendentalResult_rows :
    (isInf (infinite true) = true ∧ isInf (infinite false) = true ∧ xSign (infinite true) = true ∧
      xSign (infinite false) = false ∧ isZero minusZero = true ∧ isZero 0#80 = true ∧ isFinite minusZero = true ∧
      isFinite three = true ∧ isZero three = false ∧ xSign three = false ∧ three ≠ oneExt ∧ isZero one = false) ∧
    (let half : Ext := 0x3FFE8000000000000000#80
     let minus : Ext := 0xBFFE8000000000000000#80
     asked .fyl2x three half = true ∧ asked .fyl2x half three = true ∧ asked .fpatan half minus = true ∧
      asked .fpatan minus half = true ∧ xSign minus = true ∧ xSign half = false ∧ asked .f2xm1 0#80 minus = true ∧
      asked .fyl2xp1 three 0x3FFD8000000000000000#80 = true) := by decide +kernel

theorem witness_LessThanOne : (valueOf 0x3FFE8000000000000000#80).less (powerOfTwo 0) ∧
    ¬ (valueOf three).less (powerOfTwo 0) := by
  have h1 : valueOf 0x3FFE8000000000000000#80 = { sign := false, mant := 2 ^ 63, exp := -64 } := by decide +kernel
  refine ⟨fun e he _ => ?_, fun h => absurd (h (-62) (by decide +kernel) (by decide +kernel)) (by decide +kernel)⟩
  rw [h1] at he ⊢
  have hk : (0 - e : Int).toNat = (-64 - e : Int).toNat + 64 := by simp only at he; omega
  simp only [Dyadic.scaled, powerOfTwo, hk, Nat.pow_add]
  have : 0 < 2 ^ (-64 - e : Int).toNat := Nat.two_pow_pos _
  simp only [Bool.false_eq_true, if_false]
  omega

/-- FYL2X of -0 and 2: the zero has the sign of ST(1) XOR that of log2 2 (48_fpu_arithmetic_2_transcendental.md R691). -/
theorem test_fyl2x_minus_zero : runs [0xD9, 0xF1] (withStack [0x40008000000000000000#80, minusZero] 0x37F#16 real)
    (fun t => t.fpu.reg 0#3 == minusZero && !t.fpu.st.pe) = true := by decide +kernel

-- The last word of the segment; FNSTSW AX and FNSTENV, each behind a prefix, at the cursor.
theorem witness_FpuControlResult :
    (two.fpuOff = false ∧ two.compositeRuns ∧ two.waitPasses ∧ two.fpuRuns) ∧
    (writeFault two (two.eaLoc (lastEa 2)) 2 2 = none ∧ two.fpuReads (lastEa 2) 2 2 ∧ two.afterWait.fpuOff = false) ∧
    (let t := load 0x100 [0x2E, 0xDF, 0xE0] two
     t.waitPasses ∧ opensControl (t.fetchWindow t.nextEip 15) = true) ∧
    let t := load 0x100 [0x66, 0xD9, 0x36] two
    t.waitPasses ∧ opensControl (t.fetchWindow t.nextEip 15) = true := by
  refine ⟨⟨by decide +kernel, ⟨by unfold State.waitPasses; decide +kernel, rfl⟩,
    by unfold State.waitPasses; decide +kernel, fpu_ready.1.2.1⟩, ?_⟩
  simp only [State.fpuReads, State.fpuRuns, State.reads, State.waitPasses]; decide +kernel

-- The images of both sizes at the end of the segment, and a mode whose image holds every field.
theorem witness_FpuImageResult :
    (two.fpuOff = false ∧ two.compositeRuns ∧ two.waitPasses) ∧
    (writeFault two (two.eaLoc (lastEa 14)) 14 2 = none ∧ writeFault two (two.eaLoc (lastEa 94)) 94 2 = none) ∧
    (let s := two.afterWait
     s.fpuOff = false ∧ writeFault s (s.eaLoc (lastEa 14)) 14 2 = none ∧
      writeFault s (s.eaLoc (lastEa 94)) 94 2 = none) ∧
    (two.fpuReads (lastEa (envBytes two.os32)) (envBytes two.os32) two.osBytes ∧
      two.fpuReads (lastEa (envBytes two.os32 + 80)) (envBytes two.os32 + 80) two.osBytes) ∧
    (prot0.isProt = true ∧ prot0.os32 = true ∧ real.isProt = false ∧ real.os32 = false ∧
      { prot0 with pfx := { noPrefixes with os := true } }.os32 = false ∧
      { real with pfx := { noPrefixes with os := true } }.os32 = true) := by
  refine ⟨⟨by decide +kernel, ⟨by unfold State.waitPasses; decide +kernel, rfl⟩,
    by unfold State.waitPasses; decide +kernel⟩, by decide +kernel, by decide +kernel, ?_⟩
  simp only [State.fpuReads, State.fpuRuns, State.reads]; decide +kernel

/-- An unmasked exception is pending. -/
def pending (cr0 : DWord) : State :=
  let s := withStack [one] 0x37E#16 { real with cr0 := cr0 }
  { s with fpu := { s.fpu with st := { s.fpu.st with ie := true } } }

theorem witness_FpuReadiness :
    ({ real with cr0 := 0x60000014#32 }.fpuOff = true ∧ { real with cr0 := 0x60000018#32 }.fpuOff = true) ∧
    ((pending 0x60000030#32).fpuOff = false ∧ (pending 0x60000030#32).fpu.es = true ∧
      (pending 0x60000030#32).cr0.getLsbD 5 = true) ∧
    ((pending 0x60000010#32).fpuOff = false ∧ (pending 0x60000010#32).fpu.es = true ∧
      (pending 0x60000010#32).cr0.getLsbD 5 = false ∧ (pending 0x60000010#32).host.ignne = false) ∧
    ((0x6000001A#32).getLsbD 1 = true ∧ (0x6000001A#32).getLsbD 3 = true) ∧
    -- EM or TS behind a WAIT that passes.
    ({ real with cr0 := 0x60000014#32 }.compositeRuns ∧ { real with cr0 := 0x60000018#32 }.compositeRuns) := by
  refine ⟨?_, ?_, ?_, ?_, ?_⟩
  case refine_5 => exact ⟨⟨by unfold State.waitPasses; decide +kernel, rfl⟩, by unfold State.waitPasses; decide +kernel, rfl⟩
  all_goals decide +kernel

/-- FSTSW AX with EM set: its WAIT passes, and #NM saves the offset of the second half
(48_fpu_arithmetic_3_control.md R725; 46_fpu_numerics.md R540). -/
theorem test_fstsw_em : runs [0x9B, 0xDF, 0xE0] (load 0x1C [0x34, 0x12, 0, 0] { real with cr0 := 0x60000014#32 })
    (fun t => t.eip == 0x1234#32 && mem2 t 0xFFA == 0x101) = true := by decide +kernel

/-- The instruction that a decoding answers, with how many bytes follow it. -/
def decoded (d : Decoded) : Option (Instr × Nat) :=
  match d with
  | .ok i rest => some (i, rest.length)
  | _ => none

theorem exists_of_decoded {d : Decoded} {i : Instr} {n : Nat} (h : decoded d = some (i, n)) :
    ∃ rest, d = .ok i rest ∧ rest.length = n := by
  unfold decoded at h
  split at h
  · cases h; exact ⟨_, rfl, rfl⟩
  · cases h

/-- The state that an outcome goes on with. -/
def nexts (o : Host.Outcome State Fault Refusal) : Bool :=
  match o with
  | .next _ => true
  | _ => false

theorem exists_of_nexts {o : Host.Outcome State Fault Refusal} (h : nexts o = true) : ∃ t, o = .next t := by
  unfold nexts at h
  split at h
  · exact ⟨_, rfl⟩
  · cases h

/-- The refusal that an outcome is. -/
def refusalOf (o : Host.Outcome State Fault Refusal) : Option Refusal :=
  match o with
  | .refused r => some r
  | _ => none

theorem eq_of_refusalOf {o : Host.Outcome State Fault Refusal} {r : Refusal} (h : refusalOf o = some r) :
    o = .refused r := by
  unfold refusalOf at h
  split at h
  · cases h; rfl
  · cases h

/-- `real` with code at 100H, as a step begins. -/
def coded (bs : List Nat) : State := (load 0x100 bs real).begin

-- An instruction, one with a bad LOCK, a prefix, a second prefix of its group, bytes cut by the limit, and no opcode.
theorem witness_StepRunsDecoded :
    boundary real = none ∧
    ((∃ rest, decode (coded [0x40]).ctx (coded [0x40]).window = .ok (.incR16 0#3) rest ∧ rest.length = 14) ∧
      isPrefix (.incR16 0#3) = false ∧ badLock (.incR16 0#3) (coded [0x40]) = false) ∧
    (let s := { coded [0x40] with pfx := { noPrefixes with lock := true } }
     (∃ rest, decode s.ctx s.window = .ok (.incR16 0#3) rest ∧ rest.length = 14) ∧ badLock (.incR16 0#3) s = true) ∧
    ((∃ rest, decode (coded [0xF3]).ctx (coded [0xF3]).window = .ok .rep rest ∧ rest.length = 14) ∧
      isPrefix .rep = true ∧ ∃ v, exec .rep ((coded [0xF3]).fetched 1) = .next v) ∧
    exec .rep { coded [0xF3] with pfx := { noPrefixes with rep := .repne } } = .refused .redundantPrefix ∧
    (let s := { coded [] with nextEip := 0xFFFF#32, mem := ((coded []).load 0xFFFF#32 [0x0F#8]).mem }
     decode s.ctx s.window = .short) ∧
    decode (coded [0x0F, 0x05]).ctx (coded [0x0F, 0x05]).window = .undef false ∧
    decode (coded [0xD9, 0xD1]).ctx (coded [0xD9, 0xD1]).window = .undef true := by
  refine ⟨rfl, ⟨exists_of_decoded (by decide +kernel), by decide +kernel⟩,
    ⟨exists_of_decoded (by decide +kernel), by decide +kernel⟩,
    ⟨exists_of_decoded (by decide +kernel), by decide +kernel, exists_of_nexts (by decide +kernel)⟩,
    eq_of_refusalOf (by decide +kernel), by decide +kernel, by decide +kernel, by decide +kernel⟩

-- One instruction at the last bytes of the code segment, and one of 32-bit code.
theorem witness_EncodedInstructionRuns :
    (let s := { load 0xFFFD [0xB8, 0x34, 0x12] real with eip := 0xFFFD#32 }
     let i := Instr.movR16Imm16 0#3 0x1234#16
     boundary s = none ∧ s.repCode = none ∧ i.wellFormed = true ∧
      i.fits { os32 := s.code32, as32 := s.code32, plain := true } = true ∧ isPrefix i = false ∧ i ≠ .wait ∧
      (encode i).length ≤ 15 ∧ s.seg.cs.inLimit s.eip true 1 = true ∧
      s.eip.toNat + (encode i).length ≤ 2 ^ 32 ∧
      ∀ k < (encode i).length, s.seg.cs.inLimit (s.eip + BitVec.ofNat 32 k) true 1 = true ∧
        some (s.ticked.byteAt (s.seg.cs.base + s.eip + BitVec.ofNat 32 k)) = (encode i)[k]?) ∧
    (let s := load 0x1000 [0xC7, 0x84, 0x8D, 0x44, 0x33, 0x22, 0x11, 1, 0, 0, 0] prot0
     let i := Instr.movRm32Imm32 (.mem (.sib 2#2 1#3 5#3 (.d32 0x11223344#32))) 1#32
     boundary s = none ∧ s.repCode = none ∧ i.wellFormed = true ∧
      i.fits { os32 := s.code32, as32 := s.code32, plain := true } = true ∧ isPrefix i = false ∧ i ≠ .wait ∧
      (encode i).length ≤ 15 ∧ s.seg.cs.inLimit s.eip true 1 = true ∧
      ∀ k < (encode i).length, s.seg.cs.inLimit (s.eip + BitVec.ofNat 32 k) true 1 = true ∧
        some (s.ticked.byteAt (s.seg.cs.base + s.eip + BitVec.ofNat 32 k)) = (encode i)[k]?) :=
  ⟨⟨rfl, rfl, by decide +kernel⟩, ⟨rfl, rfl, by decide +kernel⟩⟩

theorem witness_EncodeDecode :
    (let i := Instr.movRm32Imm32 (.mem (.sib 3#2 7#3 5#3 (.d32 0xFFFFFFFF#32))) 0xFFFFFFFF#32
     let c : Ctx := { os32 := true, as32 := true, plain := true }
     i.wellFormed = true ∧ i.fits c = true ∧ i ≠ .wait) ∧
    (Instr.wait.wellFormed = true ∧ Instr.wait.fits { ctx16 with plain := false } = true ∧
      { ctx16 with plain := false }.plain = false) := by decide +kernel

-- In real-address, protected and virtual-8086 mode.
theorem witness_StepKeepsInvariant : (State.reset.inv ∧ ∃ t, step State.reset = .next t) ∧
    (prot3.inv ∧ ∃ t, step prot3 = .next t) ∧ virt.inv ∧ ∃ t, step virt = .next t := by
  refine ⟨⟨?_, exists_of_nexts (by decide +kernel)⟩, ⟨?_, exists_of_nexts (by decide +kernel)⟩, ?_,
    exists_of_nexts (by decide +kernel)⟩
  all_goals simp only [State.inv, State.controlOk, State.systemOk]; decide +kernel

theorem witness_StepKeepsMode : (State.reset.modeOk ∧ ∃ t, step State.reset = .next t) ∧
    (prot3.modeOk ∧ ∃ t, step prot3 = .next t) ∧ virt.modeOk ∧ ∃ t, step virt = .next t := by
  refine ⟨⟨?_, exists_of_nexts (by decide +kernel)⟩, ⟨?_, exists_of_nexts (by decide +kernel)⟩, ?_,
    exists_of_nexts (by decide +kernel)⟩
  all_goals simp only [State.modeOk]; decide +kernel

theorem witness_UserModeIsConfined :
    (let s := { prot3 with cr4 := 4#32 }
     s.cr4.getLsbD 2 = true ∧ s.cr4.getLsbD 8 = false ∧
      s.isProt = true ∧ s.cpl = 3#2 ∧ boundary s = none ∧ ∃ t, step s = .next t) ∧
    virt.isV86 = true ∧ virt.cpl = 3#2 ∧ boundary virt = none ∧ ∃ t, step virt = .next t :=
  ⟨⟨by decide, by decide, by decide +kernel, by decide +kernel, rfl, exists_of_nexts (by decide +kernel)⟩,
    by decide +kernel, by decide +kernel, rfl, exists_of_nexts (by decide +kernel)⟩

theorem witness_RegisterFile : (3#3).toNat < 4 ∧ (0#3).toNat < 4 ∧ 7#3 ≠ 3#3 := by decide +kernel

/-- ROM at 2000H, a device at 3000H and a hole at 4000H, 4K each. -/
def mixed : State :=
  { real with host := { real.host with map :=
      [{ base := 0x2000, size := 0x1000, kind := .rom }, { base := 0x3000, size := 0x1000, kind := .device },
       { base := 0x4000, size := 0x1000, kind := .nothing }] } }

/-- The TSS, the GDT and any code at 8000H in a device's range. -/
def onDevice (s : State) : State :=
  { s with host := { s.host with map :=
      [{ base := 0x8000, size := 0x1000, kind := .device }, { base := 0x10000, size := 0x1000, kind := .device }] } }

theorem witness_StoredBytes : real.mem.wf = true ∧ (real.store 0xFFFFFFFE#32 4 0x12345678).mem.wf = true ∧
    (0 ≤ 2 ^ 32 ∧ 2 ^ 32 ≤ 2 ^ 32) ∧
    (mixed.kindAt 0x1FFF = .ram ∧ mixed.kindAt 0x2000 = .rom ∧ mixed.kindAt 0x3000 = .device ∧ mixed.kindAt 0x3FFF = .device ∧
      mixed.kindAt 0x4000 = .nothing) ∧
    (readFault mixed (mixed.eaLoc (.abs16 0x2FFE#16)) 4 4 = none ∧ writeFault mixed (mixed.eaLoc (.abs16 0x3FFE#16)) 4 4 = none ∧
      readFault (withSp 0x3FFE#32 mixed) ((withSp 0x3FFE#32 mixed).stackLoc 0#32) 4 4 = none) ∧
    (let s := onDevice prot0
     s.isProt = true ∧ s.cpl = 0#2 ∧ s.descAddr 8#16 = some 0x10008#32 ∧ (s.descAt 0x10008#32).getLsbD 40 = false ∧
      selNull 8#16 = false ∧ (s.descAt 0x10008#32).getLsbD 44 = true ∧ (s.descAt 0x10008#32).getLsbD 43 = true ∧
      (s.descAt 0x10008#32).getLsbD 42 = false ∧ (s.descAt 0x10008#32).getLsbD 47 = true ∧ rpl 8#16 ≤ s.cpl ∧
      descDpl (s.descAt 0x10008#32) = s.cpl ∧ s.inSeg 0x10008#32 0xFFFFFFFF#32 ∧ s.quiet 0x10008#32 8 = false) ∧
    (let s := onDevice (selecting 0x28#32 prot0)
     selNull (s.gpr.read 16 rA) = false ∧ selTi (s.gpr.read 16 rA) = false ∧
      s.descAddr (s.gpr.read 16 rA) = some 0x10028#32 ∧ (s.descAt 0x10028#32).getLsbD 44 = false ∧
      (s.descAt 0x10028#32).getLsbD 47 = true ∧ descType (s.descAt 0x10028#32) = 9#4) ∧
    (let s := onDevice { mapped 0x69#32 with gpr := { real.gpr with edx := 6#32 } }
     s.isProt = true ∧ s.flags.iopl < s.cpl ∧ s.ioAllowed (dxPort s) 1 ∧ s.quiet (s.tr.base + 0x66#32) 2 = false) ∧
    real.repCode = none ∧ { real with repCode := some [0xAA#8] }.repCode ≠ none := by
  simp only [State.inSeg, State.ioAllowed]; decide +kernel

/-- MOV AL, [3000H] from the device: the byte that the host placed there, and one event. -/
theorem test_device_read : runs [0xA0, 0x00, 0x30] (load 0x3000 [0x5A] mixed) (fun t => t.gpr.eax == 0x5A#32 &&
    t.ioTrace == [{ space := .memory, write := false, addr := 0x3000#32, width := 1, value := 0x5A }]) = true := by
  decide +kernel

/-- OR [3000H], AL of the device: a read and a write, which leaves the place as it is. -/
theorem test_device_update : runs [0x08, 0x06, 0x00, 0x30] (load 0x3000 [0x50] { mixed with gpr := { mixed.gpr with eax := 0xA#32 } })
    (fun t => mem1 t 0x3000 == 0x50 &&
      t.ioTrace == [{ space := .memory, write := true, addr := 0x3000#32, width := 1, value := 0x5A },
                    { space := .memory, write := false, addr := 0x3000#32, width := 1, value := 0x50 }]) = true := by
  decide +kernel

/-- BOUND AX, [3000H] at the device: two reads of a word each, the lower bound first (43_control_transfer_2.md R420). -/
theorem test_bound_reads_twice : runs [0x62, 0x06, 0x00, 0x30]
    (load 0x3000 [1, 0, 5, 0] { mixed with gpr := { mixed.gpr with eax := 3#32 } }) (fun t => t.ioTrace ==
      [{ space := .memory, write := false, addr := 0x3002#32, width := 2, value := 5 },
       { space := .memory, write := false, addr := 0x3000#32, width := 2, value := 1 }]) = true := by decide +kernel

/-- SGDT [3000H] to the device: the limit, then 24 bits of the base (49_system_1.md R767). -/
theorem test_sgdt_writes_twice : runs [0x0F, 0x01, 0x06, 0x00, 0x30]
    { mixed with gdtr := { base := 0x12001000#32, limit := 0x3FF#16 } } (fun t => t.ioTrace ==
      [{ space := .memory, write := true, addr := 0x3002#32, width := 4, value := 0x1000 },
       { space := .memory, write := true, addr := 0x3000#32, width := 2, value := 0x3FF }]) = true := by decide +kernel

/-- LTR with the GDT on a device: the descriptor read, then read and written whole with its busy bit set
(49_system_1.md R760). -/
theorem test_ltr_marks_descriptor : runs [0x0F, 0x00, 0xD8] (onDevice (selecting 0x28#32 prot0)) (fun t => t.ioTrace ==
    [{ space := .memory, write := true, addr := 0x10028#32, width := 8, value := 0x00008B0080000067 },
     { space := .memory, write := false, addr := 0x10028#32, width := 8, value := 0x0000890080000067 },
     { space := .memory, write := false, addr := 0x10028#32, width := 8, value := 0x0000890080000067 }]) = true := by
  decide +kernel

/-- MOV [2000H], AL to ROM changes nothing. -/
theorem test_rom_write : runs [0xA2, 0x00, 0x20] (load 0x2000 [0x77] mixed)
    (fun t => mem1 t 0x2000 == 0x77 && t.ioTrace == []) = true := by decide +kernel

/-- An expand-down segment above 0FFFH, and a CPL 3 state that checks alignment. -/
def down : Seg := { flatData 3#2 0x23#16 with limit := 0xFFF#32, ty := 7#4 }
def checked : State := { prot3 with cr0 := 0x60040011#32, flags := { prot3.flags with ac := true } }

theorem witness_AccessChecks :
    (0 < 1 ∧ 108 ≤ 108) ∧
    (let g := { flatData 3#2 0x23#16 with valid := false }
     ¬ (prot3.isProt = false ∨ g.valid = true)) ∧
    (let g := segOfDesc 0x63#16 (prot3.descAt 0x10060#32)
     g.s = true ∧ g.ty.getLsbD 3 = true ∧ g.ty.getLsbD 1 = false) ∧
    (let g := segOfDesc 0x5B#16 (prot3.descAt 0x10058#32)
     g.valid = true ∧ g.s = true ∧ g.ty.getLsbD 3 = false ∧ g.ty.getLsbD 1 = false) ∧
    (real.isProt = false ∧ (0xFFFF#32).toNat + 1 - 1 ≤ real.seg.ds.limit.toNat ∧
      ¬ (0xFFFF#32).toNat + 2 - 1 ≤ real.seg.ds.limit.toNat) ∧
    (down.s = true ∧ down.ty.getLsbD 3 = false ∧ down.ty.getLsbD 2 = true ∧ ¬ down.limit.toNat < (0xFFF#32).toNat ∧
      down.limit.toNat < (0x1000#32).toNat ∧ (0xFFFFFFFF#32).toNat + 1 - 1 ≤ offsetTop down.db) ∧
    (checked.pe = true ∧ checked.cr0.getLsbD 18 = true ∧ checked.flags.ac = true ∧ checked.cpl = 3#2 ∧
      (checked.seg.ds.base + 1#32).toNat % 2 ≠ 0 ∧ ¬ (checked.seg.ds.base + 2#32).toNat % 2 ≠ 0) := by decide +kernel

theorem witness_AddSubResult_flags : ∀ w ∈ [8, 16, 32], w = 8 ∨ w = 16 ∨ w = 32 := by decide +kernel

/-! ## The interface of the host: a row's word decodes, and runs as the first instruction after reset -/

theorem test_row_decodes : decodeTableWord 16 0xD801 = some (.addRm16R16 (.reg 0#3) 3#3) := by decide +kernel

theorem test_row_runs : nexts (step (State.reset.withFetchWord 16 0xD801)) = true := by decide +kernel


theorem witness_ResetStated : State.reset.fpuOff = false ∧ two.fpuOff = false := by decide +kernel

/-- A repeated STOSB that overwrites its own prefix with 40H (INC AX) goes on as STOSB (20_memory.md R155). -/
theorem test_repeat_keeps_its_bytes :
    runs [0xF3, 0xAA] { real with gpr := { real.gpr with eax := 0x40#32, ecx := 3#32, edi := 0x100#32 } }
      (fun t => t.gpr.ecx == 2#32 && mem1 t 0x100 == 0x40 && runs [] t fun u =>
        u.gpr.ecx == 1#32 && u.gpr.eax == 0x40#32 && mem1 u 0x101 == 0x40) = true := by decide +kernel

/-- FST m32real of 1.0 across the end of a segment stops with #GP(0) and may have stored its first two bytes
(46_fpu_numerics.md R575 item m). -/
theorem test_split_store :
    (match fstReal 1#3 2#3 8 23 0 (.abs16 0xFFFE#16) (withStack [one] 0x37F#16 real) with
      | .error (.torn v err a n x _) =>
        v == 13#8 && err == some 0#16 && a == 0xFFFE#32 && n == 2 && x == 0x3F800000
      | _ => false) = true := by decide +kernel


/-- Shifts by the operand width (95_test_vectors.md, block B3): SHL 01H, 8 and SHR 80H, 8 leave 0 and CF = 1. -/
theorem test_shift_by_width :
    (runs [0xC0, 0xE0, 8] { real with gpr := { real.gpr with eax := 1#32 } } fun t => t.gpr.eax == 0#32 && t.flags.cf) =
      true ∧
    (runs [0xC0, 0xE8,
        8] { real with gpr := { real.gpr with eax := 0x80#32 } } fun t => t.gpr.eax == 0#32 && t.flags.cf) =
      true := by decide +kernel

/-- WRMSR and RDMSR of an address outside the set are #GP(0) (49_system_1.md R763, R773). -/
theorem test_msr_outside_the_set :
    (match rdmsrOp { prot0 with gpr := { prot0.gpr with ecx := 0x1B#32 } } with
      | .error (.exc v e) => v == 13#8 && e == some 0#16
      | _ => false) = true := by decide +kernel

/-- WRMSR to 10H loads the time-stamp counter. -/
theorem test_wrmsr_tsc : runs [0x0F, 0x30] { prot0 with gpr := { prot0.gpr with ecx := 0x10#32, edx := 1#32, eax := 2#32 } }
    (fun t => t.tsc == 0x100000002#64) = true := by decide +kernel

/-- A prefix at the last offset of a code segment that ends at FFFFFFFFH: the next byte is beyond the offsets, #GP(0)
(20_memory.md R136, D52). -/
theorem test_prefix_at_the_last_offset :
    (let s := load 0xFFFFFFFF [0x66] (gate 13 0x8E 8 0x3000 prot0)
     match step { s with eip := 0xFFFFFFFF#32 } with
      | .next t => t.eip == 0x3000#32 && mem4 t t.gpr.esp.toNat == 0 && mem4 t (t.gpr.esp.toNat + 4) == 0xFFFFFFFF
      | _ => false) = true := by decide +kernel

/-- FCOM; FSTSW AX: the WAIT of the composite form leaves the condition codes in the word that is stored (R717). -/
theorem test_fstsw_after_fcom : runs [0xD8, 0xD1] two (fun t => runs [0x9B, 0xDF, 0xE0] t fun u =>
    u.gpr.eax == 0x3100#32) = true := by decide +kernel

/-- The same behind a segment override: WAIT and then a prefixed FNSTSW AX. -/
theorem test_fstsw_after_fcom_prefixed : runs [0xD8, 0xD1] two (fun t => runs [0x9B, 0x2E, 0xDF, 0xE0] t fun u =>
    u.eip == 0x103#32 && runs [] u fun v => v.gpr.eax == 0x3100#32 && v.eip == 0x106#32) = true := by decide +kernel

/-- POPAD does not read the slot of ESP: a device there sees nothing (40_data_movement.md R260, R138). -/
theorem test_popa_skips_sp : runs [0x66, 0x61] spOnDevice
    (fun t => t.gpr.esp == 0#32 && t.ioTrace == []) = true := by decide +kernel

/-- The processor's own accesses are events at a device (20_memory.md R162): the bytes of MOV DS, AX, the read of the
descriptor 10H, and the read-modify-write that sets its accessed bit (R145). -/
theorem test_descriptor_on_a_device :
    runs [0x8E, 0xD8] (onDevice (selecting 0x10#32 { prot0 with eip := 0x8800#32 })) (fun t =>
      t.ioTrace == [{ space := .memory, write := true, addr := 0x10010#32, width := 8, value := 0x00CF93000000FFFF },
                    { space := .memory, write := false, addr := 0x10010#32, width := 8, value := 0x00CF92000000FFFF },
                    { space := .memory, write := false, addr := 0x10010#32, width := 8, value := 0x00CF92000000FFFF },
                    { space := .memory, write := false, addr := 0x8800#32, width := 2, value := 0xD88E }] &&
        t.seg.ds.sel == 0x10#16) = true := by decide +kernel
end Sys2Proof.Tests
end

section
/-! SUPPORT. Sums, differences and comparisons (41_binary_and_decimal_arithmetic.md R304 to R306, R316, R317;
10_state.md R60 to R62, R64): the arithmetic meaning of their flags, then the rows. Everything about a difference comes
from the sum with the complement. -/

namespace Sys2Proof.Machine

/-! ## Sums and differences with a carry (10_state.md R60 to R62) -/

theorem addResult_eq {w : Nat} (a b : BitVec w) (c : Bool) : addResult a b c = a + b + BitVec.ofNat w c.toNat := by
  simp [addResult, BitVec.ofNat_add]

theorem addResult_toNat {w : Nat} (a b : BitVec w) (c : Bool) :
    (addResult a b c).toNat = (a.toNat + b.toNat + c.toNat) % 2 ^ w := BitVec.toNat_ofNat _ _

/-- A sum with carry leaves its range at most once. -/
theorem addResult_toNat_cases {w : Nat} (a b : BitVec w) (c : Bool) : (addResult a b c).toNat =
    if a.toNat + b.toNat + c.toNat < 2 ^ w then a.toNat + b.toNat + c.toNat
    else a.toNat + b.toNat + c.toNat - 2 ^ w := by
  have ha := a.isLt
  have hb := b.isLt
  have hc := c.toNat_le
  rw [addResult_toNat]
  split
  · exact Nat.mod_eq_of_lt ‹_›
  · rw [Nat.mod_eq_sub_mod (by omega), Nat.mod_eq_of_lt (by omega)]

/-- The carry out of bit 3 shows in bit 4 of the sum. -/
theorem Flags.add_af_eq_bit4 {w : Nat} (hw : 4 < w) (f : Flags) (a b : BitVec w) (c : Bool) :
    (f.add a b c).af = (a ^^^ b ^^^ addResult a b c).getLsbD 4 := by
  have hc : BitVec.ofNat w c.toNat = (BitVec.ofBool c).setWidth w := BitVec.eq_of_toNat_eq (by simp)
  have hbit : (addResult a b c).getLsbD 4 = (a.getLsbD 4 ^^ (b.getLsbD 4 ^^ (f.add a b c).af)) := by
    rw [addResult_eq, hc, BitVec.getLsbD_add_add_bool hw]
    rfl
  rw [BitVec.getLsbD_xor, BitVec.getLsbD_xor, hbit]
  cases a.getLsbD 4 <;> cases b.getLsbD 4 <;> simp

/-- The signed meaning of SF and OF after a sum: OF tells that the sum leaves the signed range, and SF is the sign of
the sum but for that. -/
theorem Flags.add_signed {w : Nat} (hw : 0 < w) (f : Flags) (a b : BitVec w) (c : Bool) :
    (f.add a b c).ofl =
      decide (a.toInt + b.toInt + c.toNat < -2 ^ (w - 1) ∨ 2 ^ (w - 1) ≤ a.toInt + b.toInt + c.toNat) ∧
    ((f.add a b c).sf ^^ (f.add a b c).ofl) = decide (a.toInt + b.toInt + c.toNat < 0) := by
  have ha := a.isLt
  have hb := b.isLt
  have hc := c.toNat_le
  have hhalf : (2 : Int) ^ (w - 1) = (2 ^ (w - 1) : Nat) := by simp
  simp only [Flags.add, Flags.szp, BitVec.msb_eq_decide, BitVec.toInt_eq_toNat_cond, addResult_toNat_cases, hhalf,
    ← Nat.two_pow_pred_mul_two hw] at ha hb ⊢
  generalize 2 ^ (w - 1) = half, a.toNat = x, b.toNat = y, c.toNat = z at *
  constructor <;> grind

/-- A difference with borrow is the sum with the complements of the subtrahend and the borrow. -/
theorem subResult_eq_addResult {w : Nat} (a b : BitVec w) (c : Bool) :
    subResult a b c = addResult a (~~~b) (!c) := by
  rw [addResult_eq, subResult, BitVec.not_eq_neg_add, BitVec.sub_eq_add_neg a b]
  cases c with
  | false =>
    show a + -b - 0#w = a + (-b - 1#w) + 1#w
    rw [BitVec.sub_zero, BitVec.add_assoc, BitVec.sub_add_cancel]
  | true =>
    show a + -b - 1#w = a + (-b - 1#w) + 0#w
    rw [BitVec.add_zero, BitVec.sub_eq_add_neg, BitVec.sub_eq_add_neg (-b), BitVec.add_assoc]

/-- So are its flags, but CF and AF tell the borrows, which are the carries complemented. -/
theorem Flags.sub_eq_add {w : Nat} (hw : 4 < w) (f : Flags) (a b : BitVec w) (c : Bool) :
    f.sub a b c = { f.add a (~~~b) (!c) with
      cf := !(f.add a (~~~b) (!c)).cf, af := !(f.add a (~~~b) (!c)).af } := by
  have hpow : 2 ^ w = 16 * 2 ^ (w - 4) := by rw [Nat.mul_comm]; exact (Nat.pow_sub_mul_pow 2 (Nat.le_of_lt hw)).symm
  have ha := a.isLt
  have hb := b.isLt
  have hcf : decide (a.toNat < b.toNat + c.toNat) = !decide (2 ^ w ≤ a.toNat + (~~~b).toNat + (!c).toNat) := by
    rw [BitVec.toNat_not]
    cases c <;> grind
  have haf : decide (a.toNat % 16 < b.toNat % 16 + c.toNat) =
      !decide (16 ≤ a.toNat % 16 + (~~~b).toNat % 16 + (!c).toNat) := by
    rw [BitVec.toNat_not]
    cases c <;> grind
  have hmsb : (~~~b).msb = !b.msb := by rw [BitVec.msb_not]; simp; omega
  simp only [Flags.sub, Flags.add, subResult_eq_addResult, hcf, haf, hmsb]
  cases a.msb <;> cases b.msb <;> rfl

theorem subResult_toNat {w : Nat} (a b : BitVec w) (c : Bool) :
    ((subResult a b c).toNat : Int) = ((a.toNat : Int) - b.toNat - c.toNat) % 2 ^ w := by
  have hb := b.isLt
  have hsum : ((a.toNat + (~~~b).toNat + (!c).toNat : Nat) : Int) = a.toNat - b.toNat - c.toNat + (2 ^ w : Nat) := by
    rw [BitVec.toNat_not]
    cases c <;> grind
  rw [subResult_eq_addResult, addResult_toNat, Int.natCast_emod, hsum, Int.add_emod_right]
  simp

theorem Flags.sub_af_eq_bit4 {w : Nat} (hw : 4 < w) (f : Flags) (a b : BitVec w) (c : Bool) :
    (f.sub a b c).af = (a ^^^ b ^^^ subResult a b c).getLsbD 4 := by
  rw [Flags.sub_eq_add hw, Flags.add_af_eq_bit4 hw, subResult_eq_addResult]
  simp [hw]

/-- The complement as a signed number. -/
theorem toInt_not_eq {w : Nat} (hw : 0 < w) (b : BitVec w) : (~~~b).toInt = -1 - b.toInt := by
  have hb := b.isLt
  have hsub : ((2 ^ w - 1 - b.toNat : Nat) : Int) = (2 ^ w : Nat) - 1 - b.toNat := by omega
  rw [BitVec.toInt_eq_msb_cond, BitVec.toInt_eq_msb_cond b, BitVec.msb_not, BitVec.toNat_not, hsub]
  cases b.msb <;> simp [hw] <;> omega

/-- The signed meaning of SF and OF after a difference. -/
theorem Flags.sub_signed {w : Nat} (hw : 4 < w) (f : Flags) (a b : BitVec w) (c : Bool) :
    (f.sub a b c).ofl =
      decide (a.toInt - b.toInt - c.toNat < -2 ^ (w - 1) ∨ 2 ^ (w - 1) ≤ a.toInt - b.toInt - c.toNat) ∧
    ((f.sub a b c).sf ^^ (f.sub a b c).ofl) = decide (a.toInt - b.toInt - c.toNat < 0) := by
  have hd : a.toInt - b.toInt - c.toNat = a.toInt + (~~~b).toInt + (!c).toNat := by
    rw [toInt_not_eq (by omega)]
    cases c <;> grind
  rw [hd, Flags.sub_eq_add hw]
  exact Flags.add_signed (by omega) f a (~~~b) (!c)

/-- PF counts the 1 bits of the low byte (R60). -/
theorem parity_eq_countP (b : Byte) :
    parity b = decide (((List.range 8).countP fun k => b.getLsbD k) % 2 = 0) := by
  have h : ∀ b0 b1 b2 b3 b4 b5 b6 b7 : Bool, (!(b0 ^^ b1 ^^ b2 ^^ b3 ^^ b4 ^^ b5 ^^ b6 ^^ b7)) =
    decide (([b0, b1, b2, b3, b4, b5, b6, b7].countP id) % 2 = 0) := by decide
  rw [parity, h]
  rfl

/-- ZF, SF and PF of a result (R60). -/
theorem Flags.szp_spec {w : Nat} (f : Flags) (r : BitVec w) :
    (f.szp r).zf = decide (r = 0#w) ∧ (f.szp r).sf = r.getLsbD (w - 1) ∧
      (f.szp r).pf = decide (((List.range 8).countP fun k => r.getLsbD k) % 2 = 0) := by
  refine ⟨rfl, r.msb_eq_getLsbD_last, ?_⟩
  have hlow : ∀ k ∈ List.range 8, (r.setWidth 8).getLsbD k = r.getLsbD k := fun k hk => by
    simp [List.mem_range.mp hk]
  rw [Flags.szp, parity_eq_countP, List.countP_congr fun k hk => by rw [hlow k hk]]

/-! ## ADD, ADC, SUB and SBB (R304, R305, R316, R317) -/

theorem aluAdd_does (w : Nat) : Does (aluAdd w) (addRel (fun _ => false) w) := fun a b _ =>
  ⟨_, _, _, rfl, ⟨addResult_eq a b false, rfl⟩, rfl, rfl⟩

theorem aluAdc_does (w : Nat) : Does (aluAdc w) (addRel (fun f => f.cf) w) := fun a b s =>
  ⟨_, _, _, rfl, ⟨addResult_eq a b s.flags.cf, rfl⟩, rfl, rfl⟩

theorem aluSub_does (w : Nat) : Does (aluSub w) (subRel (fun _ => false) w) := fun _ _ _ =>
  ⟨_, _, _, rfl, ⟨rfl, rfl⟩, rfl, rfl⟩

theorem aluSbb_does (w : Nat) : Does (aluSbb w) (subRel (fun f => f.cf) w) := fun _ _ _ =>
  ⟨_, _, _, rfl, ⟨rfl, rfl⟩, rfl, rfl⟩

/-- The forms r/m,imm whose immediate has the width of the operand. -/
theorem formRmImm_full {R : BinRel} {w : Nat} {op : Binary w} {con : RM → BitVec w → Instr} (hd : Does op (R w))
    (hc : ∀ rm imm s, exec (con rm imm) s = runSeq (opRmImm w op rm imm) s) : FormRmImm R w w con :=
  formRmImm hd fun rm imm s => by rw [BitVec.signExtend_eq, hc]

/-- Settles O1: every form runs its operation, whose flags have their arithmetic meaning; a difference is the sum with
the complement. -/
theorem addSubResult : Obligations.AddSubResult := by
  refine ⟨?adds, ?subs, ?flags⟩
  case adds =>
    exact
      ⟨formAccImm (aluAdd_does 8) fun _ _ => rfl, formAccImm (aluAdd_does 16) fun _ _ => rfl,
       formAccImm (aluAdd_does 32) fun _ _ => rfl, formRmImm_full (aluAdd_does 8) fun _ _ _ => rfl,
       formRmImm_full (aluAdd_does 16) fun _ _ _ => rfl, formRmImm_full (aluAdd_does 32) fun _ _ _ => rfl,
       formRmImm (aluAdd_does 16) fun _ _ _ => rfl, formRmImm (aluAdd_does 32) fun _ _ _ => rfl,
       formRmReg (aluAdd_does 8) fun _ _ _ => rfl, formRmReg (aluAdd_does 16) fun _ _ _ => rfl,
       formRmReg (aluAdd_does 32) fun _ _ _ => rfl, formRegRm (aluAdd_does 8) fun _ _ _ => rfl,
       formRegRm (aluAdd_does 16) fun _ _ _ => rfl, formRegRm (aluAdd_does 32) fun _ _ _ => rfl,
       formAccImm (aluAdc_does 8) fun _ _ => rfl, formAccImm (aluAdc_does 16) fun _ _ => rfl,
       formAccImm (aluAdc_does 32) fun _ _ => rfl, formRmImm_full (aluAdc_does 8) fun _ _ _ => rfl,
       formRmImm_full (aluAdc_does 16) fun _ _ _ => rfl, formRmImm_full (aluAdc_does 32) fun _ _ _ => rfl,
       formRmImm (aluAdc_does 16) fun _ _ _ => rfl, formRmImm (aluAdc_does 32) fun _ _ _ => rfl,
       formRmReg (aluAdc_does 8) fun _ _ _ => rfl, formRmReg (aluAdc_does 16) fun _ _ _ => rfl,
       formRmReg (aluAdc_does 32) fun _ _ _ => rfl, formRegRm (aluAdc_does 8) fun _ _ _ => rfl,
       formRegRm (aluAdc_does 16) fun _ _ _ => rfl, formRegRm (aluAdc_does 32) fun _ _ _ => rfl⟩
  case subs =>
    exact
      ⟨formAccImm (aluSub_does 8) fun _ _ => rfl, formAccImm (aluSub_does 16) fun _ _ => rfl,
       formAccImm (aluSub_does 32) fun _ _ => rfl, formRmImm_full (aluSub_does 8) fun _ _ _ => rfl,
       formRmImm_full (aluSub_does 16) fun _ _ _ => rfl, formRmImm_full (aluSub_does 32) fun _ _ _ => rfl,
       formRmImm (aluSub_does 16) fun _ _ _ => rfl, formRmImm (aluSub_does 32) fun _ _ _ => rfl,
       formRmReg (aluSub_does 8) fun _ _ _ => rfl, formRmReg (aluSub_does 16) fun _ _ _ => rfl,
       formRmReg (aluSub_does 32) fun _ _ _ => rfl, formRegRm (aluSub_does 8) fun _ _ _ => rfl,
       formRegRm (aluSub_does 16) fun _ _ _ => rfl, formRegRm (aluSub_does 32) fun _ _ _ => rfl,
       formAccImm (aluSbb_does 8) fun _ _ => rfl, formAccImm (aluSbb_does 16) fun _ _ => rfl,
       formAccImm (aluSbb_does 32) fun _ _ => rfl, formRmImm_full (aluSbb_does 8) fun _ _ _ => rfl,
       formRmImm_full (aluSbb_does 16) fun _ _ _ => rfl, formRmImm_full (aluSbb_does 32) fun _ _ _ => rfl,
       formRmImm (aluSbb_does 16) fun _ _ _ => rfl, formRmImm (aluSbb_does 32) fun _ _ _ => rfl,
       formRmReg (aluSbb_does 8) fun _ _ _ => rfl, formRmReg (aluSbb_does 16) fun _ _ _ => rfl,
       formRmReg (aluSbb_does 32) fun _ _ _ => rfl, formRegRm (aluSbb_does 8) fun _ _ _ => rfl,
       formRegRm (aluSbb_does 16) fun _ _ _ => rfl, formRegRm (aluSbb_does 32) fun _ _ _ => rfl⟩
  case flags =>
    intro w f a b c hw
    have h4 : 4 < w := by omega
    have hborrow : decide (a.toNat < b.toNat + c.toNat) = decide ((a.toNat : Int) - b.toNat - c.toNat < 0) := by
      simp only [decide_eq_decide]
      omega
    refine ⟨addResult_toNat a b c, rfl, rfl, Flags.add_af_eq_bit4 h4 f a b c, (Flags.add_signed (by omega) f a b c).1,
      subResult_toNat a b c, hborrow, rfl, Flags.sub_af_eq_bit4 h4 f a b c, (Flags.sub_signed h4 f a b c).1, ?_⟩
    intro v hv
    simp only [List.mem_cons, List.not_mem_nil, or_false] at hv
    rcases hv with rfl | rfl
    · exact Flags.szp_spec f _
    · exact Flags.szp_spec f _

/-! ## CMP and TEST (R306; 42_logical_shift_rotate_bit_byte.md R355) -/

theorem aluLogic_does (op : ∀ w : Nat, BitVec w → BitVec w → BitVec w) (w : Nat) :
    Does (aluLogic w (op w)) (logicRel op w) := fun _ _ _ =>
  ⟨_, _, _, rfl, ⟨rfl, _, rfl⟩, rfl, rfl⟩

theorem aluAnd_does (w : Nat) : Does (aluAnd w) (logicRel (fun _ a b => a &&& b) w) :=
  aluLogic_does (fun _ a b => a &&& b) w

/-- The comparing forms r/m,imm whose immediate has the width of the operand. -/
theorem testRmImm_full {R : BinRel} {w : Nat} {op : Binary w} {con : RM → BitVec w → Instr} (hd : Does op (R w))
    (hc : ∀ rm imm s, exec (con rm imm) s = runSeq (testRmImm w op rm imm) s) : TestRmImm R w w con :=
  testRmImm_form hd fun rm imm s => by rw [BitVec.signExtend_eq, hc]

/-- After a comparison CF is the unsigned order (R62). -/
theorem Flags.cmp_cf {w : Nat} (f : Flags) (a b : BitVec w) : (f.sub a b false).cf = decide (a.toNat < b.toNat) := rfl

/-- After a comparison ZF is equality. -/
theorem Flags.cmp_zf {w : Nat} (f : Flags) (a b : BitVec w) : (f.sub a b false).zf = decide (a = b) := by
  have hz : (f.sub a b false).zf = (a - b == 0#w) := by simp [Flags.sub, Flags.szp, subResult]
  rw [hz, Bool.beq_eq_decide_eq, decide_eq_decide, BitVec.sub_eq_iff_eq_add, BitVec.zero_add]

/-- After a comparison SF and OF differ exactly where the signed order holds. -/
theorem Flags.cmp_sf_xor_ofl {w : Nat} (hw : 4 < w) (f : Flags) (a b : BitVec w) :
    ((f.sub a b false).sf ^^ (f.sub a b false).ofl) = decide (a.toInt < b.toInt) := by
  rw [(Flags.sub_signed hw f a b false).2, decide_eq_decide, Bool.toNat_false]
  omega

/-- Settles O2: every comparing form runs its operation, and the conditions combine CF, ZF and SF ≠ OF. -/
theorem compareAndTest : Obligations.CompareAndTest := by
  refine ⟨?forms, ?orders⟩
  case forms =>
    exact
      ⟨testAccImm_form (aluSub_does 8) fun _ _ => rfl, testAccImm_form (aluSub_does 16) fun _ _ => rfl,
       testAccImm_form (aluSub_does 32) fun _ _ => rfl, testRmImm_full (aluSub_does 8) fun _ _ _ => rfl,
       testRmImm_full (aluSub_does 16) fun _ _ _ => rfl, testRmImm_full (aluSub_does 32) fun _ _ _ => rfl,
       testRmImm_form (aluSub_does 16) fun _ _ _ => rfl, testRmImm_form (aluSub_does 32) fun _ _ _ => rfl,
       testRmReg_form (aluSub_does 8) fun _ _ _ => rfl, testRmReg_form (aluSub_does 16) fun _ _ _ => rfl,
       testRmReg_form (aluSub_does 32) fun _ _ _ => rfl, testRegRm_form (aluSub_does 8) fun _ _ _ => rfl,
       testRegRm_form (aluSub_does 16) fun _ _ _ => rfl, testRegRm_form (aluSub_does 32) fun _ _ _ => rfl,
       testAccImm_form (aluAnd_does 8) fun _ _ => rfl, testAccImm_form (aluAnd_does 16) fun _ _ => rfl,
       testAccImm_form (aluAnd_does 32) fun _ _ => rfl, testRmImm_full (aluAnd_does 8) fun _ _ _ => rfl,
       testRmImm_full (aluAnd_does 16) fun _ _ _ => rfl, testRmImm_full (aluAnd_does 32) fun _ _ _ => rfl,
       testRmReg_form (aluAnd_does 8) fun _ _ _ => rfl, testRmReg_form (aluAnd_does 16) fun _ _ _ => rfl,
       testRmReg_form (aluAnd_does 32) fun _ _ _ => rfl⟩
  case orders =>
    intro w f a b hw g
    have hcf : g.cf = decide (a.toNat < b.toNat) := Flags.cmp_cf f a b
    have hzf : g.zf = decide (a = b) := Flags.cmp_zf f a b
    have hlt : (g.sf ^^ g.ofl) = decide (a.toInt < b.toInt) := Flags.cmp_sf_xor_ofl (by omega) f a b
    have hnat : a = b ↔ a.toNat = b.toNat := BitVec.toNat_inj.symm
    have hint : a = b ↔ a.toInt = b.toInt := BitVec.toInt_inj.symm
    refine ⟨hcf, ?ae, hzf, ?ne, ?be, ?nbe, hlt, ?ge, ?le, ?gt⟩
    case ae =>
      show (!g.cf) = _
      rw [hcf, ← decide_not, decide_eq_decide, Nat.not_lt]
    case ne =>
      show (!g.zf) = _
      rw [hzf, decide_not]
    case be =>
      show (g.cf || g.zf) = _
      rw [hcf, hzf, ← Bool.decide_or, decide_eq_decide, hnat]
      omega
    case nbe =>
      show (!(g.cf || g.zf)) = _
      rw [hcf, hzf, ← Bool.decide_or, ← decide_not, decide_eq_decide, hnat]
      omega
    case ge =>
      show (!(g.sf ^^ g.ofl)) = _
      rw [hlt, ← decide_not, decide_eq_decide, Int.not_lt]
    case le =>
      show ((g.sf ^^ g.ofl) || g.zf) = _
      rw [hlt, hzf, ← Bool.decide_or, decide_eq_decide, hint]
      omega
    case gt =>
      show (!((g.sf ^^ g.ofl) || g.zf)) = _
      rw [hlt, hzf, ← Bool.decide_or, ← decide_not, decide_eq_decide, hint]
      omega

end Sys2Proof.Machine
end

section
/-! SUPPORT. Multiplication, division and decimal adjustment (41_binary_and_decimal_arithmetic.md R300 to R303, R307,
R308, R310 to R312, R314): what each shared operation does, then the rows. -/

namespace Sys2Proof.Machine

/-! ## From a meaning to its instruction -/

/-- An instruction whose meaning changes general registers, flags and the count of free values alone. -/
theorem writesRegs_of_run {i : Instr} {body : M Unit} {s : State} {g : Gprs} {f : Flags} {n : Nat}
    (hc : exec i s = runSeq body s)
    (h : body s.noWindow = .ok ((), { s.noWindow with gpr := g, flags := f, fresh := n })) : WritesRegs i s g f :=
  ⟨n, hc.trans (runSeq_finish (t := { s.noWindow with gpr := g, flags := f, fresh := n }) h rfl rfl)⟩

/-- An instruction whose meaning stops. -/
theorem takes_of_run {i : Instr} {body : M Unit} {s : State} {e : Stop} (hc : exec i s = runSeq body s)
    (h : body s.noWindow = .error e) : Takes i s e :=
  hc.trans (runSeq_error h)

/-- The reading of an r/m operand when the instruction runs. -/
theorem readRM_noWindow {s : State} {w : Nat} {rm : RM} (h : s.canRead w rm) :
    readRM w rm s.noWindow = .ok (s.rmVal w rm, s.noWindow) := by
  rw [readRM_ok (State.canRead_noWindow h), State.rmVal_noWindow]

/-! ## Multiplication (R312, R314) -/

@[simp] theorem getPair_apply (w : Nat) (s : State) : getPair w s = .ok (s.gpr.pairVal w, s) := rfl

@[simp] theorem setPair_apply (w : Nat) (v : BitVec (2 * w)) (s : State) :
    setPair w v s = .ok ((), { s with gpr := s.gpr.putPair w v }) := by
  unfold setPair Gprs.putPair
  split <;> rfl

@[simp] theorem setQuotient_apply (w : Nat) (q r : BitVec w) (s : State) :
    setQuotient w q r s = .ok ((), { s with gpr := s.gpr.putQuotient w q r }) := rfl

@[simp] theorem undefStatus_apply (s : State) : undefStatus s =
    .ok ((), { s with flags := s.flags.setStatus (Config.freeBits 6 s.fresh), fresh := s.fresh + 1 }) := rfl

@[simp] theorem mulFlags_apply (b : Bool) (s : State) : mulFlags b s =
    .ok ((), { s with flags := { s.flags.setStatus (Config.freeBits 6 s.fresh) with cf := b, ofl := b },
                      fresh := s.fresh + 1 }) := rfl

/-- CF and OF tell that a signed product does not fit (R312, D33). -/
theorem mulOverflow_eq {w : Nat} (hw : 0 < w) (p : Int) : mulOverflow w p = !fitsSigned w p := by
  have hfit : p = (BitVec.ofInt w p).toInt ↔ -(2 ^ (w - 1) : Int) ≤ p ∧ p < (2 ^ (w - 1) : Int) := by
    constructor
    · intro h
      rw [h]
      exact ⟨BitVec.le_toInt _, BitVec.toInt_lt⟩
    · rintro ⟨hlo, hhi⟩
      exact (BitVec.toInt_ofInt_eq_self hw hlo hhi).symm
  unfold mulOverflow fitsSigned
  rw [← Bool.decide_and, bne, Bool.beq_eq_decide_eq, decide_eq_decide.mpr hfit]

/-- A multiplication whose meaning sets registers and then CF and OF. -/
theorem mulForm_of_run {i : Instr} {body : M Unit} {s : State} {g : Gprs} {b : Bool} (hc : exec i s = runSeq body s)
    (h : body s.noWindow = mulFlags b { s.noWindow with gpr := g }) :
    ∃ f, MulFlags s.flags f b ∧ WritesRegs i s g f :=
  ⟨_, ⟨_, rfl⟩, writesRegs_of_run hc (h.trans (mulFlags_apply b _))⟩

theorem mulForm {w : Nat} {con : RM → Instr} (hc : ∀ rm s, exec (con rm) s = runSeq (mulOp w rm) s) :
    MulForm w con := by
  intro s rm h
  refine mulForm_of_run (hc rm s) ?_
  unfold mulOp
  rw [M.bind_ok (readRM_noWindow h), M.bind_ok (getReg_apply _ _ _), M.bind_ok (setPair_apply _ _ _)]
  rfl

theorem imulForm1 {w : Nat} (hw : 0 < w) {con : RM → Instr} (hc : ∀ rm s, exec (con rm) s = runSeq (imulOp1 w rm) s) :
    ImulForm1 w con := by
  intro s rm h
  refine mulForm_of_run (hc rm s) ?_
  unfold imulOp1
  rw [M.bind_ok (readRM_noWindow h), M.bind_ok (getReg_apply _ _ _), M.bind_ok (setPair_apply _ _ _), mulOverflow_eq hw]
  rfl

theorem imulForm2 {w : Nat} (hw : 0 < w) {con : Reg → RM → Instr}
    (hc : ∀ r rm s, exec (con r rm) s = runSeq (imulOp2 w r rm) s) : ImulForm2 w con := by
  intro s r rm h
  refine mulForm_of_run (hc r rm s) ?_
  unfold imulOp2
  rw [M.bind_ok (readRM_noWindow h), M.bind_ok (getReg_apply _ _ _), M.bind_ok (setReg_apply _ _ _ _),
    mulOverflow_eq hw]
  rfl

theorem imulForm3 {w n : Nat} (hw : 0 < w) (hn : n ≤ w) {con : Reg → RM → BitVec n → Instr}
    (hc : ∀ r rm imm s, exec (con r rm imm) s = runSeq (imulOp3 w r rm (imm.signExtend w)) s) : ImulForm3 w n con := by
  intro s r rm imm h
  refine mulForm_of_run (hc r rm imm s) ?_
  unfold imulOp3
  rw [M.bind_ok (readRM_noWindow h), M.bind_ok (setReg_apply _ _ _ _), mulOverflow_eq hw,
    BitVec.toInt_signExtend_of_le hn]
  rfl

/-- The immediate has the width of the operands. -/
theorem imulForm3_full {w : Nat} (hw : 0 < w) {con : Reg → RM → BitVec w → Instr}
    (hc : ∀ r rm imm s, exec (con r rm imm) s = runSeq (imulOp3 w r rm imm) s) : ImulForm3 w w con :=
  imulForm3 hw (Nat.le_refl w) fun r rm imm s => by rw [BitVec.signExtend_eq, hc]

/-! ## Division (R310, R311) -/

/-- A dividend by its quotient truncated toward 0 and its remainder. -/
theorem tdiv_eq_of_remainder {d q b r : Int} (hd : d = q * b + r) (hr : r.natAbs < b.natAbs) (hs : 0 ≤ r * d) :
    d.tdiv b = q := by
  have hb : b ≠ 0 := by rintro rfl; exact Nat.not_lt_zero _ hr
  have hd' : r + b * q = d := by rw [hd, Int.mul_comm, Int.add_comm]
  have hsign : (0 ≤ r ∧ 0 ≤ d) ∨ (r ≤ 0 ∧ d ≤ 0) := by
    rcases Int.lt_trichotomy r 0 with hneg | hzero | hpos
    · exact .inr ⟨Int.le_of_lt hneg, Int.nonpos_of_mul_nonneg_right hs hneg⟩
    · omega
    · exact .inl ⟨Int.le_of_lt hpos, Int.nonneg_of_mul_nonneg_right hs hpos⟩
  rcases hsign with ⟨hr0, hd0⟩ | ⟨hr0, hd0⟩
  · exact ((Int.tdiv_tmod_unique hd0 hb).mpr ⟨hd', hr0, by omega⟩).1
  · exact ((Int.tdiv_tmod_unique' hd0 hb).mpr ⟨hd', by omega, hr0⟩).1

/-- The end of DIV and IDIV: #DE, or quotient and remainder written and the status flags undefined. -/
def divideOrStop (w : Nat) (error : Bool) (q r : BitVec w) : M Unit := do
  stopIf error excDE
  setQuotient w q r
  undefStatus

/-- DIV ends as its operands tell. -/
theorem divOp_eq {s : State} {w : Nat} {rm : RM} (h : s.canRead w rm) :
    divOp w rm s.noWindow = divideOrStop w
      (s.rmVal w rm == 0#w || decide (2 ^ w ≤ s.gpr.pairVal w / (s.rmVal w rm).toNat))
      (BitVec.ofNat w (s.gpr.pairVal w / (s.rmVal w rm).toNat))
      (BitVec.ofNat w (s.gpr.pairVal w % (s.rmVal w rm).toNat)) s.noWindow := by
  unfold divOp
  rw [M.bind_ok (readRM_noWindow h), M.bind_ok (getPair_apply w _)]
  rfl

/-- The quotient of IDIV. -/
def idivQuotient (s : State) (w : Nat) (rm : RM) : Int :=
  (BitVec.ofNat (2 * w) (s.gpr.pairVal w)).toInt.tdiv (s.rmVal w rm).toInt

/-- IDIV ends as its operands tell. -/
theorem idivOp_eq {s : State} {w : Nat} {rm : RM} (h : s.canRead w rm) :
    idivOp w rm s.noWindow = divideOrStop w (s.rmVal w rm == 0#w || !fitsSigned w (idivQuotient s w rm))
      (BitVec.ofInt w (idivQuotient s w rm))
      (BitVec.ofInt w ((BitVec.ofNat (2 * w) (s.gpr.pairVal w)).toInt - idivQuotient s w rm * (s.rmVal w rm).toInt))
      s.noWindow := by
  have hfit : (!fitsSigned w (idivQuotient s w rm)) = (decide (idivQuotient s w rm < -(2 ^ (w - 1) : Int)) ||
      decide ((2 ^ (w - 1) : Int) ≤ idivQuotient s w rm)) := by
    simp only [fitsSigned, Bool.not_and, ← decide_not, Int.not_le, Int.not_lt]
  rw [hfit, ← Bool.or_assoc]
  unfold idivOp
  rw [M.bind_ok (readRM_noWindow h), M.bind_ok (getPair_apply w _)]
  rfl

theorem writesRegs_of_divide {i : Instr} {body : M Unit} {s : State} {w : Nat} {q r : BitVec w}
    (hc : exec i s = runSeq body s) (h : body s.noWindow = divideOrStop w false q r s.noWindow) :
    ∃ u, WritesRegs i s (s.gpr.putQuotient w q r) (s.flags.setStatus u) :=
  ⟨Config.freeBits 6 s.fresh, writesRegs_of_run hc (n := s.fresh + 1) (h.trans rfl)⟩

theorem takes_of_divide {i : Instr} {body : M Unit} {s : State} {w : Nat} {q r : BitVec w}
    (hc : exec i s = runSeq body s) (h : body s.noWindow = divideOrStop w true q r s.noWindow) : Takes i s excDE :=
  takes_of_run hc (h.trans rfl)

theorem divForm {w : Nat} {con : RM → Instr} (hc : ∀ rm s, exec (con rm) s = runSeq (divOp w rm) s) :
    DivForm w con := by
  intro s rm q r h hd hr hq
  have hpos : 0 < (s.rmVal w rm).toNat := by omega
  obtain ⟨hquot, hrem⟩ : s.gpr.pairVal w / (s.rmVal w rm).toNat = q ∧ s.gpr.pairVal w % (s.rmVal w rm).toNat = r :=
    (Nat.div_mod_unique hpos).mpr ⟨by rw [hd, Nat.mul_comm, Nat.add_comm], hr⟩
  have hne : s.rmVal w rm ≠ 0#w := fun h0 => by simp [h0] at hpos
  have hrun := divOp_eq h
  rw [hquot, hrem, beq_false_of_ne hne, decide_eq_false (Nat.not_le.mpr hq)] at hrun
  exact writesRegs_of_divide (hc rm s) hrun

theorem divError {w : Nat} {con : RM → Instr} (hc : ∀ rm s, exec (con rm) s = runSeq (divOp w rm) s) :
    DivError w con := by
  intro s rm h hde
  have hstop : (s.rmVal w rm == 0#w || decide (2 ^ w ≤ s.gpr.pairVal w / (s.rmVal w rm).toNat)) = true := by
    rw [Bool.or_eq_true, beq_iff_eq, decide_eq_true_eq, Decidable.or_iff_not_imp_left]
    intro hne
    have hpos : (s.rmVal w rm).toNat ≠ 0 := fun h0 => hne (BitVec.eq_of_toNat_eq h0)
    exact (Nat.le_div_iff_mul_le (by omega)).mpr (hde.resolve_left hpos)
  have hrun := divOp_eq h
  rw [hstop] at hrun
  exact takes_of_divide (hc rm s) hrun

theorem idivForm {w : Nat} {con : RM → Instr} (hc : ∀ rm s, exec (con rm) s = runSeq (idivOp w rm) s) :
    IdivForm w con := by
  intro s rm q r h hd hr hs hq
  have hquot : idivQuotient s w rm = q := tdiv_eq_of_remainder hd hr hs
  have hne : s.rmVal w rm ≠ 0#w := fun h0 => by simp [h0] at hr
  have hrun := idivOp_eq h
  have hrem : (BitVec.ofNat (2 * w) (s.gpr.pairVal w)).toInt - q * (s.rmVal w rm).toInt = r := by omega
  rw [hquot, hrem, hq, beq_false_of_ne hne] at hrun
  exact writesRegs_of_divide (hc rm s) hrun

theorem idivError {w : Nat} {con : RM → Instr} (hc : ∀ rm s, exec (con rm) s = runSeq (idivOp w rm) s) :
    IdivError w con := by
  intro s rm h hde
  have hstop : (s.rmVal w rm == 0#w || !fitsSigned w (idivQuotient s w rm)) = true := by
    rw [Bool.or_eq_true, beq_iff_eq, Bool.not_eq_true']
    exact hde.imp_left fun h0 => BitVec.eq_of_toInt_eq (by rw [h0, BitVec.toInt_zero])
  have hrun := idivOp_eq h
  rw [hstop] at hrun
  exact takes_of_divide (hc rm s) hrun

/-- Settles O4: every row runs the operation of its form at its width. -/
theorem mulDivResult : Obligations.MulDivResult := by
  refine ⟨?products, ?quotients, ?errors⟩
  case products =>
    exact ⟨mulForm fun _ _ => rfl, mulForm fun _ _ => rfl, mulForm fun _ _ => rfl,
      imulForm1 (by decide) fun _ _ => rfl, imulForm1 (by decide) fun _ _ => rfl, imulForm1 (by decide) fun _ _ => rfl,
      imulForm2 (by decide) fun _ _ _ => rfl, imulForm2 (by decide) fun _ _ _ => rfl,
      imulForm3 (by decide) (by decide) fun _ _ _ _ => rfl, imulForm3 (by decide) (by decide) fun _ _ _ _ => rfl,
      imulForm3_full (by decide) fun _ _ _ _ => rfl, imulForm3_full (by decide) fun _ _ _ _ => rfl⟩
  case quotients =>
    exact ⟨divForm fun _ _ => rfl, divForm fun _ _ => rfl, divForm fun _ _ => rfl,
      idivForm fun _ _ => rfl, idivForm fun _ _ => rfl, idivForm fun _ _ => rfl⟩
  case errors =>
    exact ⟨divError fun _ _ => rfl, divError fun _ _ => rfl, divError fun _ _ => rfl,
      idivError fun _ _ => rfl, idivError fun _ _ => rfl, idivError fun _ _ => rfl⟩

/-! ## Decimal adjustment (R300 to R303, R307, R308) -/

/-- The high digit that DAA tests, masked and by division. -/
theorem highDigit_toNat (b : Byte) : (b &&& 0xF0#8).toNat = b.toNat / 16 * 16 := by
  revert b
  decide

/-- AAA and AAS: the adjustment by `dl` and `dh`, where the low digit asks for it. -/
theorem writesRegs_asciiAdjust {i : Instr} {dl dh : Byte} {s : State} (hc : exec i s = runSeq (asciiAdjust dl dh) s) :
    let al := s.gpr.read 8 rA
    let ah := s.gpr.read 8 rAH
    let low := lowAdjust al s.flags.af
    ∃ u, WritesRegs i s
      ((s.gpr.write 8 rA ((if low then al + dl else al) &&& 0x0F#8)).write 8 rAH (if low then ah + dh else ah))
      { s.flags.setStatus u with af := low, cf := low } :=
  ⟨Config.freeBits 6 s.fresh, writesRegs_of_run (n := s.fresh + 1) hc rfl⟩

/-- AAM divides AL where its immediate is not 0. -/
theorem aamOp_apply {imm : Byte} (h : imm ≠ 0#8) (s : State) : aamOp imm s =
    decimalFlags (s.gpr.read 8 rA % imm)
      { s with gpr := (s.gpr.write 8 rAH (s.gpr.read 8 rA / imm)).write 8 rA (s.gpr.read 8 rA % imm) } := by
  unfold aamOp
  rw [beq_false_of_ne h, M.bind_ok (stopIf_false _ _)]
  rfl

/-- Settles O5: each instruction runs its rule on AL and AH. -/
theorem decimalResult : Obligations.DecimalResult := by
  intro s al ah low
  refine ⟨?aaa, ?aas, ?aad, ?aam, ?aamZero, ?daa, ?das⟩
  case aaa => exact writesRegs_asciiAdjust (dl := 6#8) (dh := 1#8) rfl
  case aas =>
    have hsub : ∀ x y : Byte, x - y = x + (0#8 - y) := fun x y => by rw [BitVec.zero_sub, BitVec.sub_eq_add_neg]
    rw [hsub al, hsub ah]
    exact writesRegs_asciiAdjust rfl
  case aad =>
    exact fun imm => ⟨Config.freeBits 6 s.fresh, writesRegs_of_run (n := s.fresh + 1) (body := aadOp imm) rfl rfl⟩
  case aam =>
    exact fun imm hne => ⟨Config.freeBits 6 s.fresh,
      writesRegs_of_run (n := s.fresh + 1) (body := aamOp imm) rfl ((aamOp_apply hne _).trans rfl)⟩
  case aamZero => exact takes_of_run (body := aamOp 0#8) rfl rfl
  case daa =>
    simp only [highDigit_toNat]
    exact ⟨(Config.freeBits 1 s.fresh).getLsbD 0, writesRegs_of_run (n := s.fresh + 1) (body := daaOp) rfl rfl⟩
  case das =>
    exact ⟨(Config.freeBits 1 s.fresh).getLsbD 0, writesRegs_of_run (n := s.fresh + 1) (body := dasOp) rfl rfl⟩

end Sys2Proof.Machine
end

section
/-! SUPPORT. Logic, shifts, rotates and bits (42_logical_shift_rotate_bit_byte.md R340 to R351, R353, R354, R356;
41_binary_and_decimal_arithmetic.md R309, R313, R315): what each shared operation does, then the rows. -/

namespace Sys2Proof.Machine

/-! ## From a shared operation on an r/m operand to its instruction -/

/-- A shared operation that reads an r/m operand and writes it back runs so from `s`, as the relation `R` says. -/
def RunsUpdate (body : M Unit) (s : State) (w : Nat) (rm : RM)
    (R : Flags → BitVec w → BitVec w → Flags → Prop) : Prop :=
  ∃ op : BitVec w → M (BitVec w), runSeq body s = runSeq (updateRM w rm op) s ∧ DoesUnary op fun f a _ v g => R f a v g

/-- An instruction that runs such an operation. -/
theorem RunsUpdate.writesRM {body : M Unit} {s : State} {w : Nat} {rm : RM}
    {R : Flags → BitVec w → BitVec w → Flags → Prop} (hr : RunsUpdate body s w rm R) {i : Instr}
    (hc : exec i s = runSeq body s) (h : s.canWrite w rm) :
    ∃ v f, R s.flags (s.rmVal w rm) v f ∧ WritesRM i s w rm v f := by
  obtain ⟨op, hrun, hd⟩ := hr
  obtain ⟨v, f, k, ho, hR, ha, hv⟩ := hd (s.rmVal w rm) 0#w s.noWindow
  exact ⟨v, f, hR, k, (hc.trans hrun).trans (runSeq_updateRM h ho ha hv), onlyRM_putRM s w rm v f k⟩

/-- A row with one r/m operand. -/
theorem formRm_of_runs {R : BinRel} {w : Nat} {body : RM → M Unit} {con : RM → Instr}
    (hr : ∀ rm s, RunsUpdate (body rm) s w rm fun f a => R w f a 0#w)
    (hc : ∀ rm s, exec (con rm) s = runSeq (body rm) s) : FormRm R w con :=
  fun s rm h => (hr rm s).writesRM (hc rm s) h

/-- A row with one register operand. -/
theorem formReg_of_runs {R : BinRel} {w : Nat} {body : RM → M Unit} {con : Reg → Instr}
    (hr : ∀ rm s, RunsUpdate (body rm) s w rm fun f a => R w f a 0#w)
    (hc : ∀ r s, exec (con r) s = runSeq (body (.reg r)) s) : FormReg R w con := by
  intro s r
  obtain ⟨v, f, hR, n, hrun, -⟩ := (hr (.reg r) s).writesRM (hc r s) trivial
  exact ⟨v, f, hR, n, hrun⟩

/-- An instruction that begins with the reading of a register. -/
theorem runSeq_getReg (w : Nat) (r : Reg) (f : BitVec w → M Unit) (s : State) :
    runSeq (getReg w r >>= f) s = runSeq (f (s.gpr.read w r)) s := rfl

/-! ## AND, OR, XOR, INC, DEC, NEG and NOT (R340, R348, R349, R356; 41_binary_and_decimal_arithmetic.md R309, R313,
R315) -/

theorem aluOr_does (w : Nat) : Does (aluOr w) (logicRel (fun _ a b => a ||| b) w) :=
  aluLogic_does (fun _ a b => a ||| b) w

theorem aluXor_does (w : Nat) : Does (aluXor w) (logicRel (fun _ a b => a ^^^ b) w) :=
  aluLogic_does (fun _ a b => a ^^^ b) w

/-- Without a carry the sum is the plain one. -/
theorem addResult_false {w : Nat} (a b : BitVec w) : addResult a b false = a + b := by simp [addResult_eq]

/-- Without a borrow the difference is the plain one. -/
theorem subResult_false {w : Nat} (a b : BitVec w) : subResult a b false = a - b := by simp [subResult]

theorem incOp_runs (w : Nat) (rm : RM) (s : State) : RunsUpdate (incOp w rm) s w rm fun f a => incRel w f a 0#w :=
  ⟨_, rfl, fun a _ _ => ⟨_, _, _, rfl, ⟨addResult_false a 1#w, rfl⟩, rfl, rfl⟩⟩

theorem decOp_runs (w : Nat) (rm : RM) (s : State) : RunsUpdate (decOp w rm) s w rm fun f a => decRel w f a 0#w :=
  ⟨_, rfl, fun a _ _ => ⟨_, _, _, rfl, ⟨subResult_false a 1#w, rfl⟩, rfl, rfl⟩⟩

theorem negOp_runs (w : Nat) (rm : RM) (s : State) : RunsUpdate (negOp w rm) s w rm fun f a => negRel w f a 0#w :=
  ⟨_, rfl, fun a _ _ =>
    ⟨_, _, _, rfl, ⟨(subResult_false 0#w a).trans (BitVec.zero_sub a), rfl⟩, rfl, rfl⟩⟩

theorem notOp_runs (w : Nat) (rm : RM) (s : State) : RunsUpdate (notOp w rm) s w rm fun f a => notRel w f a 0#w :=
  ⟨_, rfl, fun _ _ _ => ⟨_, _, _, rfl, ⟨rfl, rfl⟩, rfl, rfl⟩⟩

/-- Settles O3: every form runs its operation at its width. -/
theorem logicAndUnary : Obligations.LogicAndUnary := by
  refine ⟨?logic, ?unary⟩
  case logic =>
    exact
      ⟨formAccImm (aluAnd_does 8) fun _ _ => rfl, formAccImm (aluAnd_does 16) fun _ _ => rfl,
       formAccImm (aluAnd_does 32) fun _ _ => rfl, formRmImm_full (aluAnd_does 8) fun _ _ _ => rfl,
       formRmImm_full (aluAnd_does 16) fun _ _ _ => rfl, formRmImm_full (aluAnd_does 32) fun _ _ _ => rfl,
       formRmImm (aluAnd_does 16) fun _ _ _ => rfl, formRmImm (aluAnd_does 32) fun _ _ _ => rfl,
       formRmReg (aluAnd_does 8) fun _ _ _ => rfl, formRmReg (aluAnd_does 16) fun _ _ _ => rfl,
       formRmReg (aluAnd_does 32) fun _ _ _ => rfl, formRegRm (aluAnd_does 8) fun _ _ _ => rfl,
       formRegRm (aluAnd_does 16) fun _ _ _ => rfl, formRegRm (aluAnd_does 32) fun _ _ _ => rfl,
       formAccImm (aluOr_does 8) fun _ _ => rfl, formAccImm (aluOr_does 16) fun _ _ => rfl,
       formAccImm (aluOr_does 32) fun _ _ => rfl, formRmImm_full (aluOr_does 8) fun _ _ _ => rfl,
       formRmImm_full (aluOr_does 16) fun _ _ _ => rfl, formRmImm_full (aluOr_does 32) fun _ _ _ => rfl,
       formRmImm (aluOr_does 16) fun _ _ _ => rfl, formRmImm (aluOr_does 32) fun _ _ _ => rfl,
       formRmReg (aluOr_does 8) fun _ _ _ => rfl, formRmReg (aluOr_does 16) fun _ _ _ => rfl,
       formRmReg (aluOr_does 32) fun _ _ _ => rfl, formRegRm (aluOr_does 8) fun _ _ _ => rfl,
       formRegRm (aluOr_does 16) fun _ _ _ => rfl, formRegRm (aluOr_does 32) fun _ _ _ => rfl,
       formAccImm (aluXor_does 8) fun _ _ => rfl, formAccImm (aluXor_does 16) fun _ _ => rfl,
       formAccImm (aluXor_does 32) fun _ _ => rfl, formRmImm_full (aluXor_does 8) fun _ _ _ => rfl,
       formRmImm_full (aluXor_does 16) fun _ _ _ => rfl, formRmImm_full (aluXor_does 32) fun _ _ _ => rfl,
       formRmImm (aluXor_does 16) fun _ _ _ => rfl, formRmImm (aluXor_does 32) fun _ _ _ => rfl,
       formRmReg (aluXor_does 8) fun _ _ _ => rfl, formRmReg (aluXor_does 16) fun _ _ _ => rfl,
       formRmReg (aluXor_does 32) fun _ _ _ => rfl, formRegRm (aluXor_does 8) fun _ _ _ => rfl,
       formRegRm (aluXor_does 16) fun _ _ _ => rfl, formRegRm (aluXor_does 32) fun _ _ _ => rfl⟩
  case unary =>
    exact
      ⟨formRm_of_runs (incOp_runs 8) fun _ _ => rfl, formRm_of_runs (incOp_runs 16) fun _ _ => rfl,
       formRm_of_runs (incOp_runs 32) fun _ _ => rfl, formReg_of_runs (incOp_runs 16) fun _ _ => rfl,
       formReg_of_runs (incOp_runs 32) fun _ _ => rfl, formRm_of_runs (decOp_runs 8) fun _ _ => rfl,
       formRm_of_runs (decOp_runs 16) fun _ _ => rfl, formRm_of_runs (decOp_runs 32) fun _ _ => rfl,
       formReg_of_runs (decOp_runs 16) fun _ _ => rfl, formReg_of_runs (decOp_runs 32) fun _ _ => rfl,
       formRm_of_runs (negOp_runs 8) fun _ _ => rfl, formRm_of_runs (negOp_runs 16) fun _ _ => rfl,
       formRm_of_runs (negOp_runs 32) fun _ _ => rfl, formRm_of_runs (notOp_runs 8) fun _ _ => rfl,
       formRm_of_runs (notOp_runs 16) fun _ _ => rfl, formRm_of_runs (notOp_runs 32) fun _ _ => rfl⟩

/-! ## The forms of a count: 1, CL, or an immediate (R350, R351, R353, R354) -/

theorem countOne {R : CountRel} {w : Nat} {op : RM → Byte → M Unit} {con : RM → Instr}
    (hr : ∀ rm count s, RunsUpdate (op rm count) s w rm (R w (maskCount count)))
    (hc : ∀ rm s, exec (con rm) s = runSeq (op rm 1#8) s) : CountOne R w con :=
  fun s rm h => (hr rm 1#8 s).writesRM (hc rm s) h

theorem countCl {R : CountRel} {w : Nat} {op : RM → Byte → M Unit} {con : RM → Instr}
    (hr : ∀ rm count s, RunsUpdate (op rm count) s w rm (R w (maskCount count)))
    (hc : ∀ rm s, exec (con rm) s = runSeq (withCl (op rm)) s) : CountCl R w con :=
  fun s rm h => (hr rm (s.gpr.read 8 rC) s).writesRM (hc rm s) h

theorem countImm {R : CountRel} {w : Nat} {op : RM → Byte → M Unit} {con : RM → Byte → Instr}
    (hr : ∀ rm count s, RunsUpdate (op rm count) s w rm (R w (maskCount count)))
    (hc : ∀ rm imm s, exec (con rm imm) s = runSeq (op rm imm) s) : CountImm R w con :=
  fun s rm imm h => (hr rm imm s).writesRM (hc rm imm s) h

theorem doubleCl {R : DoubleRel} {w : Nat} {op : RM → Reg → Byte → M Unit} {con : RM → Reg → Instr}
    (hr : ∀ rm r count s, RunsUpdate (op rm r count) s w rm (R w (maskCount count) (s.gpr.read w r)))
    (hc : ∀ rm r s, exec (con rm r) s = runSeq (withCl (op rm r)) s) : DoubleCl R w con :=
  fun s rm r h => (hr rm r (s.gpr.read 8 rC) s).writesRM (hc rm r s) h

theorem doubleImm {R : DoubleRel} {w : Nat} {op : RM → Reg → Byte → M Unit} {con : RM → Reg → Byte → Instr}
    (hr : ∀ rm r count s, RunsUpdate (op rm r count) s w rm (R w (maskCount count) (s.gpr.read w r)))
    (hc : ∀ rm r imm s, exec (con rm r imm) s = runSeq (op rm r imm) s) : DoubleImm R w con :=
  fun s rm r imm h => (hr rm r imm s).writesRM (hc rm r imm s) h

/-- An operation with a count: 0 writes the operand back as it is, and another count does what `rest` does. -/
theorem RunsUpdate.of_count {body : M Unit} {s : State} {w : Nat} {rm : RM} {count : Byte}
    {R : Flags → BitVec w → BitVec w → Flags → Prop} (rest : BitVec w → M (BitVec w))
    (hrun : runSeq body s = runSeq (updateRM w rm fun d => if maskCount count = 0 then pure d else rest d) s)
    (hzero : maskCount count = 0 → ∀ f d, R f d d f)
    (hrest : maskCount count ≠ 0 → DoesUnary rest fun f d _ v g => R f d v g) : RunsUpdate body s w rm R := by
  by_cases hc : maskCount count = 0
  case pos =>
    simp only [if_pos hc] at hrun
    exact ⟨_, hrun, fun d _ t => ⟨d, _, _, rfl, hzero hc t.flags d, rfl, rfl⟩⟩
  case neg =>
    simp only [if_neg hc] at hrun
    exact ⟨rest, hrun, hrest hc⟩

/-! ## Shifts (R351) -/

/-- The flags that a shift sets are those of `ShiftFlags`; AC and VM stay. -/
theorem shiftFlags_does {w : Nat} (c : Nat) (v : BitVec w) (cf : Option Bool) (ofl : Bool) (s : State) :
    ∃ g n, shiftFlags v cf (if c = 1 then some ofl else none) s = .ok ((), { s with flags := g, fresh := n }) ∧
      ShiftFlags c v cf ofl s.flags g ∧ g.ac = s.flags.ac ∧ g.vm = s.flags.vm := by
  refine ⟨_, _, rfl, ⟨(Config.freeBits 6 s.fresh).getLsbD 2, (Config.freeBits 6 s.fresh).getLsbD 0,
    (Config.freeBits 6 s.fresh).getLsbD 5, ?_⟩, rfl, rfl⟩
  split <;> rfl

/-- A CF that is given is one of the values where any is allowed. -/
theorem ShiftFlags.anyCf {w c : Nat} {v : BitVec w} {cf : Option Bool} {ofl : Bool} {f g : Flags}
    (h : ShiftFlags c v cf ofl f g) : ShiftFlags c v none ofl f g := by
  obtain ⟨a, b, o, rfl⟩ := h
  exact ⟨a, cf.getD b, o, rfl⟩

/-- What a shift function computes, with its flags, is what a relation asks. -/
structure ShiftMeets (F : ∀ w : Nat, Shift w) (R : CountRel) : Prop where
  zero : ∀ (w : Nat) (f : Flags) (d : BitVec w), R w 0 f d d f
  pos : ∀ (w c : Nat) (f : Flags) (d : BitVec w) (g : Flags), c ≠ 0 →
    ShiftFlags c (F w c d).1 (F w c d).2.1 (F w c d).2.2 f g → R w c f d (F w c d).1 g

theorem shiftOp_runs {F : ∀ w : Nat, Shift w} {R : CountRel} (hF : ShiftMeets F R) (w : Nat) (rm : RM) (count : Byte)
    (s : State) : RunsUpdate (shiftOp w (F w) rm count) s w rm (R w (maskCount count)) := by
  refine .of_count (count := count) _ rfl (fun hc f d => ?zero) fun hc d _ t => ?pos
  case zero => rw [hc]; exact hF.zero w f d
  case pos =>
    obtain ⟨g, n, hrun, hflags, ha, hv⟩ := shiftFlags_does (maskCount count) (F w (maskCount count) d).1
      (F w (maskCount count) d).2.1 (F w (maskCount count) d).2.2 t
    exact ⟨_, g, n, (M.bind_ok hrun).trans rfl, hF.pos w _ t.flags d g hc hflags, ha, hv⟩

theorem shlFn_meets : ShiftMeets shlFn shlRel where
  zero _ _ _ := ⟨rfl, rfl⟩
  pos w c f d g hc h := by
    unfold shlRel
    rw [if_neg hc, ← BitVec.msb_eq_getLsbD_last]
    refine ⟨rfl, ?_⟩
    split
    case isTrue hlt => simpa only [shlFn, if_pos (Nat.le_of_lt hlt)] using h
    case isFalse => exact h.anyCf

theorem shrFn_meets : ShiftMeets shrFn shrRel where
  zero _ _ _ := ⟨rfl, rfl⟩
  pos w c f d g hc h := by
    unfold shrRel
    rw [if_neg hc]
    refine ⟨rfl, ?_⟩
    split
    case isTrue hlt => simpa only [shrFn, if_pos (Nat.le_of_lt hlt)] using h
    case isFalse => exact h.anyCf

/-- An arithmetic right shift is the floor of the signed quotient. -/
theorem sshiftRight_eq_ofInt_div {w : Nat} (d : BitVec w) (c : Nat) :
    d.sshiftRight c = BitVec.ofInt w (d.toInt / 2 ^ c) := by
  rw [BitVec.sshiftRight_eq, Int.shiftRight_eq_div_pow]
  norm_cast

theorem sarFn_meets : ShiftMeets sarFn sarRel where
  zero _ _ _ := ⟨rfl, rfl⟩
  pos w c f d g hc h := by
    unfold sarRel
    rw [if_neg hc]
    exact ⟨sshiftRight_eq_ofInt_div d c, h⟩

/-! ## Double shifts (R353, R354) -/

/-- A double shift whose function computes `value` and whose CF is the bit `out` of the destination. -/
theorem doubleShiftOp_runs {value : ∀ w : Nat, BitVec w → BitVec w → Nat → BitVec w} {out : Nat → Nat → Nat}
    {w : Nat} {F : DoubleShift w} (hF : ∀ d src c, F d src c = (value w d src c, d.getLsbD (out w c))) (rm : RM)
    (r : Reg) (count : Byte) (s : State) : RunsUpdate (doubleShiftOp w F rm r count) s w rm
      (doubleRel value out w (maskCount count) (s.gpr.read w r)) := by
  refine .of_count (count := count) _ (runSeq_getReg w r _ s) (fun hc f d => ?zero) fun hc d _ t => ?pos
  case zero => exact (if_pos hc).mpr ⟨rfl, rfl⟩
  case pos =>
    simp only [doubleRel, if_neg hc]
    by_cases hw : w ≤ maskCount count
    case pos =>
      simp only [if_pos hw]
      exact ⟨_, _, t.fresh + 2, (congrFun (if_pos hw) t).trans rfl, ⟨_, rfl⟩, rfl, rfl⟩
    case neg =>
      obtain ⟨g, n, hrun, hflags, ha, hv⟩ := shiftFlags_does (maskCount count)
        (value w d (s.gpr.read w r) (maskCount count)) (some (d.getLsbD (out w (maskCount count))))
        ((value w d (s.gpr.read w r) (maskCount count)).msb != d.msb) t
      simp only [if_neg hw]
      refine ⟨_, g, n, (congrFun (if_neg hw) t).trans ?_, ⟨rfl, hflags⟩, ha, hv⟩
      rw [hF]
      exact (M.bind_ok hrun).trans rfl

/-- Settles O6: every row runs its shift at its width, with a count of 1, in CL, or immediate. -/
theorem shiftResult : Obligations.ShiftResult := by
  have hshl := shiftOp_runs shlFn_meets
  have hshr := shiftOp_runs shrFn_meets
  have hsar := shiftOp_runs sarFn_meets
  refine ⟨?single, ?double⟩
  case single =>
    exact
      ⟨countOne (hshl 8) fun _ _ => rfl, countOne (hshl 16) fun _ _ => rfl, countOne (hshl 32) fun _ _ => rfl,
       countCl (hshl 8) fun _ _ => rfl, countCl (hshl 16) fun _ _ => rfl, countCl (hshl 32) fun _ _ => rfl,
       countImm (hshl 8) fun _ _ _ => rfl, countImm (hshl 16) fun _ _ _ => rfl, countImm (hshl 32) fun _ _ _ => rfl,
       countOne (hshr 8) fun _ _ => rfl, countOne (hshr 16) fun _ _ => rfl, countOne (hshr 32) fun _ _ => rfl,
       countCl (hshr 8) fun _ _ => rfl, countCl (hshr 16) fun _ _ => rfl, countCl (hshr 32) fun _ _ => rfl,
       countImm (hshr 8) fun _ _ _ => rfl, countImm (hshr 16) fun _ _ _ => rfl, countImm (hshr 32) fun _ _ _ => rfl,
       countOne (hsar 8) fun _ _ => rfl, countOne (hsar 16) fun _ _ => rfl, countOne (hsar 32) fun _ _ => rfl,
       countCl (hsar 8) fun _ _ => rfl, countCl (hsar 16) fun _ _ => rfl, countCl (hsar 32) fun _ _ => rfl,
       countImm (hsar 8) fun _ _ _ => rfl, countImm (hsar 16) fun _ _ _ => rfl, countImm (hsar 32) fun _ _ _ => rfl⟩
  case double =>
    exact
      ⟨doubleImm (doubleShiftOp_runs (F := shldFn 16) fun _ _ _ => rfl) fun _ _ _ _ => rfl,
       doubleImm (doubleShiftOp_runs (F := shldFn 32) fun _ _ _ => rfl) fun _ _ _ _ => rfl,
       doubleCl (doubleShiftOp_runs (F := shldFn 16) fun _ _ _ => rfl) fun _ _ _ => rfl,
       doubleCl (doubleShiftOp_runs (F := shldFn 32) fun _ _ _ => rfl) fun _ _ _ => rfl,
       doubleImm (doubleShiftOp_runs (F := shrdFn 16) fun _ _ _ => rfl) fun _ _ _ _ => rfl,
       doubleImm (doubleShiftOp_runs (F := shrdFn 32) fun _ _ _ => rfl) fun _ _ _ _ => rfl,
       doubleCl (doubleShiftOp_runs (F := shrdFn 16) fun _ _ _ => rfl) fun _ _ _ => rfl,
       doubleCl (doubleShiftOp_runs (F := shrdFn 32) fun _ _ _ => rfl) fun _ _ _ => rfl⟩

/-! ## Rotates as instructions (R350) -/

/-- A rotate whose OF after a count of 1 is `ofOne`, as a relation names it. -/
theorem rotateOp_runs {F : ∀ w : Nat, Rotate w} {ofOne : ∀ w : Nat, BitVec w → Bool → Bool} {w : Nat}
    {ofModel : BitVec w → Bool → Bool} (hof : ∀ v cf, ofModel v cf = ofOne w v cf) (rm : RM) (count : Byte)
    (s : State) : RunsUpdate (rotateOp w (F w) ofModel rm count) s w rm (rotateRel F ofOne w (maskCount count)) := by
  refine .of_count (count := count) _ rfl (fun hc f d => ?zero) fun hc d _ t => ?pos
  case zero => exact (if_pos hc).mpr ⟨rfl, rfl⟩
  case pos =>
    simp only [rotateRel, if_neg hc, ← hof]
    exact ⟨_, _, t.fresh + 1, rfl, ⟨rfl, (Config.freeBits 1 t.fresh).getLsbD 0, rfl⟩, rfl, rfl⟩

theorem ofLeft_eq {w : Nat} (v : BitVec w) (cf : Bool) : ofLeft v cf = leftOf w v cf := by
  rw [ofLeft, leftOf, BitVec.msb_eq_getLsbD_last]

theorem ofRight_eq {w : Nat} (v : BitVec w) (cf : Bool) : ofRight v cf = rightOf w v cf := by
  rw [ofRight, rightOf, BitVec.msb_eq_getLsbD_last]

/-! ## Rotates step by step (R350) -/

/-- The place of a bit after two turns. -/
theorem turned_turned (a b i w : Nat) : (b + (a + i) % w) % w = (a + b + i) % w := by
  rw [Nat.add_mod_mod, Nat.add_left_comm, Nat.add_assoc]

theorem rotateLeft_rotateLeft {w : Nat} (x : BitVec w) (a b : Nat) :
    (x.rotateLeft b).rotateLeft a = x.rotateLeft (a + b) := by
  refine BitVec.eq_of_getMsbD_eq fun i hi => ?_
  have hlt : (a + i) % w < w := Nat.mod_lt _ (by omega)
  simp only [BitVec.getMsbD_rotateLeft, hi, hlt, decide_true, Bool.true_and, turned_turned]

/-- A rotate right takes its bit `i` from bit `i + r`, modulo the width. -/
theorem getLsbD_rotateRight_of_lt_width {w : Nat} (x : BitVec w) (r : Nat) {i : Nat} (hi : i < w) :
    (x.rotateRight r).getLsbD i = x.getLsbD ((r + i) % w) := by
  have hr : r % w < w := Nat.mod_lt _ (by omega)
  rw [← Nat.mod_add_mod, BitVec.getLsbD_rotateRight]
  generalize r % w = k at hr ⊢
  by_cases hlow : i < w - k
  case pos => rw [decide_eq_true hlow, cond_true, Nat.mod_eq_of_lt (by omega)]
  case neg =>
    have hwrap : (k + i) % w = i - (w - k) := by
      rw [Nat.mod_eq_sub_mod (by omega), Nat.mod_eq_of_lt (by omega)]
      omega
    rw [decide_eq_false hlow, cond_false, decide_eq_true hi, Bool.true_and, hwrap]

theorem rotateRight_rotateRight {w : Nat} (x : BitVec w) (a b : Nat) :
    (x.rotateRight b).rotateRight a = x.rotateRight (a + b) := by
  refine BitVec.eq_of_getLsbD_eq fun i hi => ?_
  rw [getLsbD_rotateRight_of_lt_width _ _ hi, getLsbD_rotateRight_of_lt_width _ _ (Nat.mod_lt _ (by omega)),
    getLsbD_rotateRight_of_lt_width _ _ hi, turned_turned]

/-- The steps of a rotate. The rotate packs value and CF into one word, turns that by the count and unpacks it; turns
add up, and packing what was unpacked gives the same word, so that turning by `c` is `c` turns by one. -/
theorem rotate_eq_steps {w m : Nat} {F : Rotate w} {step : BitVec w × Bool → BitVec w × Bool}
    {turn : BitVec m → Nat → BitVec m} {pack : BitVec w × Bool → BitVec m} {unpack : BitVec m → BitVec w × Bool}
    (hturn : ∀ x a b, turn (turn x b) a = turn x (a + b)) (hpack : ∀ x, pack (unpack x) = x)
    (hF : ∀ c d cf, F c d cf = unpack (turn (pack (d, cf)) c)) (hstep : ∀ d cf, step (d, cf) = F 1 d cf) (c : Nat) :
    ∀ d cf, F (c + 1) d cf = rotateSteps step (c + 1) (d, cf) := by
  induction c with
  | zero => exact fun d cf => (hstep d cf).symm
  | succ c ih =>
    intro d cf
    calc F (c + 2) d cf
        = unpack (turn (pack (step (d, cf))) (c + 1)) := by rw [hF, hstep, hF, hpack, hturn]
      _ = F (c + 1) (step (d, cf)).1 (step (d, cf)).2 := (hF _ _ _).symm
      _ = rotateSteps step (c + 2) (d, cf) := ih _ _

/-- A turn to the left by one, bit by bit. -/
theorem getLsbD_rotateLeft_one {w : Nat} (hw : 1 < w) (x : BitVec w) {i : Nat} (hi : i < w) :
    (x.rotateLeft 1).getLsbD i = if i = 0 then x.getLsbD (w - 1) else x.getLsbD (i - 1) := by
  rw [BitVec.getLsbD_rotateLeft_of_le hw]
  cases i with
  | zero => simp
  | succ i => simp [hi]

/-- A turn to the right by one, bit by bit. -/
theorem getLsbD_rotateRight_one {w : Nat} (hw : 1 < w) (x : BitVec w) {i : Nat} (hi : i < w) :
    (x.rotateRight 1).getLsbD i = if i = w - 1 then x.getLsbD 0 else x.getLsbD (i + 1) := by
  rw [getLsbD_rotateRight_of_lt_width x 1 hi, Nat.add_comm 1 i]
  split
  case isTrue htop => rw [htop, Nat.sub_add_cancel (by omega), Nat.mod_self]
  case isFalse htop => rw [Nat.mod_eq_of_lt (by omega)]

/-- A bit shifted in from below. -/
theorem getLsbD_shiftInLow {w : Nat} (d : BitVec w) (b : Bool) {i : Nat} (hi : i < w) :
    (d <<< 1 ||| (BitVec.ofBool b).setWidth w).getLsbD i = if i = 0 then b else d.getLsbD (i - 1) := by
  cases i with
  | zero => simp [hi]
  | succ i => simp [hi, BitVec.getLsbD_eq_getElem (show i < w by omega)]

/-- A bit shifted in from above. -/
theorem getLsbD_shiftInHigh {w : Nat} (d : BitVec w) (b : Bool) {i : Nat} (hi : i < w) :
    (d >>> 1 ||| (BitVec.ofBool b).setWidth w <<< (w - 1)).getLsbD i =
      if i = w - 1 then b else d.getLsbD (i + 1) := by
  have hpos : 0 < w := by omega
  rw [BitVec.getLsbD_or, BitVec.getLsbD_ushiftRight, BitVec.getLsbD_shiftLeft, Nat.add_comm 1 i]
  split
  case isTrue htop =>
    subst htop
    simp only [Nat.sub_add_cancel hpos, BitVec.getLsbD_of_ge d w (Nat.le_refl w), hi, decide_true, Nat.lt_irrefl,
      decide_false, Bool.not_false, Bool.and_true, Bool.true_and, Bool.false_or, Nat.sub_self, BitVec.getLsbD_setWidth,
      BitVec.getLsbD_ofBool, hpos]
  case isFalse htop => simp [show i < w - 1 by omega]

theorem rolStep_eq {w : Nat} (hw : 1 < w) (d : BitVec w) (cf : Bool) : rolStep w (d, cf) = rolFn w 1 d cf := by
  rw [rolFn, BitVec.rotateLeft_mod_eq_rotateLeft]
  refine Prod.ext (BitVec.eq_of_getLsbD_eq fun i hi => ?value) ?carry
  case value => rw [rolStep, getLsbD_shiftInLow _ _ hi, getLsbD_rotateLeft_one hw _ hi, BitVec.msb_eq_getLsbD_last]
  case carry => rw [rolStep, getLsbD_rotateLeft_one hw _ (by omega), BitVec.msb_eq_getLsbD_last, if_pos rfl]

theorem rorStep_eq {w : Nat} (hw : 1 < w) (d : BitVec w) (cf : Bool) : rorStep w (d, cf) = rorFn w 1 d cf := by
  rw [rorFn, BitVec.rotateRight_mod_eq_rotateRight]
  refine Prod.ext (BitVec.eq_of_getLsbD_eq fun i hi => ?value) ?carry
  case value => rw [rorStep, getLsbD_shiftInHigh _ _ hi, getLsbD_rotateRight_one hw _ hi]
  case carry => rw [rorStep, BitVec.msb_eq_getLsbD_last, getLsbD_rotateRight_one hw _ (by omega), if_pos rfl]

/-- The word that RCL and RCR turn: CF above the value. -/
def withCarry {w : Nat} (x : BitVec w × Bool) : BitVec (1 + w) := BitVec.ofBool x.2 ++ x.1

/-- The value and CF of such a word. -/
def splitCarry {w : Nat} (x : BitVec (1 + w)) : BitVec w × Bool := (x.setWidth w, x.msb)

theorem getLsbD_withCarry {w : Nat} (d : BitVec w) (cf : Bool) {i : Nat} (hi : i < 1 + w) :
    (withCarry (d, cf)).getLsbD i = if i = w then cf else d.getLsbD i := by
  rw [withCarry, BitVec.getLsbD_append]
  split
  case isTrue hlow => rw [if_neg (by omega)]
  case isFalse hlow =>
    obtain rfl : i = w := by omega
    simp

/-- The carry of a word is its top bit. -/
theorem splitCarry_snd {w : Nat} (x : BitVec (1 + w)) : (splitCarry x).2 = x.getLsbD w := by
  rw [splitCarry, BitVec.msb_eq_getLsbD_last, Nat.add_sub_cancel_left]

/-- The value of a word is its lower bits. -/
theorem getLsbD_splitCarry_fst {w : Nat} (x : BitVec (1 + w)) {i : Nat} (hi : i < w) :
    (splitCarry x).1.getLsbD i = x.getLsbD i := by simp [splitCarry, hi]

theorem withCarry_splitCarry {w : Nat} (x : BitVec (1 + w)) : withCarry (splitCarry x) = x := by
  refine BitVec.eq_of_getLsbD_eq fun i hi => (getLsbD_withCarry _ _ hi).trans ?_
  split
  case isTrue htop => rw [htop]; exact splitCarry_snd x
  case isFalse htop => exact getLsbD_splitCarry_fst x (by omega)

theorem rclFn_eq {w : Nat} (c : Nat) (d : BitVec w) (cf : Bool) :
    rclFn w c d cf = splitCarry ((withCarry (d, cf)).rotateLeft c) := by
  rw [rclFn, Nat.add_comm w 1, BitVec.rotateLeft_mod_eq_rotateLeft]
  rfl

theorem rcrFn_eq {w : Nat} (c : Nat) (d : BitVec w) (cf : Bool) :
    rcrFn w c d cf = splitCarry ((withCarry (d, cf)).rotateRight c) := by
  rw [rcrFn, Nat.add_comm w 1, BitVec.rotateRight_mod_eq_rotateRight]
  rfl

theorem rclStep_eq {w : Nat} (hw : 1 < w) (d : BitVec w) (cf : Bool) : rclStep w (d, cf) = rclFn w 1 d cf := by
  rw [rclFn_eq]
  refine Prod.ext (BitVec.eq_of_getLsbD_eq fun i hi => ?value) ?carry
  case value =>
    rw [rclStep, getLsbD_shiftInLow _ _ hi, getLsbD_splitCarry_fst _ hi,
      getLsbD_rotateLeft_one (by omega) _ (by omega), getLsbD_withCarry _ _ (by omega),
      getLsbD_withCarry _ _ (by omega), if_pos (by omega : 1 + w - 1 = w), if_neg (by omega : i - 1 ≠ w)]
  case carry =>
    rw [rclStep, splitCarry_snd, getLsbD_rotateLeft_one (by omega) _ (by omega), if_neg (by omega),
      getLsbD_withCarry _ _ (by omega), if_neg (by omega), BitVec.msb_eq_getLsbD_last]

theorem rcrStep_eq {w : Nat} (hw : 1 < w) (d : BitVec w) (cf : Bool) : rcrStep w (d, cf) = rcrFn w 1 d cf := by
  rw [rcrFn_eq]
  refine Prod.ext (BitVec.eq_of_getLsbD_eq fun i hi => ?value) ?carry
  case value =>
    rw [rcrStep, getLsbD_shiftInHigh _ _ hi, getLsbD_splitCarry_fst _ hi,
      getLsbD_rotateRight_one (by omega) _ (by omega), if_neg (by omega : i ≠ 1 + w - 1),
      getLsbD_withCarry _ _ (by omega)]
    simp only [show i = w - 1 ↔ i + 1 = w by omega]
  case carry =>
    rw [rcrStep, splitCarry_snd, getLsbD_rotateRight_one (by omega) _ (by omega), if_pos (by omega),
      getLsbD_withCarry _ _ (by omega), if_neg (by omega)]

/-- Settles O7: every row runs its rotate, and each rotate function is its steps. -/
theorem rotateResult : Obligations.RotateResult := by
  have hrol := fun w => rotateOp_runs (F := rolFn) (w := w) ofLeft_eq
  have hror := fun w => rotateOp_runs (F := rorFn) (w := w) ofRight_eq
  have hrcl := fun w => rotateOp_runs (F := rclFn) (w := w) ofLeft_eq
  have hrcr := fun w => rotateOp_runs (F := rcrFn) (w := w) ofRight_eq
  refine ⟨?forms, ?steps⟩
  case forms =>
    exact
      ⟨countOne (hrol 8) fun _ _ => rfl, countOne (hrol 16) fun _ _ => rfl, countOne (hrol 32) fun _ _ => rfl,
       countCl (hrol 8) fun _ _ => rfl, countCl (hrol 16) fun _ _ => rfl, countCl (hrol 32) fun _ _ => rfl,
       countImm (hrol 8) fun _ _ _ => rfl, countImm (hrol 16) fun _ _ _ => rfl, countImm (hrol 32) fun _ _ _ => rfl,
       countOne (hror 8) fun _ _ => rfl, countOne (hror 16) fun _ _ => rfl, countOne (hror 32) fun _ _ => rfl,
       countCl (hror 8) fun _ _ => rfl, countCl (hror 16) fun _ _ => rfl, countCl (hror 32) fun _ _ => rfl,
       countImm (hror 8) fun _ _ _ => rfl, countImm (hror 16) fun _ _ _ => rfl, countImm (hror 32) fun _ _ _ => rfl,
       countOne (hrcl 8) fun _ _ => rfl, countOne (hrcl 16) fun _ _ => rfl, countOne (hrcl 32) fun _ _ => rfl,
       countCl (hrcl 8) fun _ _ => rfl, countCl (hrcl 16) fun _ _ => rfl, countCl (hrcl 32) fun _ _ => rfl,
       countImm (hrcl 8) fun _ _ _ => rfl, countImm (hrcl 16) fun _ _ _ => rfl, countImm (hrcl 32) fun _ _ _ => rfl,
       countOne (hrcr 8) fun _ _ => rfl, countOne (hrcr 16) fun _ _ => rfl, countOne (hrcr 32) fun _ _ => rfl,
       countCl (hrcr 8) fun _ _ => rfl, countCl (hrcr 16) fun _ _ => rfl, countCl (hrcr 32) fun _ _ => rfl,
       countImm (hrcr 8) fun _ _ _ => rfl, countImm (hrcr 16) fun _ _ _ => rfl, countImm (hrcr 32) fun _ _ _ => rfl⟩
  case steps =>
    intro w c d cf hw hc _
    have hw1 : 1 < w := by omega
    obtain ⟨c, rfl⟩ := Nat.exists_eq_succ_of_ne_zero (Nat.ne_of_gt hc)
    exact
      ⟨rotate_eq_steps (pack := Prod.fst) (unpack := fun x => (x, x.getLsbD 0)) rotateLeft_rotateLeft (fun _ => rfl)
        (fun _ _ _ => by rw [← BitVec.rotateLeft_mod_eq_rotateLeft]; rfl) (rolStep_eq hw1) c d cf,
       rotate_eq_steps (pack := Prod.fst) (unpack := fun x => (x, x.msb)) rotateRight_rotateRight (fun _ => rfl)
        (fun _ _ _ => by rw [← BitVec.rotateRight_mod_eq_rotateRight]; rfl) (rorStep_eq hw1) c d cf,
       rotate_eq_steps rotateLeft_rotateLeft withCarry_splitCarry rclFn_eq (rclStep_eq hw1) c d cf,
       rotate_eq_steps rotateRight_rotateRight withCarry_splitCarry rcrFn_eq (rcrStep_eq hw1) c d cf⟩

/-! ## Bit strings (R343 to R347) -/

theorem State.bitString_noWindow (s : State) (w : Nat) (off : Int) (rm : RM) :
    s.noWindow.bitString w off rm = s.bitString w off rm := by
  cases rm with
  | reg r => rfl
  | mem e => exact congrArg (BitVec.ofNat w) (State.readLin_noWindow s _ _)

theorem State.putBits_noWindow (s : State) (w : Nat) (off : Int) (rm : RM) (v : BitVec w) :
    s.noWindow.putBits w off rm v = (s.putBits w off rm v).noWindow := by
  cases rm with
  | reg r => rfl
  | mem e => exact State.store_with_inhibit s .none _ _ _

@[simp] theorem State.putBits_nextEip (s : State) (w : Nat) (off : Int) (rm : RM) (v : BitVec w) :
    (s.putBits w off rm v).nextEip = s.nextEip := by cases rm <;> simp [State.putBits]

theorem State.canReadBit_noWindow {s : State} {w : Nat} {off : Int} {rm : RM} (h : s.canReadBit w off rm) :
    s.noWindow.canReadBit w off rm := by
  cases rm with
  | reg r => trivial
  | mem e => exact ⟨h.1, (State.quiet_inhibit s .none _ _).trans h.2⟩

theorem State.canWriteBit_noWindow {s : State} {w : Nat} {off : Int} {rm : RM} (h : s.canWriteBit w off rm) :
    s.noWindow.canWriteBit w off rm := by
  cases rm with
  | reg r => trivial
  | mem e => exact ⟨h.1, (State.quiet_inhibit s .none _ _).trans h.2⟩

/-- The frame of a write to a bit string. -/
theorem onlyBits_putBits (s : State) (w : Nat) (off : Int) (rm : RM) (v : BitVec w) (f : Flags) (n : Nat) :
    OnlyBits s (s.finish { s.putBits w off rm v with flags := f, fresh := n }) w off rm := by
  cases rm with
  | reg r => rfl
  | mem e => exact fun h b hb => State.store_read_outside h hb

/-- A bit put into a value changes that bit alone. -/
theorem getLsbD_putBit {w : Nat} (v : BitVec w) (k : Nat) (b : Bool) {j : Nat} (hj : j < w) :
    (putBit v k b).getLsbD j = if j = k then b else v.getLsbD j := by
  have hmask : (1#w <<< k).getLsbD j = decide (j = k) := by
    rw [← BitVec.twoPow_eq, BitVec.getLsbD_twoPow]
    by_cases hjk : j = k
    case pos => simp [← hjk, hj]
    case neg => simp [hjk, Ne.symm hjk]
  unfold putBit
  cases b with
  | true =>
    rw [if_pos rfl, BitVec.getLsbD_or, hmask]
    split
    case isTrue hjk => rw [decide_eq_true hjk, Bool.or_true]
    case isFalse hjk => rw [decide_eq_false hjk, Bool.or_false]
  | false =>
    rw [if_neg (by decide), BitVec.getLsbD_and, BitVec.getLsbD_not, hmask]
    split
    case isTrue hjk => rw [decide_eq_true hjk, Bool.not_true, Bool.and_false, Bool.and_false]
    case isFalse hjk => rw [decide_eq_false hjk, decide_eq_true hj, Bool.not_false, Bool.and_true, Bool.and_true]

/-- The flags after an instruction on the bit `b`, the free value `n` giving the undefined ones. -/
def Flags.withBit (f : Flags) (b : Bool) (n : Nat) : Flags := { f.setStatus (Config.freeBits 6 n) with cf := b }

@[simp] theorem bitFlags_apply (b : Bool) (s : State) :
    bitFlags b s = .ok ((), { s with flags := s.flags.withBit b s.fresh, fresh := s.fresh + 1 }) := rfl

/-- BT reads its place and puts the bit into CF. -/
theorem btOp_apply {s : State} {w : Nat} {off : Int} {rm : RM} (h : s.canReadBit w off rm) :
    btOp w rm off s = bitFlags ((s.bitString w off rm).getLsbD (off % w).toNat) s := by
  cases rm with
  | reg r => rfl
  | mem e => exact (M.bind_ok (M.get_apply s)).trans ((M.bind_ok (readLoc_ok h.1 h.2)).trans rfl)

/-- BTC, BTR and BTS read their place, put the bit into CF and write the place with the bit changed. -/
theorem bitModify_apply {s : State} {w : Nat} {off : Int} {rm : RM} (set : Bool → Bool) (h : s.canWriteBit w off rm) :
    bitModify w set rm off s =
      let v := s.bitString w off rm
      let k := (off % w).toNat
      .ok ((), { s.putBits w off rm (putBit v k (set (v.getLsbD k))) with
        flags := s.flags.withBit (v.getLsbD k) s.fresh, fresh := s.fresh + 1 }) := by
  cases rm with
  | reg r => rfl
  | mem e => exact (M.bind_ok (M.get_apply s)).trans (updateLoc_flags h rfl rfl rfl)

theorem bitTested_of_run {i : Instr} {body : M Unit} {s : State} {w : Nat} {rm : RM} {off : Int}
    (hc : exec i s = runSeq body s) (hb : body s.noWindow = btOp w rm off s.noWindow) : BitTested i s w rm off := by
  intro h
  have hrun := hb.trans (btOp_apply (State.canReadBit_noWindow h))
  rw [State.bitString_noWindow, bitFlags_apply] at hrun
  exact ⟨s.flags.withBit _ s.fresh, ⟨_, rfl⟩, s.fresh + 1, hc.trans (runSeq_finish
    (t := { s.noWindow with flags := s.flags.withBit _ s.fresh, fresh := s.fresh + 1 }) hrun rfl rfl)⟩

theorem bitChanged_of_run {set : Bool → Bool} {i : Instr} {body : M Unit} {s : State} {w : Nat} {rm : RM} {off : Int}
    (hc : exec i s = runSeq body s) (hb : body s.noWindow = bitModify w set rm off s.noWindow) :
    BitChanged set i s w rm off := by
  intro h
  have hrun := hb.trans (bitModify_apply set (State.canWriteBit_noWindow h))
  simp only [State.bitString_noWindow, State.putBits_noWindow] at hrun
  have hend := runSeq_finish hrun (State.putBits_nextEip s w off rm _) rfl
  refine ⟨_, _, putBit _ _ _, ⟨_, rfl⟩, fun j hj => ?bits, hc.trans hend, onlyBits_putBits s w off rm _ _ _⟩
  case bits =>
    rw [getLsbD_putBit _ _ _ hj]
    split
    case isTrue hk => rw [hk]
    case isFalse => rfl

/-! ## Bit scan (R341, R342) -/

/-- The search upwards from `k` finds the lowest 1 bit where no bit below `k` and some bit of the next `n` is 1. -/
theorem scanUp_lowestOne {w : Nat} {v : BitVec w} {n : Nat} : ∀ {k : Nat}, (∀ j < k, v.getLsbD j = false) →
    (∃ j < k + n, v.getLsbD j = true) → lowestOne w v (scanUp v k n) := by
  induction n with
  | zero =>
    rintro k hlow ⟨j, hj, hset⟩
    rw [hlow j hj] at hset
    cases hset
  | succ n ih =>
    intro k hlow hex
    unfold scanUp
    split
    case isTrue hk => exact ⟨hk, hlow⟩
    case isFalse hk =>
      refine ih (fun j hj => ?_) (by rwa [Nat.add_right_comm, Nat.add_assoc])
      rcases Nat.lt_succ_iff_lt_or_eq.mp hj with hlt | rfl
      · exact hlow j hlt
      · exact eq_false_of_ne_true hk

/-- The search downwards below `n` finds the highest 1 bit where no bit from `n` on and some bit below it is 1. -/
theorem scanDown_highestOne {w : Nat} {v : BitVec w} {n : Nat} : (∀ j, n ≤ j → v.getLsbD j = false) →
    (∃ j < n, v.getLsbD j = true) → highestOne w v (scanDown v n) := by
  induction n with
  | zero => rintro - ⟨j, hj, -⟩; omega
  | succ n ih =>
    rintro hhigh ⟨j, hj, hset⟩
    unfold scanDown
    split
    case isTrue hn => exact ⟨hn, hhigh⟩
    case isFalse hn =>
      refine ih (fun i hi => ?_) ⟨j, ?_, hset⟩
      · rcases Nat.eq_or_lt_of_le hi with rfl | hlt
        · exact eq_false_of_ne_true hn
        · exact hhigh i hlt
      · rcases Nat.lt_succ_iff_lt_or_eq.mp hj with hlt | rfl
        · exact hlt
        · exact absurd hset hn

/-- A value that is not 0 has a 1 bit. -/
theorem exists_getLsbD_of_ne_zero {w : Nat} {v : BitVec w} (h : v ≠ 0#w) : ∃ j < w, v.getLsbD j = true := by
  have hset := BitVec.getLsbD_true_ctz_of_ne_zero h
  exact ⟨_, BitVec.lt_of_getLsbD hset, hset⟩

theorem scanForm {best : ∀ w : Nat, BitVec w → Nat → Prop} {w : Nat} {find : BitVec w → Nat} {con : Reg → RM → Instr}
    (hfind : ∀ v : BitVec w, v ≠ 0#w → best w v (find v))
    (hc : ∀ r rm s, exec (con r rm) s = runSeq (scanOp w find r rm) s) : ScanForm best w con := by
  intro s r rm h
  have hread : scanOp w find r rm s.noWindow = _ := M.bind_ok (readRM_noWindow h)
  by_cases hz : s.rmVal w rm = 0#w
  case pos =>
    simp only [if_pos hz, beq_iff_eq.mpr hz] at hread ⊢
    exact ⟨Config.freeBits 6 (s.fresh + 1), Config.freeBits w s.fresh,
      writesRegs_of_run (n := s.fresh + 2) (hc r rm s) (hread.trans rfl)⟩
  case neg =>
    simp only [if_neg hz, beq_false_of_ne hz] at hread ⊢
    exact ⟨Config.freeBits 6 s.fresh, _, hfind _ hz,
      writesRegs_of_run (n := s.fresh + 1) (hc r rm s) (hread.trans rfl)⟩

theorem bitReg_tested {w : Nat} {con : RM → Reg → Instr}
    (hc : ∀ rm r s, exec (con rm r) s = runSeq (regOffset w r (btOp w rm)) s) : BitReg BitTested w con :=
  fun s rm r => bitTested_of_run (hc rm r s) rfl

theorem bitImm_tested {w : Nat} {con : RM → Byte → Instr}
    (hc : ∀ rm imm s, exec (con rm imm) s = runSeq (btOp w rm (immOffset w imm)) s) : BitImm BitTested w con :=
  fun s rm imm => bitTested_of_run (hc rm imm s) rfl

theorem bitReg_changed {set : Bool → Bool} {w : Nat} {con : RM → Reg → Instr}
    (hc : ∀ rm r s, exec (con rm r) s = runSeq (regOffset w r (bitModify w set rm)) s) :
    BitReg (BitChanged set) w con :=
  fun s rm r => bitChanged_of_run (hc rm r s) rfl

theorem bitImm_changed {set : Bool → Bool} {w : Nat} {con : RM → Byte → Instr}
    (hc : ∀ rm imm s, exec (con rm imm) s = runSeq (bitModify w set rm (immOffset w imm)) s) :
    BitImm (BitChanged set) w con :=
  fun s rm imm => bitChanged_of_run (hc rm imm s) rfl

/-- Settles O8: every row runs its operation at the offset of its form; the scans find the bit they look for. -/
theorem bitResult : Obligations.BitResult := by
  refine ⟨?strings, ?scans⟩
  case strings =>
    exact
      ⟨bitReg_tested fun _ _ _ => rfl, bitReg_tested fun _ _ _ => rfl, bitImm_tested fun _ _ _ => rfl,
       bitImm_tested fun _ _ _ => rfl, bitReg_changed fun _ _ _ => rfl, bitReg_changed fun _ _ _ => rfl,
       bitImm_changed fun _ _ _ => rfl, bitImm_changed fun _ _ _ => rfl, bitReg_changed fun _ _ _ => rfl,
       bitReg_changed fun _ _ _ => rfl, bitImm_changed fun _ _ _ => rfl, bitImm_changed fun _ _ _ => rfl,
       bitReg_changed fun _ _ _ => rfl, bitReg_changed fun _ _ _ => rfl, bitImm_changed fun _ _ _ => rfl,
       bitImm_changed fun _ _ _ => rfl⟩
  case scans =>
    have hup : ∀ {w : Nat} (v : BitVec w), v ≠ 0#w → lowestOne w v (scanUp v 0 w) := fun v hv =>
      scanUp_lowestOne (fun j hj => absurd hj (Nat.not_lt_zero j))
        (by simpa only [Nat.zero_add] using exists_getLsbD_of_ne_zero hv)
    have hdown : ∀ {w : Nat} (v : BitVec w), v ≠ 0#w → highestOne w v (scanDown v w) := fun v hv =>
      scanDown_highestOne (fun j hj => BitVec.getLsbD_of_ge v j hj) (exists_getLsbD_of_ne_zero hv)
    exact ⟨scanForm hup fun _ _ _ => rfl, scanForm hup fun _ _ _ => rfl, scanForm hdown fun _ _ _ => rfl,
      scanForm hdown fun _ _ _ => rfl⟩

end Sys2Proof.Machine
end

section
/-! SUPPORT. Bounds and frames (43_control_transfer_2.md R420 to R422): what the reads, the pushes and the moves of the
frame pointer do when an instruction runs, then BOUND, ENTER and LEAVE. -/

namespace Sys2Proof.Machine

/-! ## Reads and stack operations when an instruction runs -/

/-- An instruction whose meaning completes. -/
theorem finishes_of_run {i : Instr} {body : M Unit} {s t : State} (hc : exec i s = runSeq body s)
    (h : body s.noWindow = .ok ((), t.noWindow)) (hn : t.nextEip = s.nextEip) : exec i s = .next (s.finish t) :=
  hc.trans (runSeq_finish (t := t.noWindow) h hn rfl)

/-- What a read does besides answering, in the words of the statements. -/
theorem State.noteRead_eq_sawRead (s : State) (a : DWord) (n : Nat) : s.noteRead a n = s.sawRead a n := by
  unfold State.noteRead State.noteAccess State.sawRead
  dsimp only
  split <;> split <;> rfl

theorem State.sawRead_noWindow (s : State) (a : DWord) (n : Nat) :
    s.noWindow.sawRead a n = (s.sawRead a n).noWindow := by
  have htouches (k : RegionKind) : s.noWindow.touches k a n = s.touches k a n :=
    State.touches_congr (s := s) (t := s.noWindow) rfl rfl k a n
  simp only [State.sawRead, htouches, State.readLin_noWindow]
  rfl

/-- An operand of two parts, wherever they stand, is read part by part. -/
theorem memReadPair_noWindow {s : State} {l : Loc} {n m al : Nat} (h : readFault s l (n + m) al = none) :
    memReadPair l n m al s.noWindow =
      .ok ((s.readLin (s.linear l) n, (s.sawRead (s.linear l) n).readLin (s.linear l + BitVec.ofNat 32 n) m),
        ((s.sawRead (s.linear l) n).sawRead (s.linear l + BitVec.ofNat 32 n) m).noWindow) := by
  have hfault : readFault s.noWindow l (n + m) al = none := h
  have hlinear : s.noWindow.linear l = s.linear l := rfl
  rw [memReadPair_apply, hfault]
  simp only [hlinear, State.noteRead_eq_sawRead, State.sawRead_noWindow, State.readLin_noWindow]

/-- A place that can be read is read. -/
theorem memRead_noWindow {s : State} {l : Loc} {n al : Nat} (h : s.reads l n al) :
    memRead l n al s.noWindow = .ok (s.readLin (s.linear l) n, s.noWindow) := by
  obtain ⟨hfault, hquiet⟩ := h
  rw [memRead_ok (s := s.noWindow) hfault ((State.quiet_inhibit s .none _ _).trans hquiet), State.readLin_noWindow]
  rfl

theorem State.pushed_noWindow (s : State) (n v : Nat) : s.noWindow.pushed n v = (s.pushed n v).noWindow :=
  congrArg (State.setStackTop · (s.pushLoc n).off) (State.store_with_inhibit s .none _ n v)

/-- An item is pushed where the stack has room for it. -/
theorem pushAl_noWindow {s : State} {n al v : Nat} (h : writeFault s (s.pushLoc n) n al = none) :
    pushAl n al v s.noWindow = .ok ((), (s.pushed n v).noWindow) := by
  rw [← State.pushed_noWindow]
  exact pushAl_ok (s := s.noWindow) h

/-- An item that can be read is popped. -/
theorem pop_noWindow {s : State} {n : Nat} (h : s.canPeek 0 n) :
    pop n s.noWindow = .ok (s.stackItem 0 n, (s.popped n).noWindow) := by
  obtain ⟨hfault, hquiet⟩ := h
  rw [pop_ok (s := s.noWindow) hfault ((State.quiet_inhibit s .none _ _).trans hquiet), State.readLin_noWindow]
  rfl

@[simp] theorem State.pushed_nextEip (s : State) (n v : Nat) : (s.pushed n v).nextEip = s.nextEip := by
  simp [State.pushed]

/-! ## BOUND (R420) -/

theorem boundForm {w : Nat} {con : Reg → Ea → Instr}
    (hc : ∀ r ea s, exec (con r ea) s = runSeq (boundOp w r ea) s) : BoundForm w con := by
  intro s r ea h a t i lower upper
  rw [Nat.two_mul] at h
  have hrun : boundOp w r ea s.noWindow =
      stopIf (decide (i < lower) || decide (upper + (bytesOf w : Nat) < i)) excBR
        (t.sawRead (a + BitVec.ofNat 32 (bytesOf w)) (bytesOf w)).noWindow := by
    have hloc : s.noWindow.eaLoc ea = s.eaLoc ea := rfl
    unfold boundOp
    rw [M.bind_ok (M.get_apply _), hloc, M.bind_ok (memReadPair_noWindow h)]
    rfl
  simp only [stopIf_apply, Bool.or_eq_true, decide_eq_true_eq] at hrun
  split
  case isTrue hout => exact takes_of_run (hc r ea s) (hrun.trans (if_pos hout))
  case isFalse hin => exact finishes_of_run (hc r ea s) (hrun.trans (if_neg hin)) rfl

/-! ## The frame pointer and the display (R421) -/

theorem State.frame_eq_framePtr (s : State) : s.frame = s.framePtr := by
  unfold State.frame State.framePtr wrapOff
  split
  · rfl
  · refine BitVec.eq_of_toNat_eq ?_
    have hmask : 0xFFFF % 2 ^ 32 = 2 ^ 16 - 1 := rfl
    simp only [BitVec.toNat_setWidth, BitVec.toNat_and, BitVec.toNat_ofNat, hmask, Nat.and_two_pow_sub_one_eq_mod]
    omega

theorem State.frame_noWindow (s : State) : s.noWindow.frame = s.framePtr := s.frame_eq_framePtr

@[simp] theorem setFrame_apply (v : DWord) (s : State) : setFrame v s = .ok ((), s.withFrame v) := by
  unfold setFrame State.withFrame
  cases h : s.sas32 <;> simp [h, Gprs.write, Gprs.set, Gprs.get]

@[simp] theorem release_apply (d : DWord) (s : State) : release d s = .ok ((), s.moved d) := rfl

@[simp] theorem State.withFrame_nextEip (s : State) (v : DWord) : (s.withFrame v).nextEip = s.nextEip := rfl

@[simp] theorem State.displayed_nextEip (s : State) (n k : Nat) : (s.displayed n k).nextEip = s.nextEip := by
  induction k generalizing s with
  | zero => rfl
  | succ k ih => simp [State.displayed, ih]

@[simp] theorem State.leveled_nextEip (s : State) (n l : Nat) : (s.leveled n l).nextEip = s.nextEip := by
  unfold State.leveled
  split <;> simp

/-- The frame pointers of the enclosing levels are copied where their reads and pushes pass their checks. -/
theorem copyDisplay_noWindow {n k : Nat} {s : State} (h : s.canDisplay n k) :
    copyDisplay n k s.noWindow = .ok ((), (s.displayed n k).noWindow) := by
  induction k generalizing s with
  | zero => rfl
  | succ k ih =>
    obtain ⟨hread, hpush, hrest⟩ := h
    unfold copyDisplay
    rw [M.bind_ok (M.get_apply _), State.frame_noWindow, M.bind_ok (setFrame_apply _ _), M.bind_ok (M.get_apply _)]
    have hloc : Loc.mk .ss (s.noWindow.withFrame (s.framePtr - BitVec.ofNat 32 n)).frame
        (s.noWindow.withFrame (s.framePtr - BitVec.ofNat 32 n)).sas32 =
        (s.withFrame (s.framePtr - BitVec.ofNat 32 n)).frameLoc :=
      congrArg (Loc.mk .ss · _) (State.frame_eq_framePtr _)
    rw [hloc]
    exact (M.bind_ok (memRead_noWindow hread)).trans ((M.bind_ok (pushAl_noWindow hpush)).trans (ih hrest))

/-- The display of ENTER and the pointer to the new frame, where they pass their checks, before what follows. -/
theorem enterDisplay_noWindow {n l : Nat} {s : State} (h : s.canLevel n l) (rest : Unit → M Unit) :
    (if l = 0 then rest () else do copyDisplay n (l - 1); rest (← pushAl n 1 s.stackTop.toNat)) s.noWindow =
      rest () (s.leveled n l).noWindow := by
  unfold State.leveled
  rcases h with hzero | ⟨hdisplay, hpush⟩
  · rw [if_pos hzero, if_pos hzero]
  · split
    · rfl
    · exact (M.bind_ok (copyDisplay_noWindow hdisplay)).trans (M.bind_ok (pushAl_noWindow hpush))

/-- Where its items can be read and pushed, ENTER comes to its last check. -/
theorem enterOp_noWindow {s : State} {size : Word} {level : Byte}
    (hpush : writeFault s (s.pushLoc s.osBytes) s.osBytes 1 = none) :
    let t := s.pushed s.osBytes s.framePtr.toNat
    let u := ((t.leveled s.osBytes (level.toNat % 32)).withFrame t.stackTop).moved (0#32 - size.setWidth 32)
    t.canLevel s.osBytes (level.toNat % 32) →
    enterOp size level s.noWindow = stopIf (!u.seg.ss.inLimit u.stackTop u.sas32 1) (excSS 0#16) u.noWindow := by
  intro t u hlevel
  have hbytes : s.noWindow.osBytes = s.osBytes := rfl
  have htop : t.noWindow.stackTop = t.stackTop := rfl
  unfold enterOp
  rw [M.bind_ok (M.get_apply _), State.frame_noWindow, hbytes, M.bind_ok (pushAl_noWindow hpush),
    M.bind_ok (M.get_apply _), htop]
  refine (enterDisplay_noWindow hlevel _).trans ?_
  rw [M.bind_ok (setFrame_apply _ _), M.bind_ok (release_apply _ _), M.bind_ok (M.get_apply _)]
  rfl

/-! ## LEAVE (R422) -/

theorem leaveOp_noWindow {s : State} (h : (s.setStackTop s.framePtr).canPeek 0 s.osBytes) :
    let t := s.setStackTop s.framePtr
    leaveOp s.noWindow = .ok ((), State.noWindow { t.popped s.osBytes with
      gpr := if s.os32 then (t.popped 4).gpr.write 32 rBP (BitVec.ofNat 32 (t.stackItem 0 4))
             else (t.popped 2).gpr.write 16 rBP (BitVec.ofNat 16 (t.stackItem 0 2)) }) := by
  intro t
  have hos : s.noWindow.os32 = s.os32 := rfl
  unfold leaveOp
  rw [M.bind_ok (M.get_apply _), State.frame_noWindow]
  refine (M.bind_ok (M.set_apply _ _)).trans ((M.bind_ok (pop_noWindow h)).trans ?_)
  cases h32 : s.os32 <;> simp only [State.osBytes, hos, h32] <;> rfl

/-- Settles O26: each instruction is run to its end by the equations of its reads and pushes, the display of ENTER by
induction on the number of its enclosing levels. -/
theorem boundEnterLeave : Obligations.BoundEnterLeave := by
  refine ⟨boundForm fun _ _ _ => rfl, boundForm fun _ _ _ => rfl, ?enter, ?leave⟩
  case enter =>
    intro s size level n l hpush t hlevel u
    have hrun := enterOp_noWindow (size := size) hpush hlevel
    have hnext : u.nextEip = s.nextEip := by simp [u, t, State.moved]
    constructor
    case left =>
      intro hroom
      rw [show u.seg.ss.inLimit u.stackTop u.sas32 1 = true from hroom] at hrun
      exact finishes_of_run rfl hrun hnext
    case right =>
      intro hroom
      rw [show u.seg.ss.inLimit u.stackTop u.sas32 1 = false from hroom] at hrun
      exact takes_of_run rfl hrun
  case leave =>
    intro s t hread
    exact finishes_of_run rfl (leaveOp_noWindow hread) rfl

end Sys2Proof.Machine
end

section
/-! SUPPORT. String instructions (44_string_and_io.md R440, R441, R444, R445, R448 to R450): the index registers and the
count by the address size, an element read and written, one iteration of a repetition, then the rows. -/

namespace Sys2Proof.Machine

/-! ## Index registers and the count (R440, R448) -/

/-- A write by the address size, as a write of a register of that width. -/
theorem State.setAs_eq_write (s : State) (r : Reg) (v : DWord) :
    s.setAs r v =
      { s with gpr := if s.as32 then s.gpr.write 32 r v else s.gpr.write 16 r (v.setWidth 16) } := by
  unfold State.setAs
  cases s.as32 <;> simp [Gprs.write]

/-- An index register goes past its element. -/
@[simp] theorem stepIndex_apply (r : Reg) (w : Nat) (s : State) :
    stepIndex r (bytesOf w) s = .ok ((), s.stepped r w) := by
  have hset : s.setAs r (if s.flags.df then s.gpr.get r - BitVec.ofNat 32 (bytesOf w)
      else s.gpr.get r + BitVec.ofNat 32 (bytesOf w)) = s.stepped r w := by
    rw [State.setAs_eq_write]
    unfold State.stepped
    cases s.as32 <;> cases s.flags.df <;>
      simp [Gprs.read, BitVec.sub_eq_add_neg, BitVec.setWidth_add, BitVec.setWidth_neg_of_le]
  unfold stepIndex
  rw [M.modify_apply, hset]

/-- The count goes one lower. -/
theorem State.setAs_count (s : State) : s.setAs rC (s.gpr.ecx - 1#32) = s.counted := by
  rw [State.setAs_eq_write]
  unfold State.counted
  cases s.as32 <;> simp [Gprs.read, Gprs.get, BitVec.sub_eq_add_neg, BitVec.setWidth_add]

theorem State.count_toNat (s : State) : s.count.toNat = s.repCount := by
  unfold State.count State.repCount wrapOff
  cases s.as32
  case true => rfl
  case false => exact BitVec.toNat_setWidth_of_le (by decide)

theorem State.count_eq_zero (s : State) : s.count = 0#32 ↔ s.repCount = 0 := by
  rw [← State.count_toNat, ← BitVec.toNat_inj, BitVec.toNat_ofNat, Nat.zero_mod]

theorem State.repDone_iff (s : State) (scan : Bool) : s.repDone scan = true ↔ s.repEnds scan := by
  unfold State.repDone State.repEnds
  rw [Bool.or_eq_true, beq_iff_eq, State.count_eq_zero, Bool.and_eq_true]
  split <;> simp

/-! ## One iteration of a repetition (R448) -/

theorem repOp_unprefixed {scan : Bool} {body : M Unit} {s : State} (h : s.pfx.rep = .none) :
    repOp scan body s = runSeq body s := if_pos h

theorem repOp_count_zero {scan : Bool} {body : M Unit} {s : State} (hrep : s.pfx.rep ≠ .none) (hzero : s.repCount = 0) :
    repOp scan body s = .next (s.finish s) := by
  unfold repOp
  rw [if_neg hrep, if_pos (s.count_eq_zero.2 hzero)]
  exact runSeq_finish (t := s.noWindow) rfl rfl rfl

/-- An iteration whose element is done counts down and then ends the instruction or leaves it for the next step. -/
theorem repOp_iteration {scan : Bool} {body : M Unit} {s t : State} (hrep : s.pfx.rep ≠ .none) (hcount : s.repCount ≠ 0)
    (hrun : body s = .ok ((), t)) :
    repOp scan body s =
      if t.counted.repDone scan then .next (s.completed { t.counted with inhibit := .none, eip := t.nextEip })
      else .next (s.between t.counted) := by
  have hdown : (do body; modify fun t => t.setAs rC (t.gpr.ecx - 1#32) : M Unit) s = .ok ((), t.counted) := by
    rw [M.bind_ok hrun, M.modify_apply, State.setAs_count]
  unfold repOp
  rw [if_neg hrep, if_neg (mt s.count_eq_zero.1 hcount), hdown]
  rfl

/-- The state with a window `x` of the instruction before. -/
def State.withWindow (s : State) (x : Inhibit) : State := { s with inhibit := x }

/-- The meaning `body` turns `s` into `t`, whatever the window of the instruction before, which it leaves as it was: it
is over in an instruction that completes, and stays through an iteration of a repetition. -/
def TurnsInto (body : M Unit) (s t : State) : Prop :=
  ∀ x : Inhibit, body (s.withWindow x) = .ok ((), t.withWindow x)

/-- A string instruction, from what one execution of it does. -/
theorem stringStep_of_turnsInto {i : Instr} {scan : Bool} {body : M Unit} {s t : State}
    (hc : exec i s = repOp scan body s) (hrun : TurnsInto body s t) (hn : t.nextEip = s.nextEip)
    (hi : t.inhibit = s.inhibit) : StringStep i s t scan := by
  constructor
  case left =>
    intro hrep
    rw [hc, repOp_unprefixed hrep]
    exact runSeq_finish (t := t.noWindow) (hrun .none) hn rfl
  case right =>
    intro hrep hcount
    have hstay : body s = .ok ((), t) := by
      have hwindow : t.withWindow s.inhibit = t := by rw [← hi]; rfl
      exact (hrun s.inhibit).trans (by rw [hwindow])
    rw [hc, repOp_iteration hrep hcount hstay, ← State.repDone_iff]
    constructor
    case left =>
      intro hends
      rw [if_pos hends, hn]
      rfl
    case right =>
      intro hgoes
      rw [if_neg hgoes, State.between, ← hi]
      rfl

theorem stringNone {i : Instr} {scan : Bool} {body : M Unit} (hc : ∀ s, exec i s = repOp scan body s) : StringNone i :=
  fun s hrep hzero => (hc s).trans (repOp_count_zero hrep hzero)

/-! ## Elements -/

theorem State.readLin_withWindow (s : State) (x : Inhibit) (a : DWord) (n : Nat) :
    (s.withWindow x).readLin a n = s.readLin a n :=
  ((s.withWindow x).readLin_noWindow a n).symm.trans (s.readLin_noWindow a n)

/-- An element that can be read is read. -/
theorem readLoc_withWindow {s : State} {w : Nat} {l : Loc} (h : s.canReadAt l w) (x : Inhibit) :
    readLoc w l (s.withWindow x) = .ok (s.item l w, s.withWindow x) := by
  obtain ⟨hfault, hquiet⟩ := h
  rw [readLoc_ok (s := s.withWindow x) hfault ((State.quiet_inhibit s x _ _).trans hquiet), State.readLin_withWindow]
  rfl

/-- An element that can be written is written. -/
theorem writeLoc_withWindow {s : State} {w : Nat} {l : Loc} (h : s.canWriteAt l w) (v : BitVec w) (x : Inhibit) :
    writeLoc w l v (s.withWindow x) = .ok ((), (s.putItem l w v).withWindow x) := by
  have hput : (s.withWindow x).putItem l w v = (s.putItem l w v).withWindow x := State.store_with_inhibit s x _ _ _
  rw [← hput]
  exact writeLoc_ok (s := s.withWindow x) h

@[simp] theorem State.putItem_nextEip (s : State) (l : Loc) (w : Nat) (v : BitVec w) :
    (s.putItem l w v).nextEip = s.nextEip := State.store_nextEip ..

@[simp] theorem State.putItem_inhibit (s : State) (l : Loc) (w : Nat) (v : BitVec w) :
    (s.putItem l w v).inhibit = s.inhibit := State.store_inhibit ..

@[simp] theorem State.stepped_nextEip (s : State) (r : Reg) (w : Nat) : (s.stepped r w).nextEip = s.nextEip := rfl

@[simp] theorem State.stepped_inhibit (s : State) (r : Reg) (w : Nat) : (s.stepped r w).inhibit = s.inhibit := rfl

/-! ## The rows (R441, R444, R445, R449, R450) -/

theorem cmpsForm {w : Nat} {i : Instr} (hc : ∀ s, exec i s = repOp true (cmpsOp w) s) : CmpsForm w i := by
  intro s hsrc hdst
  refine stringStep_of_turnsInto (hc s) (fun x => ?_) rfl rfl
  unfold cmpsOp
  rw [M.bind_ok (M.get_apply _)]
  exact (M.bind_ok (readLoc_withWindow hsrc x)).trans <| (M.bind_ok (readLoc_withWindow hdst x)).trans <|
    (M.bind_ok (setFlags_apply _ _)).trans <| (M.bind_ok (stepIndex_apply rSI w _)).trans (stepIndex_apply rDI w _)

theorem scasForm {w : Nat} {i : Instr} (hc : ∀ s, exec i s = repOp true (scasOp w) s) : ScasForm w i := by
  intro s hdst
  refine stringStep_of_turnsInto (hc s) (fun x => ?_) rfl rfl
  unfold scasOp
  rw [M.bind_ok (M.get_apply _)]
  exact (M.bind_ok (readLoc_withWindow hdst x)).trans <| (M.bind_ok (getReg_apply w rA _)).trans <|
    (M.bind_ok (setFlags_apply _ _)).trans (stepIndex_apply rDI w _)

theorem lodsForm {w : Nat} {i : Instr} (hc : ∀ s, exec i s = repOp false (lodsOp w) s) : LodsForm w i := by
  intro s hsrc
  refine stringStep_of_turnsInto (hc s) (fun x => ?_) rfl rfl
  unfold lodsOp
  rw [M.bind_ok (M.get_apply _)]
  exact (M.bind_ok (readLoc_withWindow hsrc x)).trans <| (M.bind_ok (setReg_apply w rA _ _)).trans
    (stepIndex_apply rSI w _)

theorem stosForm {w : Nat} {i : Instr} (hc : ∀ s, exec i s = repOp false (stosOp w) s) : StosForm w i := by
  intro s hdst
  refine stringStep_of_turnsInto (hc s) (fun x => ?_) (by simp) (by simp)
  unfold stosOp
  rw [M.bind_ok (M.get_apply _), M.bind_ok (getReg_apply w rA _)]
  exact (M.bind_ok (writeLoc_withWindow hdst _ x)).trans (stepIndex_apply rDI w _)

theorem movsForm {w : Nat} {i : Instr} (hc : ∀ s, exec i s = repOp false (movsOp w) s) : MovsForm w i := by
  intro s hsrc hdst
  refine stringStep_of_turnsInto (hc s) (fun x => ?_) (by simp) (by simp)
  unfold movsOp
  rw [M.bind_ok (M.get_apply _)]
  exact (M.bind_ok (readLoc_withWindow hsrc x)).trans <| (M.bind_ok (writeLoc_withWindow hdst _ x)).trans <|
    (M.bind_ok (stepIndex_apply rSI w _)).trans (stepIndex_apply rDI w _)

/-- Settles O28: each row is one element of its operation, run by the equations of its reads, writes and index steps,
which the repetition then counts and ends. -/
theorem stringResult : Obligations.StringResult :=
  ⟨cmpsForm fun _ => rfl, cmpsForm fun _ => rfl, cmpsForm fun _ => rfl,
    scasForm fun _ => rfl, scasForm fun _ => rfl, scasForm fun _ => rfl,
    lodsForm fun _ => rfl, lodsForm fun _ => rfl, lodsForm fun _ => rfl,
    stosForm fun _ => rfl, stosForm fun _ => rfl, stosForm fun _ => rfl,
    movsForm fun _ => rfl, movsForm fun _ => rfl, movsForm fun _ => rfl,
    stringNone fun _ => rfl, stringNone fun _ => rfl, stringNone fun _ => rfl,
    stringNone fun _ => rfl, stringNone fun _ => rfl, stringNone fun _ => rfl,
    stringNone fun _ => rfl, stringNone fun _ => rfl, stringNone fun _ => rfl,
    stringNone fun _ => rfl, stringNone fun _ => rfl, stringNone fun _ => rfl,
    stringNone fun _ => rfl, stringNone fun _ => rfl, stringNone fun _ => rfl,
    stringNone fun _ => rfl, stringNone fun _ => rfl, stringNone fun _ => rfl,
    stringNone fun _ => rfl, stringNone fun _ => rfl, stringNone fun _ => rfl⟩

end Sys2Proof.Machine
end

section
/-! SUPPORT. The carry and AH instructions, NOP, LEA and CPUID (45_flag_segment_misc.md R480, R483, R484, R486 to R490,
R493, R494): EFLAGS as its low byte and the bits above, then the rows. -/

namespace Sys2Proof.Machine

/-! ## From a meaning to its instruction -/

/-- An instruction whose meaning comes down to one change of the flags. -/
theorem writesFlags_of_setFlags {i : Instr} {body : M Unit} {s : State} (g : Flags → Flags)
    (hc : exec i s = runSeq body s) (h : body s.noWindow = setFlags g s.noWindow) : WritesFlags i s (g s.flags) :=
  ⟨s.fresh, finishes_of_run (t := { s with flags := g s.flags }) hc (h.trans (setFlags_apply g s.noWindow)) rfl⟩

/-- An instruction whose meaning comes down to one write of a register. -/
theorem writesRegs_of_setReg {i : Instr} {body : M Unit} {s : State} {w : Nat} {r : Reg} {v : BitVec w}
    (hc : exec i s = runSeq body s) (h : body s.noWindow = setReg w r v s.noWindow) :
    WritesRegs i s (s.gpr.write w r v) s.flags :=
  writesRegs_of_run (n := s.fresh) hc (h.trans (setReg_apply w r v s.noWindow))

/-! ## The low byte of EFLAGS (10_state.md R50) -/

/-- SF, ZF, AF, PF and CF at their places in a byte, as LAHF stores them. -/
def Flags.lowByte (f : Flags) : Byte :=
  BitVec.ofBool f.sf ++ BitVec.ofBool f.zf ++ 0#1 ++ BitVec.ofBool f.af ++ 0#1 ++ BitVec.ofBool f.pf ++ 1#1 ++
    BitVec.ofBool f.cf

/-- These five flags taken from a byte, as SAHF loads them. -/
def Flags.withLowByte (f : Flags) (b : Byte) : Flags :=
  { f with sf := b.getLsbD 7, zf := b.getLsbD 6, af := b.getLsbD 4, pf := b.getLsbD 2, cf := b.getLsbD 0 }

theorem Flags.toWord_lowByte (f : Flags) : f.toWord.extractLsb' 0 8 = f.lowByte := by
  refine BitVec.eq_of_getLsbD_eq fun i hi => ?_
  simp only [BitVec.getLsbD_extractLsb', Flags.toWord, Flags.lowByte, BitVec.getLsbD_append]
  match i, hi with
  | 0, _ | 1, _ | 2, _ | 3, _ | 4, _ | 5, _ | 6, _ | 7, _ => rfl

theorem Flags.lowByte_withLowByte (f : Flags) (b : Byte) : (f.withLowByte b).lowByte = (b &&& 0xD5#8) ||| 2#8 := by
  refine BitVec.eq_of_getLsbD_eq fun i hi => ?_
  simp only [Flags.withLowByte, Flags.lowByte, BitVec.getLsbD_append, BitVec.getLsbD_ofBool, BitVec.getLsbD_or,
    BitVec.getLsbD_and]
  match i, hi with
  | 0, _ | 2, _ | 4, _ | 6, _ | 7, _ => exact ((Bool.or_false _).trans (Bool.and_true _)).symm
  | 3, _ | 5, _ => exact ((Bool.or_false _).trans (Bool.and_false _)).symm
  | 1, _ => exact (Bool.or_true _).symm

/-- Bits 8 to 31 of EFLAGS hold none of these five flags. -/
theorem Flags.toWord_withLowByte_high (f : Flags) (b : Byte) :
    (f.withLowByte b).toWord.extractLsb' 8 24 = f.toWord.extractLsb' 8 24 := by
  unfold Flags.toWord
  simp (disch := omega) only [BitVec.extractLsb'_append_eq_of_le]
  rfl

theorem Flags.toWord_withLowByte (f : Flags) (b : Byte) :
    (f.withLowByte b).toWord = f.toWord.extractLsb' 8 24 ++ ((b &&& 0xD5#8) ||| 2#8) := by
  rw [← f.toWord_withLowByte_high b, ← f.lowByte_withLowByte b, ← Flags.toWord_lowByte]
  exact (BitVec.extractLsb'_append_extractLsb' (w := 24) (len := 8)).symm

/-! ## A load of the low byte -/

theorem Flags.toWord_iopl (f : Flags) : f.toWord.extractLsb' 12 2 = f.iopl := by
  unfold Flags.toWord
  simp (disch := omega) only [BitVec.extractLsb'_append_eq_of_le]
  exact BitVec.extractLsb'_append_eq_right

/-- The image of EFLAGS loses nothing. -/
theorem Flags.ofWord_toWord (f : Flags) : Flags.ofWord f.toWord = f := by
  unfold Flags.ofWord
  rw [Flags.toWord_iopl]
  simp only [Flags.toWord, BitVec.getLsbD_append, BitVec.getLsbD_ofBool]
  rfl

/-- A bit of a word that a mask puts together from an image and an old word. -/
theorem getLsbD_of_mask {w k : Nat} (img old mask : BitVec w) (hk : k < w) :
    (img &&& mask ||| old &&& ~~~mask).getLsbD k = if mask.getLsbD k then img.getLsbD k else old.getLsbD k := by
  rw [BitVec.getLsbD_or, BitVec.getLsbD_and, BitVec.getLsbD_and, BitVec.getLsbD_not, decide_eq_true hk, Bool.true_and]
  cases mask.getLsbD k with
  | true => rw [Bool.and_true, Bool.not_true, Bool.and_false, Bool.or_false, if_pos rfl]
  | false => rw [Bool.and_false, Bool.not_false, Bool.and_true, Bool.false_or, if_neg Bool.false_ne_true]

/-- Each flag that the mask of SAHF names comes from the image, each other one from the EFLAGS before. -/
theorem Flags.load_lowByte (f : Flags) (b : Byte) : f.load (b.setWidth 32) 0xD5#32 = f.withLowByte b := by
  have hiopl : (b.setWidth 32 &&& 0xD5#32 ||| f.toWord &&& ~~~0xD5#32).extractLsb' 12 2 =
      f.toWord.extractLsb' 12 2 := by
    have hmask : (0xD5#32).extractLsb' 12 2 = 0#2 := by decide
    have hrest : (~~~0xD5#32).extractLsb' 12 2 = BitVec.allOnes 2 := by decide
    rw [BitVec.extractLsb'_or, BitVec.extractLsb'_and, BitVec.extractLsb'_and, hmask, hrest, BitVec.and_zero,
      BitVec.and_allOnes, BitVec.zero_or]
  calc f.load (b.setWidth 32) 0xD5#32
    _ = (Flags.ofWord f.toWord).withLowByte b := by
      unfold Flags.load Flags.ofWord Flags.withLowByte
      rw [hiopl]
      simp (disch := decide) only [getLsbD_of_mask, BitVec.getLsbD_setWidth]
      rfl
    _ = f.withLowByte b := by rw [Flags.ofWord_toWord]

/-! ## CLC, CMC, STC, LAHF and SAHF (R480, R483, R484, R493, R494) -/

theorem lahfOp_apply (s : State) : lahfOp s = setReg 8 rAH (s.flags.toWord.setWidth 8) s := M.bind_ok (M.get_apply s)

theorem sahfOp_apply (s : State) : sahfOp s = setFlags (·.withLowByte (s.gpr.read 8 rAH)) s := by
  unfold sahfOp
  rw [M.bind_ok (getReg_apply 8 rAH s)]
  simp only [Flags.load_lowByte]

/-- Settles O31: each encoding is its own arm of the decoder; LAHF and SAHF come down to EFLAGS as its low byte and the
bits above. -/
theorem carryAndAhInstructions : Obligations.CarryAndAhInstructions := by
  refine ⟨?encoding, ?carry, ?lahf, ?sahf⟩
  case encoding => exact fun c rest => ⟨rfl, rfl, rfl, rfl, rfl⟩
  case carry =>
    exact fun s => ⟨writesFlags_of_setFlags (fun f => { f with cf := false }) rfl rfl,
      writesFlags_of_setFlags (fun f => { f with cf := true }) rfl rfl,
      writesFlags_of_setFlags (fun f => { f with cf := !f.cf }) rfl rfl⟩
  case lahf =>
    intro s image
    have himage : image = s.flags.toWord.extractLsb' 0 8 := s.flags.toWord_lowByte.symm
    rw [himage, ← BitVec.setWidth_eq_extractLsb' (by decide)]
    exact ⟨rfl, writesRegs_of_setReg rfl (lahfOp_apply s.noWindow)⟩
  case sahf =>
    intro s ah f
    exact ⟨writesFlags_of_setFlags (·.withLowByte ah) rfl (sahfOp_apply s.noWindow),
      s.flags.toWord_withLowByte ah⟩

/-! ## NOP, LEA and CPUID (R486 to R490) -/

theorem leaOp_apply (w : Nat) (r : Reg) (ea : Ea) (s : State) :
    leaOp w r ea s = setReg w r ((eaOffset s.gpr ea).setWidth w) s := M.bind_ok (M.get_apply s)

/-- CPUID writes its four answers and draws a free value for each. -/
theorem cpuidOp_apply (s : State) :
    let answer := cpuidAnswer s.gpr.eax (Config.freeBits 32 s.fresh) (Config.freeBits 32 (s.fresh + 1))
      (Config.freeBits 32 (s.fresh + 2)) (Config.freeBits 32 (s.fresh + 3))
    cpuidOp s = .ok ((), { s with
      gpr := { s.gpr with eax := answer.1, ebx := answer.2.1, ecx := answer.2.2.1, edx := answer.2.2.2 },
      fresh := s.fresh + 4 }) := by
  intro answer
  have hinput : s.gpr.read 32 rA = s.gpr.eax := BitVec.setWidth_eq _
  unfold cpuidOp
  rw [M.bind_ok (getReg_apply 32 rA s), hinput, M.bind_ok (freeBits_apply 32 _), M.bind_ok (freeBits_apply 32 _),
    M.bind_ok (freeBits_apply 32 _), M.bind_ok (freeBits_apply 32 _)]
  exact (M.bind_ok (setReg_apply 32 rA answer.1 _)).trans <| (M.bind_ok (setReg_apply 32 rB answer.2.1 _)).trans <|
    (M.bind_ok (setReg_apply 32 rC answer.2.2.1 _)).trans (setReg_apply 32 rD answer.2.2.2 _)

/-- Free bits under a mask do not reach a field that lies outside the mask. -/
theorem extractLsb'_or_free {w start len : Nat} {fixed free mask : BitVec w} (h : mask.extractLsb' start len = 0#len) :
    (fixed ||| free &&& mask).extractLsb' start len = fixed.extractLsb' start len := by
  rw [BitVec.extractLsb'_or, BitVec.extractLsb'_and, h, BitVec.and_zero, BitVec.or_zero]

theorem cpuidFeatures_extractLsb' {start len : Nat} (free : DWord) (h : (0xFFFF0C00#32).extractLsb' start len = 0#len) :
    (cpuidFeatures free).extractLsb' start len = (0xF1FF#32).extractLsb' start len :=
  extractLsb'_or_free h

/-- Settles O32: NOP changes nothing, LEA writes one register, and each input of CPUID has its own answer, whose fixed
fields the free bits do not reach. -/
theorem miscellaneousResult : Obligations.MiscellaneousResult := by
  refine ⟨?nop, ?lea, ?cpuid⟩
  case nop => exact fun s => finishes_of_run (body := pure ()) rfl (M.pure_apply _ _) rfl
  case lea =>
    intro s r ea
    have hwide := leaOp_apply 32 r ea s.noWindow
    rw [BitVec.setWidth_eq] at hwide
    exact ⟨writesRegs_of_setReg rfl (leaOp_apply 16 r ea s.noWindow), writesRegs_of_setReg rfl hwide⟩
  case cpuid =>
    intro s
    refine ⟨_, _, _, _, writesRegs_of_run rfl (cpuidOp_apply s.noWindow), ?vendor, ?family, ?cache⟩
    case vendor =>
      intro h
      rw [show s.noWindow.gpr.eax = 0#32 from h]
      exact ⟨rfl, rfl, rfl, rfl⟩
    case family =>
      intro h
      rw [show s.noWindow.gpr.eax = 1#32 from h]
      exact ⟨extractLsb'_or_free rfl, extractLsb'_or_free rfl, cpuidFeatures_extractLsb' _ rfl,
        cpuidFeatures_extractLsb' _ rfl⟩
    case cache =>
      intro h
      rw [show s.noWindow.gpr.eax = 2#32 from h]
      exact ⟨rfl, rfl, rfl, rfl⟩

end Sys2Proof.Machine
end
